-- ==== Sys2Proof/Word.lean ====
section
/-! DEFINITION. The words that cross the pins of the Parvik 3140: bytes on the master links, the
sensor bus and the EEPROM bus, and the two-byte and four-byte fields made of them (R187). Held
quantities are plain numbers: the manual computes with them as integers (section 5.3 of its opening
chapter), and only what it lays out in bits is a bit vector here. -/

namespace Sys2Proof

/-- One byte on a line or in the EEPROM. -/
abbrev Byte := BitVec 8

/-- A two-byte field of a frame (R187). -/
abbrev Half := BitVec 16

/-- A four-byte field of a frame (R187), and the minute count of the time base (R166). -/
abbrev Word := BitVec 32

end Sys2Proof
end

