-- ==== Sys2Proof/Syntax.lean ====
section
/-! DEFINITION. The commands of the Parvik 3140: one constructor of `Instr` for each row of
spec/opcode_table.json, with the operands the row's rule gives it, and the names those operands use.

The part has no processor. A command is an event that reaches one of its blocks: a step of a clock,
an event inside such a step, a byte or a break on a line, a frame taken from a master, the end of an
EEPROM access. What the part measures or receives at the event is the command's operand. -/

namespace Sys2Proof

/-- The three master links, in the order R187 codes them. -/
inductive Link where
  | panel | heating | service
  deriving DecidableEq, Repr

/-- The two air sides. Each has a fan (R43), a flow probe (R45) and a filter (R134). -/
inductive Side where
  | supply | extract
  deriving DecidableEq, Repr

/-- The four zones (R113). -/
inductive Zone where
  | z1 | z2 | z3 | z4
  deriving DecidableEq, Repr

/-- The four airstream temperature probes, in STATUS order (R64, R190). -/
inductive AirProbe where
  | oda | sup | eta | eha
  deriving DecidableEq, Repr

/-- A humidity sensor module as the scanner names it (R95). -/
inductive Sensor where
  | zone (z : Zone)
  | extract
  deriving DecidableEq, Repr

/-- One conversion of a pressure transducer (R45, R136): a reading in 0.1 Pa, or the out-of-range
outcome of an open, shorted or overranged transducer. -/
inductive Conversion where
  | reading (p : Nat)
  | outOfRange
  deriving DecidableEq, Repr

/-- What the part converts at one control step: both flow probes (R45), the four airstream probes
in 0.1 degrees C (R64), and both filter probes (R136). -/
structure ControlInputs where
  supplyFlow : Conversion
  extractFlow : Conversion
  oda : Int
  sup : Int
  eta : Int
  eha : Int
  supplyFilter : Conversion
  extractFilter : Conversion
  deriving DecidableEq, Repr

/-- What arrives on a receive line: a byte, or a byte with a framing error (R157). -/
inductive RxItem where
  | byte (b : Byte)
  | framingError
  deriving DecidableEq, Repr

/-- What the I2C read of the settings image gave (R183): no acknowledgement, or the bytes read. -/
inductive ImageRead where
  | notAcknowledged
  | bytes (bs : List Byte)
  deriving DecidableEq, Repr

/-- The commands, in the order of spec/opcode_table.json. A request carries the link it arrives on
and the tag of its frame; its other operands are the fields of its payload (R189). -/
inductive Instr where
  | powerOn
  | loadEnd (read : ImageRead)
  | controlStep (inp : ControlInputs)
  | fanRunningEntry (f : Side)
  | fanStall (f : Side)
  | fanRetryStart (f : Side)
  | fanRetryEnd (f : Side)
  | shortfallSet (f : Side)
  | shortfallCleared (f : Side)
  | attemptCountReset (f : Side)
  | flowProbeFault (f : Side)
  | flowProbeRecover (f : Side) (p : Nat)
  | tempProbeFault (p : AirProbe)
  | tempProbeRecover (p : AirProbe) (t : Int)
  | preheaterBurstOff
  | filterProbeFault (f : Side)
  | filterProbeRecover (f : Side) (p : Nat)
  | frostStep
  | thawSuccess
  | thawTimeout
  | thawGapElapsed
  | lockoutRelease
  | blindPhaseEnd
  | travelSecond
  | damperTravelEnd
  | minuteTick
  | entryExpiry
  | hourlyRecord
  | boostRebaseline (z : Zone)
  | filterFieldsHandover
  | filterStep
  | procedureSecond
  | flowCheck
  | procedureSample
  | scanRound
  | requestSent
  | busReply (b : Byte)
  | busFramingError
  | busReplyTimeout
  | sensorStale (n : Sensor)
  | frameGapTimeout (l : Link)
  | frameDiscarded (l : Link) (item : RxItem)
  | replySent (l : Link)
  | linkReset (l : Link)
  | breakEnd (l : Link)
  | status (l : Link) (tag : Byte)
  | events (l : Link) (tag : Byte)
  | post (l : Link) (tag kind : Byte) (level duration : Half)
  | withdraw (l : Link) (tag handle : Byte)
  | list (l : Link) (tag start : Byte)
  | getKey (l : Link) (tag code : Byte)
  | setKey (l : Link) (tag code : Byte) (value : Word)
  | setGroupFrostThresholds (l : Link) (tag : Byte) (v : Vector Half 7)
  | setGroupEventMap (l : Link) (tag : Byte) (v : Vector Byte 14)
  | start (l : Link) (tag selection : Byte)
  | abort (l : Link) (tag : Byte)
  | procedure (l : Link) (tag : Byte)
  | clearFan (l : Link) (tag : Byte) (f : Side)
  | clearFrostLockout (l : Link) (tag : Byte)
  | clearPreheater (l : Link) (tag : Byte)
  | time (l : Link) (tag : Byte) (count : Word)
  | probe (l : Link) (tag address command register : Byte)
  | fetch (l : Link) (tag : Byte)
  | logRead (l : Link) (tag n : Byte)
  | logRelease (l : Link) (tag n : Byte)
  | logRewind (l : Link) (tag : Byte)
  | recent (l : Link) (tag n : Byte)
  | writeBehindStart
  | imageWriteEnd (acked : Bool) (readBack : List Byte)
  | linkByteReceived (l : Link) (b : Byte)
  | busReplyByte (b : Byte)
  | tachPulse (f : Side)
  | unknownRequestKind (l : Link) (tag kind : Byte) (payload : List Byte)
  deriving DecidableEq, Repr

end Sys2Proof
end

