-- ==== Sys2Proof/Decode.lean ====
section
/-! DEFINITION. The part decodes no instruction words: it takes commands. spec/opcode_table.json gives
no row any bits (every row's field list is empty), so no word spells a command. -/

namespace Sys2Proof

/-- The command a word of the table's bits spells. No row of the table gives bits, so none does. -/
def decodeTableWord (_nbits _w : Nat) : Option Instr := none

end Sys2Proof
end

