-- ==== Sys2Proof/Machine/Types.lean ====
section
/-! DEFINITION. The records of the twelve blocks, field for field as the manual's tables give them,
and the containers that hold one record per link, side, zone or probe. -/

namespace Sys2Proof.Machine

/-! ### One record per link, side, zone or probe -/

/-- One value for each master link. -/
structure PerLink (α : Type) where
  panel : α
  heating : α
  service : α
  deriving DecidableEq, Repr

/-- The value of a link. -/
def PerLink.get {α : Type} (p : PerLink α) : Link → α
  | .panel => p.panel
  | .heating => p.heating
  | .service => p.service

/-- Replace the value of a link. -/
def PerLink.set {α : Type} (p : PerLink α) (l : Link) (a : α) : PerLink α :=
  match l with
  | .panel => { p with panel := a }
  | .heating => { p with heating := a }
  | .service => { p with service := a }

/-- Change every link's value, knowing which link it is. -/
def PerLink.mapWith {α β : Type} (p : PerLink α) (f : Link → α → β) : PerLink β :=
  { panel := f .panel p.panel, heating := f .heating p.heating, service := f .service p.service }

/-- One value for the supply side and one for the extract side. -/
structure PerSide (α : Type) where
  supply : α
  extract : α
  deriving DecidableEq, Repr

/-- The value of a side. -/
def PerSide.get {α : Type} (p : PerSide α) : Side → α
  | .supply => p.supply
  | .extract => p.extract

/-- Replace the value of a side. -/
def PerSide.set {α : Type} (p : PerSide α) (f : Side) (a : α) : PerSide α :=
  match f with
  | .supply => { p with supply := a }
  | .extract => { p with extract := a }

/-- One value for each of the four zones. -/
structure PerZone (α : Type) where
  z1 : α
  z2 : α
  z3 : α
  z4 : α
  deriving DecidableEq, Repr

/-- The value of a zone. -/
def PerZone.get {α : Type} (p : PerZone α) : Zone → α
  | .z1 => p.z1
  | .z2 => p.z2
  | .z3 => p.z3
  | .z4 => p.z4

/-- Replace the value of a zone. -/
def PerZone.set {α : Type} (p : PerZone α) (z : Zone) (a : α) : PerZone α :=
  match z with
  | .z1 => { p with z1 := a }
  | .z2 => { p with z2 := a }
  | .z3 => { p with z3 := a }
  | .z4 => { p with z4 := a }

/-- One value for each airstream probe. -/
structure PerProbe (α : Type) where
  oda : α
  sup : α
  eta : α
  eha : α
  deriving DecidableEq, Repr

/-- The value of an airstream probe. -/
def PerProbe.get {α : Type} (p : PerProbe α) : AirProbe → α
  | .oda => p.oda
  | .sup => p.sup
  | .eta => p.eta
  | .eha => p.eha

/-- Replace the value of an airstream probe. -/
def PerProbe.set {α : Type} (p : PerProbe α) (n : AirProbe) (a : α) : PerProbe α :=
  match n with
  | .oda => { p with oda := a }
  | .sup => { p with sup := a }
  | .eta => { p with eta := a }
  | .eha => { p with eha := a }

/-! ### Stamps, result codes and event kinds -/

/-- A minute stamp: the minute count, with the UNSYNCED mark or without it (R166). -/
structure Stamp where
  minutes : Word
  unsynced : Bool
  deriving DecidableEq, Repr

/-- The result codes of a reply, in the order of R189. -/
inductive ResultCode where
  | ok | pending | wait | busy | full | quota | noEntry | notOwner | denied | notNow | bad | ignored
  deriving DecidableEq, Repr

/-- The fourteen event kinds, in the mask order of R189. -/
inductive EventKind where
  | frostStage | frostLockout | thawEnd | preheaterFault | fanFault | probeFault | filterState
  | procedureEnd | zoneState | sensorStale | storeState | logAlmostFull | demandExpired | probeReady
  deriving DecidableEq, Repr

/-- A set of event kinds, as the mask of R189: bit k is the k-th kind. -/
abbrev KindSet := BitVec 14

/-! ### The demand table (chapter 1) -/

/-- Who placed a demand entry (R4). -/
inductive Source where
  | link (l : Link)
  | zone (z : Zone)
  | dryGuard
  deriving DecidableEq, Repr

/-- What an entry asks for (R4): a BYPASS entry carries no level. -/
inductive Want where
  | raise (level : Nat)
  | setback (level : Nat)
  | bypass
  deriving DecidableEq, Repr

/-- A live demand entry (R4). Its handle is its slot and generation (R3). A standing entry has no
remaining count. -/
structure Entry where
  slot : Fin 16
  gen : Fin 16
  source : Source
  want : Want
  remaining : Option Nat
  posted : Stamp
  deriving DecidableEq, Repr

/-- The demand table (R1, R2, R6): a generation tag for each slot, and the live entries in posting
order, oldest first. A slot is live when an entry of the list stands in it. -/
structure DemandTable where
  tags : Vector (Fin 16) 16
  entries : List Entry
  deriving DecidableEq, Repr

/-! ### The operating point and the damper (chapter 2) -/

/-- The limiting flags, in the order of R25. -/
structure LimitFlags where
  setbackApplied : Bool
  healthMin : Bool
  unitMax : Bool
  filterCap : Bool
  procedure : Bool
  frostUnbalance : Bool
  frostThaw : Bool
  depressurisation : Bool
  supplyFault : Bool
  extractFault : Bool
  deriving DecidableEq, Repr

/-- The operating point record (R25). -/
structure OperatingPoint where
  w : Nat
  b : Nat
  s : Nat
  e : Nat
  bypassOpen : Bool
  flags : LimitFlags
  contributing : Option Nat
  deriving DecidableEq, Repr

/-- The damper states, in the order of R39. -/
inductive DamperState where
  | closed | opening | opened | closing
  deriving DecidableEq, Repr

/-- The damper record (R39). -/
structure Damper where
  state : DamperState
  position : Nat
  homing : Bool
  deriving DecidableEq, Repr

/-! ### The fan block (chapter 3) -/

/-- The fan states, in the order of R43. -/
inductive FanState where
  | stopped | starting | running | stalled | retrying | failed
  deriving DecidableEq, Repr

/-- The flow band (R43, R53). -/
inductive Band where
  | below | inBand | above
  deriving DecidableEq, Repr

/-- A fan record (R43), with the pulses counted since the last control step (R47). -/
structure FanRecord where
  state : FanState
  target : Nat
  duty : Nat
  flow : Nat
  speed : Nat
  band : Band
  shortfall : Bool
  shortfallCount : Nat
  attempts : Nat
  probeFault : Bool
  phase : Nat
  lowSpeed : Nat
  run : Nat
  probeCount : Nat
  pulses : Nat
  deriving DecidableEq, Repr

/-! ### The frost guard (chapter 4) -/

/-- The status of an airstream probe with the value it holds (R64): none before the first good read,
and a faulted probe holds the last good value it had, if it had one (R65). -/
inductive ProbeStatus where
  | noValue
  | good (value : Int)
  | faulted (held : Option Int)
  deriving DecidableEq, Repr

/-- An airstream probe record (R64). -/
structure ProbeRecord where
  status : ProbeStatus
  reads : Nat
  deriving DecidableEq, Repr

/-- The frost stages, in the order of R73. -/
inductive Stage where
  | normal | watch | preheat | unbalance | thaw | lockout | blind
  deriving DecidableEq, Repr

/-- The parts of the BLIND schedule (R73). -/
inductive BlindPhase where
  | run | thaw
  deriving DecidableEq, Repr

/-- The frost record (R73). -/
structure FrostRecord where
  stage : Stage
  f : Nat
  r : Nat
  failures : Nat
  gap : Nat
  elapsed : Nat
  success : Nat
  warmth : Nat
  blindPhase : Option BlindPhase
  blindCount : Nat
  duty : Nat
  fault : Bool
  pinned : Nat
  deriving DecidableEq, Repr

/-- The five bypass truths of R66, as the last control step found them. -/
structure BypassTruths where
  odaHealthy : Bool
  etaHealthy : Bool
  warm : Bool
  cold : Bool
  houseWarmer : Bool
  deriving DecidableEq, Repr

/-- The frost guard: its record, its probes, the bypass truths of the last control step, the state of
the heater output within the 10 s cycle (R83), and the number of the last frost step (R67). -/
structure FrostGuard where
  record : FrostRecord
  probes : PerProbe ProbeRecord
  truths : BypassTruths
  heaterOn : Bool
  steps : Nat
  deriving DecidableEq, Repr

/-- How a THAW ended (R79, R87), in the order of R191. -/
inductive ThawOutcome where
  | success | timeout | interrupted
  deriving DecidableEq, Repr

/-! ### The sensor bus (chapter 5) -/

/-- The sensor bus commands (R94). -/
inductive BusCommand where
  | sample | readReg
  deriving DecidableEq, Repr

/-- The fields of a bus request (R94). -/
structure BusRequest where
  address : Nat
  command : BusCommand
  register : Nat
  deriving DecidableEq, Repr

/-- Who started a transaction (R95). -/
inductive Originator where
  | scanner (n : Sensor)
  | passThrough (l : Link)
  deriving DecidableEq, Repr

/-- The phases of a transaction (R95). -/
inductive BusPhase where
  | sending | awaiting
  deriving DecidableEq, Repr

/-- The transaction record (R95); `reply` holds the bytes taken, the start byte among them. -/
structure Transaction where
  originator : Originator
  request : BusRequest
  phase : BusPhase
  reply : List Byte
  deriving DecidableEq, Repr

/-- What a complete reply carries (R94): the address that answered, the module status, four data
bytes. -/
structure BusData where
  address : Byte
  status : Byte
  d0 : Byte
  d1 : Byte
  d2 : Byte
  d3 : Byte
  deriving DecidableEq, Repr

/-- The outcomes of a transaction (R97), in the order R187 codes them. -/
inductive BusOutcome where
  | ok (d : BusData)
  | timeout
  | corrupt
  | wrongAddress (d : BusData)
  deriving DecidableEq, Repr

/-- A link's pass-through record (R102): each state with what it holds. -/
inductive PassRecord where
  | idle
  | queued (req : BusRequest)
  | active (req : BusRequest) (discard : Bool)
  | done (req : BusRequest) (result : BusOutcome)
  deriving DecidableEq, Repr

/-- The sensor bus controller (R95, R98, R99, R102, R106). -/
structure Bus where
  transaction : Option Transaction
  scanQueue : List Sensor
  roundCount : Nat
  passQueue : List Link
  pass : PerLink PassRecord
  credit : Nat
  deriving DecidableEq, Repr

/-! ### The humidity monitor (chapter 6) -/

/-- The zone types, in the order of R113. -/
inductive ZoneType where
  | unused | kitchen | bathroom | shower | utility
  deriving DecidableEq, Repr

/-- The zone states, in the order of R113. -/
inductive ZoneState where
  | unused | quiet | boosting | recovering | stale
  deriving DecidableEq, Repr

/-- The causes of a zone's change of state, in the order of R124. -/
inductive ZoneCause where
  | rise | rhHigh | resumed | settled | lost | expired | rebaselined | silent | fresh | typed
  deriving DecidableEq, Repr

/-- A good sample (R112): relative humidity, temperature and the absolute humidity of R111. -/
structure Sample where
  rh : Nat
  t : Int
  ah : Nat
  deriving DecidableEq, Repr

/-- A zone record (R113). -/
structure ZoneRecord where
  zoneType : ZoneType
  state : ZoneState
  baseline : Option Nat
  last : Option Sample
  failures : Nat
  stale : Bool
  lowCount : Nat
  boostTimer : Nat
  deriving DecidableEq, Repr

/-- The extract sensor record (R126): RH_eta and AH_eta of the last good sample, when there is one. -/
structure ExtractRecord where
  last : Option (Nat × Nat)
  failures : Nat
  stale : Bool
  deriving DecidableEq, Repr

/-- The humidity monitor: four zone records, the extract sensor record, and the level of the dry
guard's placed entry, which is present exactly while the guard is ON (R128). -/
structure Humidity where
  zones : PerZone ZoneRecord
  extract : ExtractRecord
  dryPlaced : Option Nat
  deriving DecidableEq, Repr

/-! ### The filter monitor and the procedure runner (chapter 7) -/

/-- The filter states, in the order of R134. -/
inductive FilterState where
  | clean | loading | due | overdue | blocked | missing
  deriving DecidableEq, Repr

/-- The fields of a filter record that the image keeps (R134). -/
structure Persisted where
  clean : Option Nat
  volume : Nat
  running : Nat
  age : Nat
  changes : Nat
  deriving DecidableEq, Repr

/-- A filter record (R134) with its filter probe (R136). -/
structure FilterRecord where
  kept : Persisted
  smoothed : Option Nat
  loading : Nat
  carry : Nat
  lifeUsed : Nat
  state : FilterState
  missing : Nat
  probeFault : Bool
  probeCount : Nat
  lastGood : Option Nat
  deriving DecidableEq, Repr

/-- The filter monitor: both filter records, the minute ticks counted towards the hourly handover
(R138), and the filter step count started at the end of the load (R186). -/
structure FilterMonitor where
  records : PerSide FilterRecord
  hourTicks : Nat
  steps : Nat
  deriving DecidableEq, Repr

/-- What a procedure measures, in the order of R187. -/
inductive Selection where
  | supply | extract | both
  deriving DecidableEq, Repr

/-- The procedure record (R145): each phase with what it holds. -/
inductive Procedure where
  | idle
  | settling (owner : Link) (sel : Selection) (seconds : Nat)
  | measuring (owner : Link) (sel : Selection) (seconds : Nat) (samples : PerSide (List Nat))
  deriving DecidableEq, Repr

/-- The outcomes of a procedure, in the order of R153. -/
inductive ProcedureOutcome where
  | done | failedFlow | failedProbe | abortedRequest | abortedLink | abortedFrost | abortedFan | none
  deriving DecidableEq, Repr

/-- The last outcome record (R153, R155). -/
structure LastOutcome where
  outcome : ProcedureOutcome
  selection : Option Selection
  owner : Option Link
  stamp : Option Stamp
  references : PerSide (Option Nat)
  deriving DecidableEq, Repr

/-- The procedure runner. -/
structure Runner where
  procedure : Procedure
  last : LastOutcome
  deriving DecidableEq, Repr

/-! ### Master links and time base (chapter 8) -/

/-- The link states (R156). -/
inductive LinkState where
  | listening | receiving | serving | replying | inBreak
  deriving DecidableEq, Repr

/-- A reply in transmission: its tag, the request's kind, the result and the payload (R188). -/
structure Reply where
  tag : Byte
  kind : Byte
  result : ResultCode
  payload : List Byte
  deriving DecidableEq, Repr

/-- A link record (R156), with the reply in transmission (R158). `pending` is the pending set and
`addressed` its addressed marks (R163). -/
structure LinkRecord where
  state : LinkState
  frame : List Byte
  pending : KindSet
  addressed : KindSet
  expired : List Nat
  attention : Bool
  reply : Option Reply
  deriving DecidableEq, Repr

/-- The time base (R166). -/
structure TimeBase where
  minutes : Word
  synced : Bool
  source : Option Link
  seconds : Nat
  deriving DecidableEq, Repr

/-! ### The log (chapter 9) -/

/-- How the settings load ended (R183), in the order of R191. -/
inductive LoadOutcome where
  | image | defaulted
  deriving DecidableEq, Repr

/-- The probes and sensors a PROBE record names, in the order of R191. -/
inductive ProbeName where
  | air (p : AirProbe)
  | flow (f : Side)
  | filter (f : Side)
  | sensor (n : Sensor)
  deriving DecidableEq, Repr

/-- A log record's kind and fields (R174). -/
inductive LogBody where
  | powerUp (outcome : Option LoadOutcome)
  | hourly (meanW meanSupply meanExtract : Nat) (oda : Option (Int × Int)) (maxF notNormal : Nat)
  | frostStage (left entered : Stage) (f : Nat)
  | thaw (outcome : ThawOutcome) (seconds : Nat)
  | filter (side : Side) (state : FilterState) (lifeUsed : Nat) (kept : Persisted)
  | procedure (outcome : ProcedureOutcome) (sel : Selection) (owner : Link)
  | fan (side : Side) (state : FanState)
  | zone (z : Zone) (state : ZoneState) (ah : Option Nat) (cause : ZoneCause)
  | probe (name : ProbeName) (recovered : Bool)
  | setting (code : Byte) (value : Word) (link : Option Link)
  | time (old : Stamp) (new : Word)
  deriving DecidableEq, Repr

/-- A log record as it stands in the ring. -/
structure LogRecord where
  stamp : Stamp
  body : LogBody
  deriving DecidableEq, Repr

/-- The hourly accumulators (R175); `oda` is the minimum and maximum of T_oda. -/
structure Hourly where
  ticks : Nat
  sumW : Nat
  sumSupply : Nat
  sumExtract : Nat
  oda : Option (Int × Int)
  maxF : Nat
  notNormal : Nat
  deriving DecidableEq, Repr

/-- The log (R173, R174, R175, R179): the ring holds the newest records written, oldest first. -/
structure Log where
  ring : List LogRecord
  write : Nat
  mark : Nat
  cursor : Nat
  overrun : Nat
  armed : Bool
  hourly : Hourly
  deriving DecidableEq, Repr

/-! ### The settings store (chapter 10) -/

/-- The store states, in the order of R183. -/
inductive StoreState where
  | loading | ok | defaulted | fault
  deriving DecidableEq, Repr

/-- The seven frost thresholds (R72). -/
structure Thresholds where
  watchOn : Nat
  preheatOff : Nat
  preheatOn : Nat
  unbalanceExit : Nat
  unbalanceDown : Nat
  unbalanceOn : Nat
  thawOn : Nat
  deriving DecidableEq, Repr

/-- The settings table (R181): a value for each of the 63 keys in key-code order, the frost threshold
group, and the event map group, held as the set of kinds given to each link. -/
structure Settings where
  values : Vector Int 63
  thresholds : Thresholds
  eventMap : PerLink KindSet
  deriving DecidableEq, Repr

/-- The settings store (R183, R184, R185): `loadedAs` is the state the load ended in, `persisted` the
filter fields handed to the store, `image` the image of the write in progress. -/
structure Store where
  state : StoreState
  loadedAs : LoadOutcome
  settings : Settings
  persisted : PerSide Persisted
  changed : Bool
  urgent : Bool
  writing : Bool
  quiet : Nat
  image : List Byte
  deriving DecidableEq, Repr

end Sys2Proof.Machine
end

