-- ==== Sys2Proof/Machine/Arith.lean ====
section
/-! DEFINITION. The arithmetic the chapters share (section 5.3 of the opening chapter): clamping,
division truncated toward zero, and the whole square root of R46. -/

namespace Sys2Proof.Machine

/-- "Clamped to lo–hi" (section 5.3) on held quantities that are never negative. -/
def clampNat (lo hi x : Nat) : Nat := min (max x lo) hi

/-- "Clamped to lo–hi" (section 5.3) on signed quantities. -/
def clampInt (lo hi x : Int) : Int := min (max x lo) hi

/-- `x` moved by a `1/n` of its distance to `goal`, truncated toward zero (R115, R140). -/
def approach (n : Int) (x goal : Nat) : Nat :=
  ((x : Int) + ((goal : Int) - (x : Int)).tdiv n).toNat

/-- The largest number up to `bound` whose square does not exceed `x`. -/
def sqrtUpTo (x : Nat) : Nat → Nat
  | 0 => 0
  | bound + 1 => if (bound + 1) * (bound + 1) ≤ x then bound + 1 else sqrtUpTo x bound

/-- The square-root term s of R46: the largest whole number whose square does not exceed Δp × 100.
Since a good reading is at most 5000, s is at most 707. -/
def rootTerm (dp : Nat) : Nat := sqrtUpTo (dp * 100) 707

/-- A conversion that is a good reading (R45, R136): from 0 to 5000. -/
def goodReading : Conversion → Option Nat
  | .reading p => if p ≤ 5000 then some p else none
  | .outOfRange => none

/-- A stamp is unsynced until a time source has set the time (R166). -/
def TimeBase.stamp (t : TimeBase) : Stamp :=
  { minutes := t.minutes, unsynced := !t.synced }

end Sys2Proof.Machine
end

