-- ==== Sys2Proof/Machine/Codes.lean ====
section
/-! DEFINITION. How values become bytes (R187): byte order, the position codes of the enumerated
fields, the CRC-8 of the frames and the CRC-16 of the settings image (R193). -/

namespace Sys2Proof.Machine

/-! ### Fields of several bytes, most significant byte first (R187) -/

/-- One byte of an unsigned number. -/
def byte1 (n : Nat) : List Byte := [BitVec.ofNat 8 n]

/-- A two-byte unsigned number. -/
def be16 (n : Nat) : List Byte := [BitVec.ofNat 8 (n / 256), BitVec.ofNat 8 n]

/-- A three-byte unsigned number (R191). -/
def be24 (n : Nat) : List Byte :=
  [BitVec.ofNat 8 (n / 65536), BitVec.ofNat 8 (n / 256), BitVec.ofNat 8 n]

/-- A four-byte unsigned number. -/
def be32 (n : Nat) : List Byte :=
  [BitVec.ofNat 8 (n / 16777216), BitVec.ofNat 8 (n / 65536), BitVec.ofNat 8 (n / 256),
    BitVec.ofNat 8 n]

/-- A two-byte signed number, two's complement. -/
def be16s (i : Int) : List Byte := be16 (BitVec.ofInt 16 i).toNat

/-- A flag in a byte of its own: 1 when set and 0 when clear (DEDUCED, assumption 21). -/
def flag (b : Bool) : List Byte := byte1 (if b then 1 else 0)

/-- An unsigned two-byte field, 0xFFFF when absent. -/
def be16? : Option Nat → List Byte
  | some n => be16 n
  | none => be16 0xFFFF

/-- A signed two-byte field, 0x8000 when absent. -/
def be16s? : Option Int → List Byte
  | some i => be16s i
  | none => be16 0x8000

/-- A one-byte field, 0xFF when absent. -/
def byte1? : Option Nat → List Byte
  | some n => byte1 n
  | none => byte1 0xFF

/-- The two-byte field of two bytes received. -/
def joinHalf (a b : Byte) : Half := a ++ b

/-- The four-byte field of four bytes received. -/
def joinWord (a b c d : Byte) : Word := joinHalf a b ++ joinHalf c d

/-- The bytes of a two-byte field. -/
def halfBytes (h : Half) : List Byte := be16 h.toNat

/-- The bytes of a four-byte field. -/
def wordBytes (w : Word) : List Byte := be32 w.toNat

/-! ### Checks over bytes -/

/-- One bit of a CRC register shifted out at its top, against the polynomial. -/
def crcShift {n : Nat} (poly : BitVec n) (r : BitVec n) : BitVec n :=
  if r.msb then (r <<< 1) ^^^ poly else r <<< 1

/-- `k` bits shifted out of a CRC register. -/
def crcShifts {n : Nat} (poly : BitVec n) : Nat → BitVec n → BitVec n
  | 0, r => r
  | k + 1, r => crcShifts poly k (crcShift poly r)

/-- The CRC-8 of the link and sensor bus frames (R187): polynomial 0x07, initial value 0x00, most
significant bit first, no final inversion. -/
def crc8 (bs : List Byte) : Byte :=
  bs.foldl (fun r b => crcShifts 0x07#8 8 (r ^^^ b)) 0x00#8

/-- The CRC-16 of the settings image (R193): polynomial 0x1021, initial value 0xFFFF, most
significant bit first, no final inversion. -/
def crc16 (bs : List Byte) : Half :=
  bs.foldl (fun r b => crcShifts 0x1021#16 8 (r ^^^ ((b.setWidth 16 : BitVec 16) <<< (8 : Nat)))) 0xFFFF#16

/-! ### Position codes of enumerated fields (R187) -/

/-- PANEL, HEATING, SERVICE. -/
def linkCode : Link → Nat
  | .panel => 0 | .heating => 1 | .service => 2

/-- SUPPLY, EXTRACT. -/
def sideCode : Side → Nat
  | .supply => 0 | .extract => 1

/-- The number of a zone, 1 to 4. -/
def zoneNumber : Zone → Nat
  | .z1 => 1 | .z2 => 2 | .z3 => 3 | .z4 => 4

/-- SUPPLY, EXTRACT, BOTH. -/
def selectionCode : Selection → Nat
  | .supply => 0 | .extract => 1 | .both => 2

/-- The selection a START byte names, if it names one (R146). -/
def selectionOf (b : Byte) : Option Selection :=
  match b.toNat with
  | 0 => some .supply
  | 1 => some .extract
  | 2 => some .both
  | _ => none

/-- The result codes 0x00 to 0x0B (R189). -/
def resultCode : ResultCode → Nat
  | .ok => 0 | .pending => 1 | .wait => 2 | .busy => 3 | .full => 4 | .quota => 5
  | .noEntry => 6 | .notOwner => 7 | .denied => 8 | .notNow => 9 | .bad => 10 | .ignored => 11

/-- The bit of an event kind in the masks of R189. -/
def kindIndex : EventKind → Nat
  | .frostStage => 0 | .frostLockout => 1 | .thawEnd => 2 | .preheaterFault => 3 | .fanFault => 4
  | .probeFault => 5 | .filterState => 6 | .procedureEnd => 7 | .zoneState => 8
  | .sensorStale => 9 | .storeState => 10 | .logAlmostFull => 11 | .demandExpired => 12
  | .probeReady => 13

/-- The set that holds one kind. -/
def oneKind (k : EventKind) : KindSet := BitVec.twoPow 14 (kindIndex k)

/-- Whether a set of kinds holds a kind. -/
def hasKind (m : KindSet) (k : EventKind) : Bool := m.getLsbD (kindIndex k)

/-- Entry sources in R4 order. -/
def sourceCode : Source → Nat
  | .link l => linkCode l
  | .zone z => 2 + zoneNumber z
  | .dryGuard => 7

/-- Entry kinds in R4 order. -/
def wantCode : Want → Nat
  | .raise _ => 0 | .setback _ => 1 | .bypass => 2

/-- Fan states in R43 order. -/
def fanStateCode : FanState → Nat
  | .stopped => 0 | .starting => 1 | .running => 2 | .stalled => 3 | .retrying => 4 | .failed => 5

/-- BELOW, IN, ABOVE. -/
def bandCode : Band → Nat
  | .below => 0 | .inBand => 1 | .above => 2

/-- Frost stages in R73 order. -/
def stageCode : Stage → Nat
  | .normal => 0 | .watch => 1 | .preheat => 2 | .unbalance => 3 | .thaw => 4 | .lockout => 5
  | .blind => 6

/-- RUN, THAW. -/
def blindPhaseCode : BlindPhase → Nat
  | .run => 0 | .thaw => 1

/-- NO_VALUE, GOOD, FAULTED (R64). -/
def probeStatusCode : ProbeStatus → Nat
  | .noValue => 0 | .good _ => 1 | .faulted _ => 2

/-- Damper states in R39 order. -/
def damperCode : DamperState → Nat
  | .closed => 0 | .opening => 1 | .opened => 2 | .closing => 3

/-- Filter states in R134 order. -/
def filterStateCode : FilterState → Nat
  | .clean => 0 | .loading => 1 | .due => 2 | .overdue => 3 | .blocked => 4 | .missing => 5

/-- Zone types in R113 order. -/
def zoneTypeCode : ZoneType → Nat
  | .unused => 0 | .kitchen => 1 | .bathroom => 2 | .shower => 3 | .utility => 4

/-- The zone type a stored value of `zone_n_type` stands for. -/
def zoneTypeOf (v : Int) : ZoneType :=
  match v.toNat with
  | 1 => .kitchen
  | 2 => .bathroom
  | 3 => .shower
  | 4 => .utility
  | _ => .unused

/-- Zone states in R113 order. -/
def zoneStateCode : ZoneState → Nat
  | .unused => 0 | .quiet => 1 | .boosting => 2 | .recovering => 3 | .stale => 4

/-- Zone causes in R124 order. -/
def zoneCauseCode : ZoneCause → Nat
  | .rise => 0 | .rhHigh => 1 | .resumed => 2 | .settled => 3 | .lost => 4 | .expired => 5
  | .rebaselined => 6 | .silent => 7 | .fresh => 8 | .typed => 9

/-- OK, TIMEOUT, CORRUPT, WRONG_ADDRESS (R187). -/
def busOutcomeCode : BusOutcome → Nat
  | .ok _ => 0 | .timeout => 1 | .corrupt => 2 | .wrongAddress _ => 3

/-- SAMPLE 0x01, READ_REG 0x02 (R192). -/
def busCommandCode : BusCommand → Nat
  | .sample => 1 | .readReg => 2

/-- Procedure outcomes in R153 order, closed by NONE. -/
def outcomeCode : ProcedureOutcome → Nat
  | .done => 0 | .failedFlow => 1 | .failedProbe => 2 | .abortedRequest => 3 | .abortedLink => 4
  | .abortedFrost => 5 | .abortedFan => 6 | .none => 7

/-- Store states in R183 order. -/
def storeStateCode : StoreState → Nat
  | .loading => 0 | .ok => 1 | .defaulted => 2 | .fault => 3

/-- SUCCESS, TIMEOUT, INTERRUPTED (R191). -/
def thawOutcomeCode : ThawOutcome → Nat
  | .success => 0 | .timeout => 1 | .interrupted => 2

/-- PROBE codes of R191. -/
def probeNameCode : ProbeName → Nat
  | .air .oda => 0 | .air .sup => 1 | .air .eta => 2 | .air .eha => 3
  | .flow f => 4 + sideCode f
  | .filter f => 6 + sideCode f
  | .sensor (.zone z) => 7 + zoneNumber z
  | .sensor .extract => 12

/-! ### Masks -/

/-- A mask whose bit k, from the least significant, is the k-th flag of the list (R187). -/
def maskOf : List Bool → Nat
  | [] => 0
  | b :: bs => (if b then 1 else 0) + 2 * maskOf bs

/-- The limiting flags as the mask of R190, in R25 order. -/
def LimitFlags.mask (x : LimitFlags) : Nat :=
  maskOf [x.setbackApplied, x.healthMin, x.unitMax, x.filterCap, x.procedure, x.frostUnbalance,
    x.frostThaw, x.depressurisation, x.supplyFault, x.extractFault]

end Sys2Proof.Machine
end

