-- ==== Sys2Proof/Machine/Keys.lean ====
section
/-! DEFINITION. The settings table: its keys and key codes (R189), ranges, defaults and classes (R44,
R71, R93, R114, R128, R135, R181), the clamping of one key against its related keys (R182), the
frost threshold group (R72) and the event map group (R165). -/

namespace Sys2Proof.Machine

/-- The seven keys of a zone, in key-code order (R189). -/
inductive ZoneKey where
  | zoneType | boostLevel | boostOn | boostOff | overrun | maxBoost | address
  deriving DecidableEq, Repr

/-- The 63 keys of the settings table, in key-code order (R189). -/
inductive Key where
  | nominalFlow | bypassMinOutdoor | unitMax | healthMin | maxDepressurisation | overdueCap
  | logAlmostFull
  | deadband | loopGain | stepMax | dutyMin | dutyMax | startDuty | ringKSupply | ringKExtract
  | frostThreshold | maxUnbalance | thawEnd | thawMax | thawGap | lockoutRelease
  | preheaterFitted | preheatMinFlow | preheatMax
  | extractAddress | scanPeriod | scanQuota
  | dryOn | dryOff | dryLevel
  | qRef | endFactor | lifeVolume | maxAge | dueLevel
  | zone (z : Zone) (k : ZoneKey)
  deriving DecidableEq, Repr

/-- The place of a zone's key among its seven. -/
def zoneKeyIndex : ZoneKey → Nat
  | .zoneType => 0 | .boostLevel => 1 | .boostOn => 2 | .boostOff => 3 | .overrun => 4
  | .maxBoost => 5 | .address => 6

/-- The key code of a key (R189): 1 to 35, then seven codes from 29 + 7n for zone n. -/
def keyCode : Key → Nat
  | .nominalFlow => 1 | .bypassMinOutdoor => 2 | .unitMax => 3 | .healthMin => 4
  | .maxDepressurisation => 5 | .overdueCap => 6 | .logAlmostFull => 7
  | .deadband => 8 | .loopGain => 9 | .stepMax => 10 | .dutyMin => 11 | .dutyMax => 12
  | .startDuty => 13 | .ringKSupply => 14 | .ringKExtract => 15
  | .frostThreshold => 16 | .maxUnbalance => 17 | .thawEnd => 18 | .thawMax => 19 | .thawGap => 20
  | .lockoutRelease => 21 | .preheaterFitted => 22 | .preheatMinFlow => 23 | .preheatMax => 24
  | .extractAddress => 25 | .scanPeriod => 26 | .scanQuota => 27
  | .dryOn => 28 | .dryOff => 29 | .dryLevel => 30
  | .qRef => 31 | .endFactor => 32 | .lifeVolume => 33 | .maxAge => 34 | .dueLevel => 35
  | .zone z k => 29 + 7 * zoneNumber z + zoneKeyIndex k

/-- Every key has a code from 1 to 63. -/
theorem keyCode_range (k : Key) : 1 ≤ keyCode k ∧ keyCode k ≤ 63 := by
  cases k with
  | zone z k => cases z <;> cases k <;> decide
  | _ => decide

/-- The place of a key's value in the table. -/
def keyPlace (k : Key) : Fin 63 := ⟨keyCode k - 1, by have := keyCode_range k; omega⟩

/-- The seven keys of one zone, in key-code order. -/
def zoneKeys (z : Zone) : List Key :=
  [.zone z .zoneType, .zone z .boostLevel, .zone z .boostOn, .zone z .boostOff, .zone z .overrun,
    .zone z .maxBoost, .zone z .address]

/-- Every key, in key-code order. -/
def allKeys : List Key :=
  [.nominalFlow, .bypassMinOutdoor, .unitMax, .healthMin, .maxDepressurisation, .overdueCap,
    .logAlmostFull, .deadband, .loopGain, .stepMax, .dutyMin, .dutyMax, .startDuty, .ringKSupply,
    .ringKExtract, .frostThreshold, .maxUnbalance, .thawEnd, .thawMax, .thawGap, .lockoutRelease,
    .preheaterFitted, .preheatMinFlow, .preheatMax, .extractAddress, .scanPeriod, .scanQuota,
    .dryOn, .dryOff, .dryLevel, .qRef, .endFactor, .lifeVolume, .maxAge, .dueLevel]
  ++ zoneKeys .z1 ++ zoneKeys .z2 ++ zoneKeys .z3 ++ zoneKeys .z4

/-- The key a code names, if it names one. -/
def keyOfCode (c : Nat) : Option Key :=
  match c with
  | 0 => none
  | n + 1 => allKeys[n]?

/-- The ring factor key of a side (R44). -/
def ringKey : Side → Key
  | .supply => .ringKSupply
  | .extract => .ringKExtract

/-! ### Reading and writing the table -/

/-- The value of a key. -/
def Settings.get (t : Settings) (k : Key) : Int := t.values.get (keyPlace k)

/-- The value of a key that is never negative. -/
def Settings.nat (t : Settings) (k : Key) : Nat := (t.get k).toNat

/-- Put a value in the table. -/
def Settings.put (t : Settings) (k : Key) (v : Int) : Settings :=
  { t with values := t.values.set (keyPlace k).val v (keyPlace k).isLt }

/-! ### Ranges, defaults and classes -/

/-- The range of a zone's key (R93, R114). -/
def zoneKeyRange : ZoneKey → Int × Int
  | .zoneType => (0, 4)
  | .boostLevel => (100, 1200)
  | .boostOn => (20, 1000)
  | .boostOff => (0, 500)
  | .overrun => (1, 120)
  | .maxBoost => (10, 240)
  | .address => (1, 14)

/-- The range of a key (R44, R71, R93, R114, R128, R135, R181). The range of `q_ref` ends at
`unit_max` (R135), which the related keys of R182 give; 1200 is the highest `unit_max`. -/
def keyRange : Key → Int × Int
  | .nominalFlow => (50, 1200)
  | .bypassMinOutdoor => (100, 250)
  | .unitMax => (300, 1200)
  | .healthMin => (50, 600)
  | .maxDepressurisation => (50, 400)
  | .overdueCap => (50, 1200)
  | .logAlmostFull => (64, 511)
  | .deadband => (0, 50)
  | .loopGain => (1, 255)
  | .stepMax => (1, 200)
  | .dutyMin => (50, 500)
  | .dutyMax => (300, 1000)
  | .startDuty => (100, 1000)
  | .ringKSupply => (50, 2000)
  | .ringKExtract => (50, 2000)
  | .frostThreshold => (-50, 50)
  | .maxUnbalance => (0, 1000)
  | .thawEnd => (0, 200)
  | .thawMax => (5, 60)
  | .thawGap => (10, 120)
  | .lockoutRelease => (0, 150)
  | .preheaterFitted => (0, 1)
  | .preheatMinFlow => (50, 400)
  | .preheatMax => (100, 1000)
  | .extractAddress => (1, 14)
  | .scanPeriod => (10, 120)
  | .scanQuota => (1, 16)
  | .dryOn => (100, 500)
  | .dryOff => (150, 600)
  | .dryLevel => (50, 1200)
  | .qRef => (200, 1200)
  | .endFactor => (11, 50)
  | .lifeVolume => (1000, 9999999)
  | .maxAge => (30, 1000)
  | .dueLevel => (50, 99)
  | .zone _ k => zoneKeyRange k

/-- The default type of a zone (R114). -/
def defaultZoneType : Zone → ZoneType
  | .z1 => .bathroom
  | .z2 => .shower
  | .z3 => .kitchen
  | .z4 => .unused

/-- The default boost level of a zone type (R114). -/
def defaultBoostLevel : ZoneType → Nat
  | .unused => 600
  | .kitchen => 600
  | .bathroom => 700
  | .shower => 700
  | .utility => 500

/-- The default of a zone's key (R93, R114). -/
def zoneKeyDefault (z : Zone) : ZoneKey → Int
  | .zoneType => zoneTypeCode (defaultZoneType z)
  | .boostLevel => defaultBoostLevel (defaultZoneType z)
  | .boostOn => 150
  | .boostOff => 50
  | .overrun => 10
  | .maxBoost => 60
  | .address => zoneNumber z

/-- The default of a key (R44, R71, R93, R114, R128, R135, R181). -/
def keyDefault : Key → Int
  | .nominalFlow => 300
  | .bypassMinOutdoor => 130
  | .unitMax => 1000
  | .healthMin => 150
  | .maxDepressurisation => 150
  | .overdueCap => 600
  | .logAlmostFull => 448
  | .deadband => 5
  | .loopGain => 32
  | .stepMax => 20
  | .dutyMin => 150
  | .dutyMax => 1000
  | .startDuty => 300
  | .ringKSupply => 1000
  | .ringKExtract => 1000
  | .frostThreshold => 10
  | .maxUnbalance => 500
  | .thawEnd => 50
  | .thawMax => 20
  | .thawGap => 30
  | .lockoutRelease => 30
  | .preheaterFitted => 1
  | .preheatMinFlow => 100
  | .preheatMax => 1000
  | .extractAddress => 8
  | .scanPeriod => 20
  | .scanQuota => 4
  | .dryOn => 280
  | .dryOff => 330
  | .dryLevel => 200
  | .qRef => 400
  | .endFactor => 25
  | .lifeVolume => 500000
  | .maxAge => 365
  | .dueLevel => 80
  | .zone z k => zoneKeyDefault z k

/-- The keys of occupant class (R181, R114). Every other key is of service class. -/
def occupantKey : Key → Bool
  | .nominalFlow | .bypassMinOutdoor | .zone _ .boostLevel => true
  | _ => false

/-- The enumerated keys, which are refused rather than clamped (R182 check 2). -/
def enumeratedKey : Key → Bool
  | .preheaterFitted | .zone _ .zoneType => true
  | _ => false

/-- The keys whose values are temperatures or `frost_threshold`, which travel as signed numbers
(R187). DEDUCED (assumption 14): the temperature keys are those measured in the unit of the probes. -/
def signedKey : Key → Bool
  | .frostThreshold | .bypassMinOutdoor | .thawEnd | .lockoutRelease => true
  | _ => false

/-- The keys a running procedure holds (R182 check 4). -/
def procedureKey : Key → Bool
  | .qRef | .ringKSupply | .ringKExtract => true
  | _ => false

/-- The value a four-byte field gives a key (R187, R189). -/
def keyValueOf (k : Key) (w : Word) : Int :=
  if signedKey k then w.toInt else w.toNat

/-- The four bytes of a key's value (R189). -/
def keyValueWord (v : Int) : Word := BitVec.ofInt 32 v

/-! ### Clamping -/

/-- A value clamped to its key's range. -/
def clampToRange (k : Key) (v : Int) : Int := clampInt (keyRange k).1 (keyRange k).2 v

/-- A value clamped against the related keys of its key, which are left as they are (R182). Where two
bounds apply, the lower is applied first (assumption 15). -/
def clampToRelated (t : Settings) (k : Key) (v : Int) : Int :=
  match k with
  | .nominalFlow => min (max v (t.get .healthMin)) (t.get .unitMax)
  | .healthMin => min (min v (t.get .nominalFlow)) (t.get .overdueCap)
  | .unitMax => max (max v (t.get .nominalFlow)) (t.get .qRef)
  | .overdueCap => max v (t.get .healthMin)
  | .qRef => min v (t.get .unitMax)
  | .dutyMin => min (min v (t.get .dutyMax - 1)) (t.get .startDuty)
  | .dutyMax => max (max v (t.get .dutyMin + 1)) (t.get .startDuty)
  | .startDuty => min (max v (t.get .dutyMin)) (t.get .dutyMax)
  | .zone z .boostOn => max v (t.get (.zone z .boostOff) + 1)
  | .zone z .boostOff => min v (t.get (.zone z .boostOn) - 1)
  | .dryOn => min v (t.get .dryOff - 1)
  | .dryOff => max v (t.get .dryOn + 1)
  | _ => v

/-- The value a SET stores: clamped to the key's range and then against the related keys (R182). -/
def storedValue (t : Settings) (k : Key) (v : Int) : Int := clampToRelated t k (clampToRange k v)

/-- The keys that have related keys, in the order of the table of R182. -/
def relatedKeys : List Key :=
  [.nominalFlow, .healthMin, .unitMax, .overdueCap, .qRef, .dutyMin, .dutyMax, .startDuty,
    .zone .z1 .boostOn, .zone .z1 .boostOff, .zone .z2 .boostOn, .zone .z2 .boostOff,
    .zone .z3 .boostOn, .zone .z3 .boostOff, .zone .z4 .boostOn, .zone .z4 .boostOff,
    .dryOn, .dryOff]

/-- Every key clamped to its range. -/
def rangeAll (t : Settings) : Settings :=
  allKeys.foldl (fun t k => t.put k (clampToRange k (t.get k))) t

/-- Every key that has related keys clamped against them, in the order of the table of R182, which is
how a good image is installed (R183). -/
def relateAll (t : Settings) : Settings :=
  relatedKeys.foldl (fun t k => t.put k (clampToRelated t k (t.get k))) t

/-! ### The two groups -/

/-- The default frost thresholds (R72). -/
def defaultThresholds : Thresholds where
  watchOn := 300
  preheatOff := 800
  preheatOn := 1500
  unbalanceExit := 2000
  unbalanceDown := 2500
  unbalanceOn := 3000
  thawOn := 6000

/-- The seven thresholds of seven two-byte values, in R72 order. -/
def thresholdsOf (v : Vector Half 7) : Thresholds where
  watchOn := v[0].toNat
  preheatOff := v[1].toNat
  preheatOn := v[2].toNat
  unbalanceExit := v[3].toNat
  unbalanceDown := v[4].toNat
  unbalanceOn := v[5].toNat
  thawOn := v[6].toNat

/-- The thresholds in R72 order. -/
def Thresholds.toList (t : Thresholds) : List Nat :=
  [t.watchOn, t.preheatOff, t.preheatOn, t.unbalanceExit, t.unbalanceDown, t.unbalanceOn, t.thawOn]

/-- The order R72 asks of the group: strictly rising, from at least 1 to at most 9000. -/
def Thresholds.ordered (t : Thresholds) : Bool :=
  decide (1 ≤ t.watchOn) && decide (t.watchOn < t.preheatOff)
    && decide (t.preheatOff < t.preheatOn) && decide (t.preheatOn < t.unbalanceExit)
    && decide (t.unbalanceExit < t.unbalanceDown) && decide (t.unbalanceDown < t.unbalanceOn)
    && decide (t.unbalanceOn < t.thawOn) && decide (t.thawOn ≤ 9000)

/-- Each threshold clamped to its range, 1 to 9000 (R72, R183). -/
def Thresholds.clamped (t : Thresholds) : Thresholds where
  watchOn := clampNat 1 9000 t.watchOn
  preheatOff := clampNat 1 9000 t.preheatOff
  preheatOn := clampNat 1 9000 t.preheatOn
  unbalanceExit := clampNat 1 9000 t.unbalanceExit
  unbalanceDown := clampNat 1 9000 t.unbalanceDown
  unbalanceOn := clampNat 1 9000 t.unbalanceOn
  thawOn := clampNat 1 9000 t.thawOn

/-- The threshold a single key code 64 to 70 names, which GET reads (R189). -/
def thresholdOfCode (t : Thresholds) (c : Nat) : Option Nat :=
  match c with
  | 64 => some t.watchOn
  | 65 => some t.preheatOff
  | 66 => some t.preheatOn
  | 67 => some t.unbalanceExit
  | 68 => some t.unbalanceDown
  | 69 => some t.unbalanceOn
  | 70 => some t.thawOn
  | _ => none

/-- Every event kind, in mask order (R189). -/
def allKinds : List EventKind :=
  [.frostStage, .frostLockout, .thawEnd, .preheaterFault, .fanFault, .probeFault, .filterState,
    .procedureEnd, .zoneState, .sensorStale, .storeState, .logAlmostFull, .demandExpired,
    .probeReady]

/-- The set of the kinds of a list. -/
def kindSet (ks : List EventKind) : KindSet := ks.foldl (fun m k => m ||| oneKind k) 0#14

/-- The default event map (R165). -/
def defaultEventMap : PerLink KindSet where
  panel := kindSet [.frostLockout, .fanFault, .preheaterFault, .storeState, .filterState, .zoneState]
  heating := kindSet [.frostLockout, .fanFault, .preheaterFault, .storeState, .frostStage, .thawEnd]
  service := kindSet [.frostLockout, .fanFault, .preheaterFault, .storeState, .filterState,
    .frostStage, .thawEnd, .sensorStale, .probeFault, .logAlmostFull]

/-- The kinds a link's bit of an event map group gives it, in the fourteen bytes of the group: byte k
is the k-th kind, with bits 0 to 2 for PANEL, HEATING and SERVICE (R189). -/
def mapColumn (v : Vector Byte 14) (l : Link) : KindSet :=
  kindSet (allKinds.filter fun k => (v.toList.getD (kindIndex k) 0#8).getLsbD (linkCode l))

/-- The event map of the fourteen bytes of a group. Bits 3 to 7 name no link and are disregarded
(assumption 16). -/
def eventMapOf (v : Vector Byte 14) : PerLink KindSet where
  panel := mapColumn v .panel
  heating := mapColumn v .heating
  service := mapColumn v .service

/-- The kinds that are delivered by address alone (R165). -/
def addressedOnly : KindSet := kindSet [.demandExpired, .probeReady]

/-- Whether a map gives no link a kind that is delivered by address alone (R165). -/
def mapAllowed (m : PerLink KindSet) : Bool :=
  (m.panel &&& addressedOnly) == 0#14 && (m.heating &&& addressedOnly) == 0#14
    && (m.service &&& addressedOnly) == 0#14

/-- One byte of the event map group: the links the map gives a kind (R189). -/
def mapByte (m : PerLink KindSet) (k : EventKind) : Byte :=
  BitVec.ofNat 8 (maskOf [hasKind m.panel k, hasKind m.heating k, hasKind m.service k])

/-- The fourteen bytes of the event map group. -/
def mapBytes (m : PerLink KindSet) : List Byte := allKinds.map (mapByte m)

/-! ### The default table -/

/-- Every key and both groups at their defaults. -/
def defaultSettings : Settings where
  values := Vector.ofFn fun i => ((allKeys[i.val]?).map keyDefault).getD 0
  thresholds := defaultThresholds
  eventMap := defaultEventMap

/-- The types of the zones as the table holds them (R114). -/
def Settings.zoneType (t : Settings) (z : Zone) : ZoneType := zoneTypeOf (t.get (.zone z .zoneType))

end Sys2Proof.Machine
end

