-- ==== Sys2Proof/Machine/State.lean ====
section
/-! DEFINITION. The state of the Parvik 3140 as plain data: one field for each block of the manual,
each holding the records its chapter gives the block, and the queue of waiting commands. -/

namespace Sys2Proof.Machine

/-- The faults of a step. The manual names no event after which the part stops, so there is only the
one that no meaning raises. -/
inductive Fault where
  /-- Raised by no meaning: every command of the part has an effect, or none, and the part goes on.
  It is here so that the type has a value; safe, since no step answers it. -/
  | none
  deriving DecidableEq, Repr

/-- The refusals of a step. -/
inductive Refusal where
  /-- Raised by an arm of `exec` whose command has no meaning yet; safe, since the model then claims
  nothing. No arm answers it: every command of the table has its meaning. -/
  | notModelled (mnemonic : String)
  deriving DecidableEq, Repr

/-- The whole state of the part. -/
structure State where
  /-- The commands that are waiting, first in, first out. -/
  pending : List Instr
  /-- The settings store (chapter 10). -/
  store : Store
  /-- The demand table (chapter 1). -/
  table : DemandTable
  /-- The operating point record (R25). -/
  op : OperatingPoint
  /-- The damper record (R39). -/
  damper : Damper
  /-- The fan records (R43). -/
  fans : PerSide FanRecord
  /-- The frost guard (chapter 4). -/
  frost : FrostGuard
  /-- The sensor bus controller (chapter 5). -/
  bus : Bus
  /-- The humidity monitor (chapter 6). -/
  humidity : Humidity
  /-- The filter monitor (chapter 7). -/
  filters : FilterMonitor
  /-- The procedure runner (chapter 7). -/
  runner : Runner
  /-- The link records (chapter 8). -/
  links : PerLink LinkRecord
  /-- The time base (R166). -/
  time : TimeBase
  /-- The trend and event log (chapter 9). -/
  log : Log
  /-- The model's own field: how many free values have been taken (assumption 3). -/
  freeCount : Nat
  deriving DecidableEq, Repr

/-! ### The values after power-on -/

/-- No limiting flag. -/
def LimitFlags.none : LimitFlags :=
  ⟨false, false, false, false, false, false, false, false, false, false⟩

/-- The empty demand table with every tag 0 (R24). -/
def DemandTable.reset : DemandTable where
  tags := Vector.replicate 16 0
  entries := []

/-- The operating point before the first recompute (R25). -/
def OperatingPoint.reset : OperatingPoint where
  w := 0
  b := 0
  s := 0
  e := 0
  bypassOpen := false
  flags := LimitFlags.none
  contributing := none

/-- The damper homing (R39). -/
def Damper.reset : Damper where
  state := .closing
  position := 90
  homing := true

/-- A fan record after power-on (R62). -/
def FanRecord.reset : FanRecord where
  state := .stopped
  target := 0
  duty := 0
  flow := 0
  speed := 0
  band := .inBand
  shortfall := false
  shortfallCount := 0
  attempts := 0
  probeFault := false
  phase := 0
  lowSpeed := 0
  run := 0
  probeCount := 0
  pulses := 0

/-- The frost record after power-on (R91). -/
def FrostRecord.reset : FrostRecord where
  stage := .normal
  f := 0
  r := 0
  failures := 0
  gap := 720
  elapsed := 0
  success := 0
  warmth := 0
  blindPhase := none
  blindCount := 0
  duty := 0
  fault := false
  pinned := 0

/-- An airstream probe record after power-on (R91). -/
def ProbeRecord.reset : ProbeRecord where
  status := .noValue
  reads := 0

/-- The frost guard after power-on: the first control step compares the bypass truths against all
false (R66), and no frost step has been taken (R67). -/
def FrostGuard.reset : FrostGuard where
  record := FrostRecord.reset
  probes := ⟨ProbeRecord.reset, ProbeRecord.reset, ProbeRecord.reset, ProbeRecord.reset⟩
  truths := ⟨false, false, false, false, false⟩
  heaterOn := false
  steps := 0

/-- The sensor bus controller after power-on, the credit equal to the default `scan_quota` (R109). -/
def Bus.reset : Bus where
  transaction := none
  scanQueue := []
  roundCount := 0
  passQueue := []
  pass := ⟨.idle, .idle, .idle⟩
  credit := defaultSettings.nat .scanQuota

/-- A zone record until the load ends (R133). -/
def ZoneRecord.reset : ZoneRecord where
  zoneType := .unused
  state := .unused
  baseline := none
  last := none
  failures := 0
  stale := false
  lowCount := 0
  boostTimer := 0

/-- The humidity monitor until the load ends (R133). -/
def Humidity.reset : Humidity where
  zones := ⟨ZoneRecord.reset, ZoneRecord.reset, ZoneRecord.reset, ZoneRecord.reset⟩
  extract := { last := none, failures := 0, stale := false }
  dryPlaced := none

/-- The persisted filter fields of a defaulted record (R155): no clean reference, every counter 0. -/
def Persisted.reset : Persisted where
  clean := none
  volume := 0
  running := 0
  age := 0
  changes := 0

/-- A filter record before the load ends. The manual gives it no values there (R155); DESIGN CHOICE
(assumption 5): the defaulted record. Its probe is as R136 gives. -/
def FilterRecord.reset : FilterRecord where
  kept := Persisted.reset
  smoothed := none
  loading := 0
  carry := 0
  lifeUsed := 0
  state := .clean
  missing := 0
  probeFault := false
  probeCount := 0
  lastGood := none

/-- The filter monitor before the load ends. -/
def FilterMonitor.reset : FilterMonitor where
  records := ⟨FilterRecord.reset, FilterRecord.reset⟩
  hourTicks := 0
  steps := 0

/-- The runner after power-on (R155). -/
def Runner.reset : Runner where
  procedure := .idle
  last := { outcome := .none, selection := none, owner := none, stamp := none,
            references := ⟨none, none⟩ }

/-- A link record after power-on (R156). -/
def LinkRecord.reset : LinkRecord where
  state := .listening
  frame := []
  pending := 0#14
  addressed := 0#14
  expired := []
  attention := false
  reply := none

/-- The time base after power-on (R166). -/
def TimeBase.reset : TimeBase where
  minutes := 0#32
  synced := false
  source := none
  seconds := 0

/-- The hourly accumulators at 0 and absent (R175, R180). -/
def Hourly.reset : Hourly where
  ticks := 0
  sumW := 0
  sumSupply := 0
  sumExtract := 0
  oda := none
  maxF := 0
  notNormal := 0

/-- The log after power-on, with the POWER_UP record written as record 0 (R180). -/
def Log.reset : Log where
  ring := [{ stamp := { minutes := 0#32, unsynced := true }, body := .powerUp none }]
  write := 1
  mark := 0
  cursor := 0
  overrun := 0
  armed := true
  hourly := Hourly.reset

/-- The settings store after power-on: LOADING, with the default of every key and both groups (R183,
R184). The persisted fields and how the load ended have no values yet (assumption 5). -/
def Store.reset : Store where
  state := .loading
  loadedAs := .defaulted
  settings := defaultSettings
  persisted := ⟨Persisted.reset, Persisted.reset⟩
  changed := false
  urgent := false
  writing := false
  quiet := 0
  image := []

/-- The part right after power-on, an external reset or a brown-out, which are one reset
(section 5.5 of the opening chapter, R183). -/
def State.reset : State where
  pending := []
  store := Store.reset
  table := DemandTable.reset
  op := OperatingPoint.reset
  damper := Damper.reset
  fans := ⟨FanRecord.reset, FanRecord.reset⟩
  frost := FrostGuard.reset
  bus := Bus.reset
  humidity := Humidity.reset
  filters := FilterMonitor.reset
  runner := Runner.reset
  links := ⟨LinkRecord.reset, LinkRecord.reset, LinkRecord.reset⟩
  time := TimeBase.reset
  log := Log.reset
  freeCount := 0

end Sys2Proof.Machine
end

