-- ==== Sys2Proof/Machine/Ops.lean ====
section
/-! DEFINITION. The operations every block uses: raising an event (R162, R163) and writing a log record
(R174, R179), and marking the settings image changed (R184). -/

namespace Sys2Proof.Machine

/-! ### Events -/

/-- A kind delivered to a link (R162, R163): it joins the pending set, an addressed delivery sets its
mark, and the attention line is asserted. -/
def LinkRecord.deliver (r : LinkRecord) (k : EventKind) (isAddressed : Bool) : LinkRecord :=
  { r with
    pending := r.pending ||| oneKind k
    addressed := if isAddressed then r.addressed ||| oneKind k else r.addressed
    attention := true }

/-- The delivery of one raised kind (R162): the addressed link, if there is one, takes it with its
mark set; every other link that the map gives for the kind takes it too. -/
def deliverAll (map : PerLink KindSet) (k : EventKind) (dest : Option Link)
    (links : PerLink LinkRecord) : PerLink LinkRecord :=
  links.mapWith fun l r =>
    if dest = some l then r.deliver k true
    else if hasKind (map.get l) k then r.deliver k false
    else r

/-- The map under which a kind is delivered. DEMAND_EXPIRED and PROBE_READY are delivered by address
alone, whatever the event map holds (R15, R105, R165). -/
def deliveryMap (t : Settings) (k : EventKind) : PerLink KindSet :=
  if hasKind addressedOnly k then ⟨0#14, 0#14, 0#14⟩ else t.eventMap

/-- A block raises an event of a kind, addressed to a link or to none (R162). -/
def raiseTo (s : State) (k : EventKind) (dest : Option Link) : State :=
  { s with links := deliverAll (deliveryMap s.store.settings k) k dest s.links }

/-- A block raises an event of a kind that is delivered by the event map alone (R162). -/
def raise (s : State) (k : EventKind) : State := raiseTo s k none

/-! ### The log -/

/-- The unreleased count U (R173). -/
def Log.unreleased (g : Log) : Nat := g.write - g.mark

/-- The unread count (R173). -/
def Log.unread (g : Log) : Nat := g.write - g.cursor

/-- A record placed at the write position (R174): the ring keeps the newest 512 records, and a write
with U at 512 drops the record at the mark, drags a cursor that stood there and counts the overrun. -/
def Log.place (g : Log) (r : LogRecord) : Log :=
  let ring := (if g.ring.length < 512 then g.ring else g.ring.drop 1) ++ [r]
  if g.unreleased < 512 then
    { g with ring := ring, write := g.write + 1 }
  else
    { g with
      ring := ring
      write := g.write + 1
      mark := g.mark + 1
      cursor := if g.cursor = g.mark then g.cursor + 1 else g.cursor
      overrun := min (g.overrun + 1) 65535 }

/-- Whether a log is to raise LOG_ALMOST_FULL (R179). -/
def Log.almostFull (g : Log) (level : Nat) : Bool := g.armed && decide (level ≤ g.unreleased)

/-- The armed flag set again when U has fallen far enough (R179). -/
def Log.rearm (g : Log) (level : Nat) : Log :=
  { g with armed := g.armed || decide (g.unreleased + 32 < level) }

/-- A block writes a record (R174): it is stamped with the minute stamp as it stands, and a write after
which U is at or above `log_almost_full` while armed raises LOG_ALMOST_FULL (R179). -/
def writeLog (s : State) (b : LogBody) : State :=
  let placed := s.log.place { stamp := s.time.stamp, body := b }
  let full := placed.almostFull (s.store.settings.nat .logAlmostFull)
  { s with
    log := { placed with armed := placed.armed && !full }
    links := if full then deliverAll (deliveryMap s.store.settings .logAlmostFull) .logAlmostFull none s.links
      else s.links }

/-! ### The settings store's flags -/

/-- A change of the table (R184): the changed flag is set and the quiet count returns to 0. -/
def Store.markChanged (t : Store) : Store := { t with changed := true, quiet := 0 }

/-- A handover of the persisted filter fields (R138, R150, R184): they replace the store's copy, and
the changed and urgent flags are set. -/
def Store.takeFields (t : Store) (f : PerSide Persisted) : Store :=
  { t with persisted := f, changed := true, urgent := true }

/-- Whether the settings load is in progress (R183). -/
def State.isLoading (s : State) : Bool := s.store.state == .loading

/-- The settings table. -/
def State.settings (s : State) : Settings := s.store.settings

end Sys2Proof.Machine
end

