-- ==== Sys2Proof/Machine/Resolver.lean ====
section
/-! DEFINITION. The operating point resolver and the bypass damper control (chapter 2). -/

namespace Sys2Proof.Machine

/-! ### Reading the inputs -/

/-- The handle of an entry: slot times 16 plus generation (R3). -/
def Entry.handle (e : Entry) : Nat := e.slot.val * 16 + e.gen.val

/-- The level of a SETBACK entry. -/
def Entry.setback? (e : Entry) : Option Nat :=
  match e.want with
  | .setback v => some v
  | _ => none

/-- The level of a RAISE entry. -/
def Entry.raise? (e : Entry) : Option Nat :=
  match e.want with
  | .raise v => some v
  | _ => none

/-- The value of a healthy probe; a NO_VALUE or FAULTED probe counts as faulted (R64). -/
def ProbeRecord.healthy? (p : ProbeRecord) : Option Int :=
  match p.status with
  | .good v => some v
  | _ => none

/-- The value a probe holds, healthy or held through a fault (R64, R65). -/
def ProbeRecord.value? (p : ProbeRecord) : Option Int :=
  match p.status with
  | .good v => some v
  | .faulted held => held
  | .noValue => none

/-- A fan is faulted for resolution when STALLED, RETRYING or FAILED (R35, R43). -/
def FanState.faulted : FanState → Bool
  | .stalled | .retrying | .failed => true
  | .stopped | .starting | .running => false

/-- A filter state that caps the wanted flow (R31). -/
def FilterState.caps : FilterState → Bool
  | .overdue | .blocked => true
  | _ => false

/-- A procedure runs in SETTLING and MEASURING (R145). -/
def Procedure.isRunning : Procedure → Bool
  | .idle => false
  | _ => true

/-! ### Stages 1 to 4: the wanted flow -/

/-- What stage 1 leaves (R28): the background, its two flags, and the handle of the setback entry that
set it, if one did. -/
structure Background where
  level : Nat
  setbackApplied : Bool
  healthMin : Bool
  setBy : Option Nat
  deriving DecidableEq, Repr

/-- Stage 1 (R28). -/
def background (t : Settings) (entries : List Entry) : Background :=
  let base := t.nat .nominalFlow
  let floor := t.nat .healthMin
  match (entries.filterMap Entry.setback?).max? with
  | none =>
    { level := max base floor, setbackApplied := false, healthMin := decide (base < floor), setBy := none }
  | some top =>
    let back := min top base
    let applied := decide (back < base)
    let floored := decide (back < floor)
    { level := max back floor
      setbackApplied := applied
      healthMin := floored
      setBy := if applied && !floored
        then (entries.find? fun e => e.setback? == some top).map Entry.handle else none }

/-- Stage 2 (R29): the wanted flow and the contributing handle. -/
def wantedFlow (b : Background) (entries : List Entry) : Nat × Option Nat :=
  match (entries.filterMap Entry.raise?).max? with
  | none => (b.level, b.setBy)
  | some top =>
    if b.level < top then
      (top, (entries.find? fun e => e.raise? == some top).map Entry.handle)
    else (b.level, b.setBy)

/-! ### Stages 5 to 7: the targets -/

/-- The supply target and flags that a frost stage asks for (R33): the share of W that is supplied, and
whether the stage stops supply. -/
def frostShape (g : FrostRecord) (w : Nat) : Nat × Bool × Bool :=
  let shaped := w * (1000 - g.r) / 1000
  match g.stage with
  | .normal | .watch | .preheat => (w, false, false)
  | .unbalance => (shaped, true, false)
  | .thaw | .lockout => (0, false, true)
  | .blind =>
    match g.blindPhase with
    | some .thaw => (0, false, true)
    | _ => (shaped, true, false)

/-- The whole resolution of flows, stages 1 to 7 (R28 to R35): every field of the record but the
bypass. `capped` says that a filter caps, `procedure` that a procedure runs. -/
def resolveFlows (t : Settings) (entries : List Entry) (capped procedure : Bool) (g : FrostRecord)
    (supplyFault extractFault bypassOpen : Bool) : OperatingPoint :=
  let bg := background t entries
  let (w2, setBy) := wantedFlow bg entries
  let w3 := min w2 (t.nat .unitMax)
  let w4 := if capped then min w3 (t.nat .overdueCap) else w3
  let limit := t.nat .maxDepressurisation
  let (s6, unbalance, thaw) := if procedure then (t.nat .qRef, false, false) else frostShape g w4
  let e5 := if procedure then t.nat .qRef else w4
  let exceeds := !procedure && decide (s6 + limit < e5)
  let e6 := if exceeds then s6 + limit else e5
  let s7 := if supplyFault || extractFault then 0 else s6
  let e7 := if extractFault then 0 else if supplyFault then min e6 limit else e6
  { w := w4
    b := bg.level
    s := s7
    e := e7
    bypassOpen := bypassOpen
    flags :=
      { setbackApplied := bg.setbackApplied
        healthMin := bg.healthMin
        unitMax := decide (w3 < w2)
        filterCap := decide (w4 < w3)
        procedure := procedure
        frostUnbalance := unbalance
        frostThaw := thaw
        depressurisation := exceeds
        supplyFault := supplyFault
        extractFault := extractFault }
    contributing := setBy }

/-! ### Stage 8: the bypass -/

/-- Stage 8 (R37, R38): the bypass outcome against its value from the previous recompute. -/
def decideBypass (t : Settings) (entries : List Entry) (stage : Stage) (oda eta : Option Int)
    (wasOpen : Bool) : Bool :=
  let asked := entries.any fun e => e.want == .bypass
  match oda, eta with
  | some o, some h =>
    asked && stage == .normal &&
      (if wasOpen then decide (t.get .bypassMinOutdoor - 10 ≤ o)
       else decide (t.get .bypassMinOutdoor ≤ o) && decide (20 ≤ h - o))
  | _, _ => false

/-! ### The recompute -/

/-- The operating point of a state's inputs as they stand (R27). -/
def resolve (s : State) : OperatingPoint :=
  resolveFlows s.settings s.table.entries
    ((s.filters.records.get .supply).state.caps || (s.filters.records.get .extract).state.caps)
    s.runner.procedure.isRunning s.frost.record
    (s.fans.get .supply).state.faulted (s.fans.get .extract).state.faulted
    (decideBypass s.settings s.table.entries s.frost.record.stage
      (s.frost.probes.get .oda).healthy? (s.frost.probes.get .eta).healthy? s.op.bypassOpen)

/-- The damper control compares the bypass outcome with its state (R40). -/
def Damper.command (d : Damper) (bypassOpen : Bool) : Damper :=
  if bypassOpen then
    match d.state with
    | .closed => { d with state := .opening }
    | .closing => if d.homing then d else { d with state := .opening }
    | .opening | .opened => d
  else
    match d.state with
    | .opened => { d with state := .closing }
    | .opening => { d with state := .closing }
    | .closing | .closed => d

/-- The recompute (R27, R40): the record is replaced whole, and the damper takes the outcome. -/
def recompute (s : State) : State :=
  { s with op := resolve s, damper := s.damper.command (resolve s).bypassOpen }

/-- A change notice handed to the resolver (R26): until the load ends it takes none (R42). -/
def notice (s : State) : State :=
  { s with
    op := if s.isLoading then s.op else resolve s
    damper := if s.isLoading then s.damper else s.damper.command (resolve s).bypassOpen }

/-! ### Damper travel -/

/-- A travel second (R41): the position moves by 1 in the direction of travel, and at an end the damper
stops. A CLOSING damper that reaches 0 while homing ends homing, and opens at once when the outcome asks.
The position is kept within 0 to 90 (assumption 17). -/
def Damper.travel (d : Damper) (bypassOpen : Bool) : Damper :=
  match d.state with
  | .opening =>
    if 90 ≤ d.position + 1 then { d with state := .opened, position := 90 }
    else { d with position := d.position + 1 }
  | .closing =>
    if d.position ≤ 1 then
      { state := if d.homing && bypassOpen then .opening else .closed
        position := 0
        homing := false }
    else { d with position := d.position - 1 }
  | .closed | .opened => d

/-- TRAVEL_SECOND (R41). -/
def execTravelSecond (s : State) : Host.Outcome State Fault Refusal :=
  .next { s with damper := s.damper.travel s.op.bypassOpen }

/-- Whether the next travel second ends the travel. -/
def Damper.atEnd (d : Damper) : Bool :=
  match d.state with
  | .opening => decide (90 ≤ d.position + 1)
  | .closing => decide (d.position ≤ 1)
  | .closed | .opened => false

/-- DAMPER_TRAVEL_END (R41): the travel second at which the position reaches 90 or 0. A damper that is
not one second short of its end does not end its travel (assumption 1). -/
def execDamperTravelEnd (s : State) : Host.Outcome State Fault Refusal :=
  .next { s with damper := if s.damper.atEnd then s.damper.travel s.op.bypassOpen else s.damper }

end Sys2Proof.Machine
end

