-- ==== Sys2Proof/Machine/Runner.lean ====
section
/-! DEFINITION. How a procedure ends (R151, R153): the one operation behind every end, and the causes
that abort a running procedure. -/

namespace Sys2Proof.Machine

/-- The owner and selection of a running procedure (R145). -/
def Procedure.running? : Procedure → Option (Link × Selection)
  | .idle => none
  | .settling o sel _ => some (o, sel)
  | .measuring o sel _ _ => some (o, sel)

/-- Whether a selection takes in a side. -/
def Selection.has : Selection → Side → Bool
  | .supply, .supply => true
  | .extract, .extract => true
  | .both, _ => true
  | .supply, .extract => false
  | .extract, .supply => false

/-- Whom PROCEDURE_END is addressed to: the owner, except at ABORTED_LINK (R153, R162). -/
def endAddressee (o : ProcedureOutcome) (owner : Link) : Option Link :=
  if o = .abortedLink then none else some owner

/-- The end of a procedure, whatever its outcome (R153): the last outcome record, the PROCEDURE log
record, PROCEDURE_END, and the return to IDLE with its notice. With the runner IDLE nothing ends. -/
def finishProcedure (s : State) (o : ProcedureOutcome) (references : PerSide (Option Nat)) : State :=
  match s.runner.procedure.running? with
  | none => s
  | some (owner, sel) =>
    let ended : Runner :=
      { procedure := .idle
        last :=
          { outcome := o, selection := some sel, owner := some owner, stamp := some s.time.stamp,
            references := references } }
    notice { raiseTo (writeLog s (.procedure o sel owner)) .procedureEnd (endAddressee o owner) with
      runner := ended }

/-- A cause of R151 aborts a running procedure; no clean reference is given (R153). -/
def abortProcedure (s : State) (o : ProcedureOutcome) : State := finishProcedure s o ⟨none, none⟩

/-- The frost guard tells the runner of a new stage (R74, R151). -/
def tellStage (s : State) (stage : Stage) : State :=
  match stage with
  | .unbalance | .thaw | .lockout | .blind => abortProcedure s .abortedFrost
  | .normal | .watch | .preheat => s

/-- The fan block tells the runner of a new fan state (R151). -/
def tellFan (s : State) (state : FanState) : State :=
  if state.faulted then abortProcedure s .abortedFan else s

end Sys2Proof.Machine
end

