-- ==== Sys2Proof/Machine/Fans.lean ====
section
/-! DEFINITION. The fan block (chapter 3). What a control step does to a fan's own record is a chain of
pure functions of the record and the settings; `handFan` then reports what changed. -/

namespace Sys2Proof.Machine

/-! ### Measurement -/

/-- The measured flow of a good reading (R46). -/
def flowOf (k dp : Nat) : Nat := min (k * rootTerm dp / 1000) 1200

/-- The speed set from the pulses counted since the last control step (R47). -/
def FanRecord.count (x : FanRecord) : FanRecord :=
  { x with speed := min (x.pulses * 30) 9990, pulses := 0 }

/-- The flow-probe fault begins (R48): Q is held, the shortfall flag and its counter are cleared. -/
def FanRecord.loseProbe (x : FanRecord) : FanRecord :=
  { x with probeFault := true, probeCount := 0, shortfall := false, shortfallCount := 0 }

/-- The flow-probe fault ends (R48): Q is computed from the reading that ends it. -/
def FanRecord.regainProbe (x : FanRecord) (k dp : Nat) : FanRecord :=
  { x with probeFault := false, probeCount := 0, flow := flowOf k dp }

/-- The flow-probe conversion of a control step (R48). -/
def FanRecord.judgeProbe (x : FanRecord) (k : Nat) (c : Conversion) : FanRecord :=
  match x.probeFault, goodReading c with
  | false, some dp => { x with probeCount := 0, flow := flowOf k dp }
  | false, none =>
    if x.probeCount < 2 then { x with probeCount := x.probeCount + 1 } else x.loseProbe
  | true, none => { x with probeCount := 0 }
  | true, some dp =>
    if x.probeCount < 2 then { x with probeCount := x.probeCount + 1 } else x.regainProbe k dp

/-! ### The state action -/

/-- The duty of a closed-loop step (R51). -/
def closedLoopDuty (t : Settings) (x : FanRecord) : Nat :=
  let e : Int := (x.target : Int) - (x.flow : Int)
  let band := t.get .deadband
  let moved := clampInt (-t.get .stepMax) (t.get .stepMax) ((e * t.get .loopGain).tdiv 64)
  let change : Int :=
    if -band ≤ e ∧ e ≤ band then 0
    else if moved = 0 then (if 0 < e then 1 else -1)
    else moved
  (clampInt (t.get .dutyMin) (t.get .dutyMax) ((x.duty : Int) + change)).toNat

/-- The duty of an open-loop step (R52). -/
def openLoopDuty (t : Settings) (x : FanRecord) : Nat :=
  clampNat (t.nat .dutyMin) (t.nat .dutyMax)
    (t.nat .dutyMin + (t.nat .dutyMax - t.nat .dutyMin) * x.target / t.nat .unitMax)

/-- The shortfall flag cleared with its counter, as a fan does on leaving RUNNING (R54). -/
def FanRecord.noShortfall (x : FanRecord) : FanRecord :=
  { x with shortfall := false, shortfallCount := 0 }

/-- The low-speed counter after the stall test (R55): the speed just set, and the duty driven over the
interval it was counted in. -/
def FanRecord.lowSpeedNext (x : FanRecord) (t : Settings) : Nat :=
  if x.speed < 200 ∧ t.nat .dutyMin ≤ x.duty then x.lowSpeed + 1 else 0

/-- A RUNNING fan goes STALLED (R55). -/
def FanRecord.stall (x : FanRecord) : FanRecord :=
  { x.noShortfall with state := .stalled, duty := 0, phase := 30, lowSpeed := 0, run := 0 }

/-- The run counter of a step in RUNNING (R58): at the step at which it reaches 60 the attempt count
returns to 0, and it stays at 60. -/
def FanRecord.countRun (x : FanRecord) : FanRecord :=
  { x with run := min (x.run + 1) 60, attempts := if x.run = 59 then 0 else x.attempts }

/-- The RUNNING action with a target above 0 (R49, R51, R52, R55): the stall test, then the run counter
and the closed-loop or open-loop duty. -/
def FanRecord.runStep (x : FanRecord) (t : Settings) : FanRecord :=
  if 5 ≤ x.lowSpeedNext t then x.stall
  else
    { x.countRun with
      lowSpeed := x.lowSpeedNext t
      duty := if x.probeFault then openLoopDuty t x else closedLoopDuty t x }

/-- A STARTING fan enters RUNNING and applies the RUNNING action at the same step (R50). -/
def FanRecord.enterRunning (x : FanRecord) (t : Settings) : FanRecord :=
  { x with state := .running, phase := 0, run := 0, lowSpeed := 0 }.runStep t

/-- A STALLED fan goes RETRYING (R56). -/
def FanRecord.retry (x : FanRecord) (t : Settings) : FanRecord :=
  { x with state := .retrying, phase := 5, duty := t.nat .startDuty }

/-- The end of a retry, judged on the speed (R57). -/
def FanRecord.endRetry (x : FanRecord) : FanRecord :=
  if 200 ≤ x.speed then { x with state := .stopped, duty := 0, phase := 0 }
  else if x.attempts < 3 then
    { x with state := .stalled, duty := 0, phase := 30, attempts := x.attempts + 1 }
  else { x with state := .failed, duty := 0, phase := 0 }

/-- The action of a fan's state at a control step (the table of R49; R50 to R58). -/
def FanRecord.act (x : FanRecord) (t : Settings) : FanRecord :=
  match x.state with
  | .stopped =>
    if x.target = 0 then { x with duty := 0 }
    else { x with state := .starting, duty := t.nat .startDuty, phase := 5 }
  | .starting =>
    if x.target = 0 then { x with state := .stopped, duty := 0, phase := 0 }
    else if x.phase ≤ 1 then x.enterRunning t
    else { x with phase := x.phase - 1, duty := t.nat .startDuty }
  | .running =>
    if x.target = 0 then { x.noShortfall with state := .stopped, duty := 0, run := 0 }
    else x.runStep t
  | .stalled =>
    if x.phase ≤ 1 then x.retry t else { x with phase := x.phase - 1, duty := 0 }
  | .retrying =>
    if x.phase ≤ 1 then x.endRetry
    else { x with phase := x.phase - 1, duty := t.nat .startDuty }
  | .failed => { x with duty := 0 }

/-! ### Flow band and shortfall -/

/-- The flow band of a Q against a target (R53). -/
def bandOf (target q : Nat) : Band :=
  let tolerance := max (target / 10) 10
  if q + tolerance < target then .below
  else if target + tolerance < q then .above
  else .inBand

/-- The flow band set, but held while the flow probe is faulted (R53). -/
def FanRecord.judgeBand (x : FanRecord) : FanRecord :=
  { x with band := if x.probeFault then x.band else bandOf x.target x.flow }

/-- The shortfall rule (R54), applied while RUNNING with a target above 0 and a good flow probe. -/
def FanRecord.judgeShortfall (x : FanRecord) (t : Settings) : FanRecord :=
  if x.state = .running ∧ 0 < x.target ∧ x.probeFault = false then
    if x.shortfall then
      if x.band = .inBand then
        if 9 ≤ x.shortfallCount then x.noShortfall
        else { x with shortfallCount := x.shortfallCount + 1 }
      else { x with shortfallCount := 0 }
    else if x.duty = t.nat .dutyMax ∧ x.band = .below then
      if 59 ≤ x.shortfallCount then { x with shortfall := true, shortfallCount := 0 }
      else { x with shortfallCount := x.shortfallCount + 1 }
    else { x with shortfallCount := 0 }
  else x

/-- What a control step does to a fan's record, in the order of R49. -/
def FanRecord.step (x : FanRecord) (t : Settings) (k target : Nat) (c : Conversion) : FanRecord :=
  (((({ x with target := target }.count).judgeProbe k c).act t).judgeBand).judgeShortfall t

/-! ### Handing on what changed -/

/-- The changes of state that write a FAN log record (R60). -/
def fanLogged (old new : FanState) : Bool :=
  match new with
  | .stalled | .retrying | .failed => true
  | .stopped => old == .retrying || old == .failed
  | _ => false

/-- The changes of state that raise FAN_FAULT (R60). -/
def fanRaises (old new : FanState) : Bool :=
  match old, new with
  | .running, .stalled => true
  | .retrying, .failed => true
  | .retrying, .stopped => true
  | .failed, .stopped => true
  | _, _ => false

/-- A probe's fault flag changes (R48, R65, R136): PROBE_FAULT is raised and a PROBE record written. -/
def reportProbe (s : State) (name : ProbeName) (recovered : Bool) : State :=
  writeLog (raise s .probeFault) (.probe name recovered)

/-- A change of a fan's state (R49, R60, R151): its log record and event, the word to the procedure
runner, and the notice to the resolver. DESIGN CHOICE (assumption 29): the FAN record and FAN_FAULT stand before
what the runner writes and raises. -/
def fanChanged (s : State) (f : Side) (old new : FanState) : State :=
  if old = new then s
  else
    let s1 := if fanLogged old new then writeLog s (.fan f new) else s
    let s2 := if fanRaises old new then raise s1 .fanFault else s1
    notice (tellFan s2 new)

/-- A fan's record replaced, and what changed in it reported. DESIGN CHOICE (assumption 29): the flow probe
first, then the state. -/
def handFan (s : State) (f : Side) (new : FanRecord) : State :=
  let old := s.fans.get f
  let s1 := { s with fans := s.fans.set f new }
  let s2 := if old.probeFault = new.probeFault then s1 else reportProbe s1 (.flow f) old.probeFault
  fanChanged s2 f old.state new.state

/-- One fan's control step (R49), on the target latched for it. -/
def fanStep (s : State) (f : Side) (target : Nat) (c : Conversion) : State :=
  handFan s f ((s.fans.get f).step s.settings (s.settings.nat (ringKey f)) target c)

/-- The fan block's control step (R49): both fans take the targets of the operating point as it stands
at the step, SUPPLY and then EXTRACT. -/
def fansStep (s : State) (supply extract : Conversion) : State :=
  fanStep (fanStep s .supply s.op.s supply) .extract s.op.e extract

/-! ### The fan block's own commands -/

/-- TACH_PULSE (R47): a pulse of a fan's tachometer. -/
def execTachPulse (f : Side) (s : State) : Host.Outcome State Fault Refusal :=
  .next { s with fans := s.fans.set f { s.fans.get f with pulses := (s.fans.get f).pulses + 1 } }

/-- FAN_RUNNING_ENTRY (R50): the STARTING phase counter falls from 1 to 0. A fan elsewhere does not
enter RUNNING (assumption 1). -/
def execFanRunningEntry (f : Side) (s : State) : Host.Outcome State Fault Refusal :=
  let x := s.fans.get f
  .next (if x.state = .starting ∧ x.phase = 1 ∧ 0 < x.target then handFan s f (x.enterRunning s.settings)
    else s)

/-- FAN_STALL (R55): the low-speed counter of a RUNNING fan reaches 5. A fan whose counter does not
reach it does not stall (assumption 1). -/
def execFanStall (f : Side) (s : State) : Host.Outcome State Fault Refusal :=
  let x := s.fans.get f
  .next (if x.state = .running ∧ 0 < x.target ∧ 5 ≤ x.lowSpeedNext s.settings then handFan s f x.stall
    else s)

/-- FAN_RETRY_START (R56): the STALLED phase counter falls from 1 to 0 (assumption 1). -/
def execFanRetryStart (f : Side) (s : State) : Host.Outcome State Fault Refusal :=
  let x := s.fans.get f
  .next (if x.state = .stalled ∧ x.phase = 1 then handFan s f (x.retry s.settings) else s)

/-- FAN_RETRY_END (R57): the RETRYING phase counter falls from 1 to 0, and the retry is judged on the
speed (assumption 1). -/
def execFanRetryEnd (f : Side) (s : State) : Host.Outcome State Fault Refusal :=
  let x := s.fans.get f
  .next (if x.state = .retrying ∧ x.phase = 1 then handFan s f x.endRetry else s)

/-- SHORTFALL_SET (R54): the counter of a fan at full duty below band reaches 60 (assumption 1). -/
def execShortfallSet (f : Side) (s : State) : Host.Outcome State Fault Refusal :=
  let x := s.fans.get f
  .next (if x.shortfall = false ∧ (x.judgeShortfall s.settings).shortfall = true then
      handFan s f (x.judgeShortfall s.settings)
    else s)

/-- SHORTFALL_CLEARED (R54): the counter of a fan in band reaches 10 with the flag set (assumption 1). -/
def execShortfallCleared (f : Side) (s : State) : Host.Outcome State Fault Refusal :=
  let x := s.fans.get f
  .next (if x.shortfall = true ∧ (x.judgeShortfall s.settings).shortfall = false then
      handFan s f (x.judgeShortfall s.settings)
    else s)

/-- ATTEMPT_COUNT_RESET (R58): the run counter of a RUNNING fan reaches 60 (assumption 1). -/
def execAttemptCountReset (f : Side) (s : State) : Host.Outcome State Fault Refusal :=
  let x := s.fans.get f
  .next (if x.state = .running ∧ x.run = 59 then handFan s f x.countRun else s)

/-- FLOW_PROBE_FAULT (R48): the third consecutive bad reading of a flow probe (assumption 1). -/
def execFlowProbeFault (f : Side) (s : State) : Host.Outcome State Fault Refusal :=
  let x := s.fans.get f
  .next (if x.probeFault = false ∧ x.probeCount = 2 then handFan s f x.loseProbe else s)

/-- FLOW_PROBE_RECOVER (R48): the third consecutive good reading of a faulted flow probe
(assumption 1). -/
def execFlowProbeRecover (f : Side) (p : Nat) (s : State) : Host.Outcome State Fault Refusal :=
  let x := s.fans.get f
  .next (if x.probeFault = true ∧ x.probeCount = 2 ∧ p ≤ 5000 then
      handFan s f (x.regainProbe (s.settings.nat (ringKey f)) p)
    else s)

end Sys2Proof.Machine
end

