-- ==== Sys2Proof/Machine/Filters.lean ====
section
/-! DEFINITION. The filter monitor (chapter 7, sections 7.1 to 7.5, and the commit of section 7.7). What
an event does to a filter's own record is a pure function of the record and its inputs;
`handFilterState` then reports a changed state. -/

namespace Sys2Proof.Machine

/-! ### Filter probes -/

/-- A filter probe with its flag set, or with no last good reading, counts as faulted (R136). -/
def FilterRecord.isFaulted (x : FilterRecord) : Bool := x.probeFault || x.lastGood.isNone

/-- The filter probe's fault begins (R136): the last good reading is held. -/
def FilterRecord.loseProbe (x : FilterRecord) : FilterRecord :=
  { x with probeFault := true, probeCount := 0 }

/-- The filter probe's fault ends (R136): the reading that ends it becomes the last good reading. -/
def FilterRecord.regainProbe (x : FilterRecord) (dp : Nat) : FilterRecord :=
  { x with probeFault := false, probeCount := 0, lastGood := some dp }

/-- The filter probe's conversion of a control step (R136). -/
def FilterRecord.judgeProbe (x : FilterRecord) (c : Conversion) : FilterRecord :=
  match x.probeFault, goodReading c with
  | false, some dp => { x with probeCount := 0, lastGood := some dp }
  | false, none =>
    if x.probeCount < 2 then { x with probeCount := x.probeCount + 1 } else x.loseProbe
  | true, none => { x with probeCount := 0 }
  | true, some dp =>
    if x.probeCount < 2 then { x with probeCount := x.probeCount + 1 } else x.regainProbe dp

/-- A filter's record replaced. -/
def setFilter (s : State) (f : Side) (x : FilterRecord) : State :=
  { s with filters := { s.filters with records := s.filters.records.set f x } }

/-- A filter's record replaced; a change of its probe's flag is reported (R136). -/
def handFilterProbe (s : State) (f : Side) (new : FilterRecord) : State :=
  let old := s.filters.records.get f
  let s1 := setFilter s f new
  if old.probeFault = new.probeFault then s1 else reportProbe s1 (.filter f) old.probeFault

/-- One filter probe read at a control step (R136). -/
def readFilterProbe (s : State) (f : Side) (c : Conversion) : State :=
  handFilterProbe s f ((s.filters.records.get f).judgeProbe c)

/-- The filter monitor's share of a control step (R136). -/
def filtersControl (s : State) (supply extract : Conversion) : State :=
  readFilterProbe (readFilterProbe s .supply supply) .extract extract

/-! ### Counting at the minute tick -/

/-- The limit at which the volume, the running minutes and the age stop (R137). -/
def countLimit : Nat := 9999999

/-- Whether a filter's minute counts as running (R137): the side fan is RUNNING, and for the supply
filter the frost guard is not holding supply at 0. -/
def filterRuns (f : Side) (fan : FanRecord) (g : FrostRecord) : Bool :=
  fan.state == .running &&
    match f with
    | .extract => true
    | .supply =>
      !(g.stage == .thaw || g.stage == .lockout || (g.stage == .blind && g.blindPhase == some .thaw))

/-- A running minute's air (R137): the carry takes Q × 6 litres and gives whole cubic metres to the
volume, which stops at its limit with the carry at 0. -/
def FilterRecord.pass (x : FilterRecord) (q : Nat) : FilterRecord :=
  let litres := x.carry + q * 6
  let volume := min (x.kept.volume + litres / 1000) countLimit
  { x with
    kept := { x.kept with volume := volume, running := min (x.kept.running + 1) countLimit }
    carry := if volume = countLimit then 0 else litres % 1000 }

/-- The age of a minute tick (R137). -/
def FilterRecord.older (x : FilterRecord) : FilterRecord :=
  { x with kept := { x.kept with age := min (x.kept.age + 1) countLimit } }

/-- A minute tick for one filter (R137). -/
def FilterRecord.minute (x : FilterRecord) (runs : Bool) (q : Nat) : FilterRecord :=
  if runs then x.older.pass q else x.older

/-- One filter's minute on a state's inputs as they stand (R137). -/
def filterMinute (s : State) (f : Side) : FilterRecord :=
  (s.filters.records.get f).minute (filterRuns f (s.fans.get f) s.frost.record) (s.fans.get f).flow

/-- The persisted fields of both records (R134, R138). -/
def FilterMonitor.kept (m : FilterMonitor) : PerSide Persisted :=
  { supply := m.records.supply.kept, extract := m.records.extract.kept }

/-- The handover of the persisted fields to the store (R138, R150). -/
def handOverFields (s : State) : State := { s with store := s.store.takeFields s.filters.kept }

/-- The filter monitor's minute tick (R137), with the handover at every 60th tick since the load
(R138). Until the load ends it takes none (R155). DESIGN CHOICE (assumption 34): the tick counts first, so the
fields handed over hold its own counts. -/
def filtersMinute (s : State) : State :=
  if s.isLoading then s
  else
    let counted : FilterMonitor :=
      { s.filters with
        records := { supply := filterMinute s .supply, extract := filterMinute s .extract }
        hourTicks := (s.filters.hourTicks + 1) % 60 }
    if s.filters.hourTicks = 59 then handOverFields { s with filters := counted }
    else { s with filters := counted }

/-! ### The pressure computation -/

/-- The normalised drop D (R140). -/
def normalisedDrop (dp qRef q : Nat) : Nat := min (dp * qRef * qRef / (q * q)) 5000

/-- The end reference D_end (R141). -/
def endReference (clean endFactor : Nat) : Nat := clean * endFactor / 10

/-- The pressure loading Lp (R141). -/
def pressureLoading (clean : Option Nat) (endFactor ds : Nat) : Nat :=
  match clean with
  | none => 0
  | some d =>
    (clampInt 0 100
      ((((ds : Int) - (d : Int)) * 100).tdiv ((endReference d endFactor : Int) - (d : Int)))).toNat

/-- The missing counter after a pressure computation (R142). -/
def missingAfter (clean : Option Nat) (ds missing : Nat) : Nat :=
  match clean with
  | none => missing
  | some d =>
    if ds < d * 4 / 10 then min (missing + 1) 10 else if ds < d * 6 / 10 then missing else 0

/-- The smoothed drop after a pressure computation (R140). -/
def smoothedAfter (smoothed : Option Nat) (d : Nat) : Nat :=
  match smoothed with
  | none => d
  | some x => approach 16 x d

/-- The pressure computation (R140 to R142). -/
def FilterRecord.press (x : FilterRecord) (t : Settings) (dp q : Nat) : FilterRecord :=
  let ds := smoothedAfter x.smoothed (normalisedDrop dp (t.nat .qRef) q)
  { x with
    smoothed := some ds
    loading := pressureLoading x.kept.clean (t.nat .endFactor) ds
    missing := missingAfter x.kept.clean ds x.missing }

/-- Whether the pressure computation is made (R139 point 2). -/
def pressureMade (f : Side) (fan : FanRecord) (stage : Stage) : Bool :=
  fan.state == .running && decide (200 ≤ fan.flow) && !fan.probeFault &&
    match f with
    | .extract => true
    | .supply => !(stage == .thaw)

/-! ### Life used and state -/

/-- The life used (R143). -/
def FilterRecord.life (x : FilterRecord) (t : Settings) : Nat :=
  min 100 (max x.loading
    (max (x.kept.volume * 100 / t.nat .lifeVolume) (x.kept.age * 100 / (t.nat .maxAge * 1440))))

/-- The state of a filter with its life used, by the first condition that holds (R144). -/
def decideState (t : Settings) (shortfall : Bool) (x : FilterRecord) : FilterState :=
  if 10 ≤ x.missing then .missing
  else if shortfall && decide (80 ≤ x.loading) then .blocked
  else if 100 ≤ x.lifeUsed then .overdue
  else if t.nat .dueLevel ≤ x.lifeUsed then .due
  else if 50 ≤ x.lifeUsed then .loading
  else .clean

/-- The life used and then the state of a filter (R143, R144). -/
def FilterRecord.decide (x : FilterRecord) (t : Settings) (shortfall : Bool) : FilterRecord :=
  let lived := { x with lifeUsed := x.life t }
  { lived with state := decideState t shortfall lived }

/-- A filter's record replaced; a changed state raises FILTER_STATE, writes a FILTER record and hands the
resolver a notice (R144). -/
def handFilterState (s : State) (f : Side) (new : FilterRecord) : State :=
  let s1 := setFilter s f new
  if (s.filters.records.get f).state = new.state then s1
  else notice (writeLog (raise s1 .filterState) (.filter f new.state new.lifeUsed new.kept))

/-- What a filter step does to a filter's record (R139). -/
def FilterRecord.step (x : FilterRecord) (t : Settings) (f : Side) (fan : FanRecord) (stage : Stage) :
    FilterRecord :=
  match x.probeFault, x.lastGood with
  | false, some dp =>
    (if pressureMade f fan stage then x.press t dp fan.flow else x).decide t fan.shortfall
  | _, _ => x

/-- One filter's filter step on a state's inputs as they stand (R139). -/
def filterStepOne (s : State) (f : Side) : State :=
  handFilterState s f
    ((s.filters.records.get f).step s.settings f (s.fans.get f) s.frost.record.stage)

/-- The filter step (R139): SUPPLY, then EXTRACT. -/
def filterStep (s : State) : State :=
  let s1 := filterStepOne (filterStepOne s .supply) .extract
  { s1 with filters := { s1.filters with steps := s1.filters.steps + 1 } }

/-! ### The commit's share of the monitor -/

/-- A filter's record after a commit, before its life and state are decided (R150). -/
def FilterRecord.renew (x : FilterRecord) (clean : Nat) : FilterRecord :=
  { x with
    kept :=
      { clean := some clean, volume := 0, running := 0, age := 0, changes := min (x.kept.changes + 1) 65535 }
    smoothed := some clean
    loading := 0
    carry := 0
    missing := 0 }

/-- A commit for one filter (R150). -/
def commitFilter (s : State) (f : Side) (clean : Nat) : State :=
  handFilterState s f
    (((s.filters.records.get f).renew clean).decide s.settings (s.fans.get f).shortfall)

/-- A filter's record as the load fills it (R155): its probe is as it stands. -/
def FilterRecord.fill (x : FilterRecord) (t : Settings) (kept : Persisted) (shortfall : Bool) :
    FilterRecord :=
  { x with kept := kept, smoothed := none, loading := 0, carry := 0, missing := 0 }.decide t shortfall

/-! ### The filter monitor's own commands -/

/-- FILTER_STEP (R139): no filter step is taken before the load ends (R155). -/
def execFilterStep (s : State) : Host.Outcome State Fault Refusal :=
  .next (if s.isLoading then s else filterStep s)

/-- FILTER_PROBE_FAULT (R136): the third consecutive bad reading of a filter probe (assumption 1). -/
def execFilterProbeFault (f : Side) (s : State) : Host.Outcome State Fault Refusal :=
  let x := s.filters.records.get f
  .next (if x.probeFault = false ∧ x.probeCount = 2 then handFilterProbe s f x.loseProbe else s)

/-- FILTER_PROBE_RECOVER (R136): the third consecutive good reading of a faulted filter probe
(assumption 1). -/
def execFilterProbeRecover (f : Side) (p : Nat) (s : State) : Host.Outcome State Fault Refusal :=
  let x := s.filters.records.get f
  .next (if x.probeFault = true ∧ x.probeCount = 2 ∧ p ≤ 5000 then
      handFilterProbe s f (x.regainProbe p)
    else s)

/-- FILTER_FIELDS_HANDOVER (R138): the 60th minute tick counted from the end of the load, or from the
handover before it (assumption 1). DESIGN CHOICE (assumption 34): the row hands over the fields as they stand. -/
def execFilterFieldsHandover (s : State) : Host.Outcome State Fault Refusal :=
  .next (if s.isLoading = false ∧ s.filters.hourTicks = 59 then
      handOverFields { s with filters := { s.filters with hourTicks := 0 } }
    else s)

end Sys2Proof.Machine
end

