-- ==== Sys2Proof/Machine/Table.lean ====
section
/-! DEFINITION. The demand table (chapter 1): slots and generations, placement, removal, re-timing,
the countdown of a minute tick, and the removals of a link reset. -/

namespace Sys2Proof.Machine

/-- The shared slots, lowest first (R1). -/
def sharedSlots : List (Fin 16) := [0, 1, 2, 3, 4, 5, 6, 7, 8, 9, 10]

/-- The reserved slot of a zone (R1). -/
def zoneSlot : Zone → Fin 16
  | .z1 => 11
  | .z2 => 12
  | .z3 => 13
  | .z4 => 14

/-- The reserved slot of the dry guard (R1). -/
def drySlot : Fin 16 := 15

/-- The live entry of a slot (R1). -/
def DemandTable.live? (t : DemandTable) (slot : Fin 16) : Option Entry :=
  t.entries.find? fun e => e.slot == slot

/-- Whether a slot is live. -/
def DemandTable.isLive (t : DemandTable) (slot : Fin 16) : Bool :=
  t.entries.any fun e => e.slot == slot

/-- The holding of a link: the number of its live entries (R1). -/
def DemandTable.holding (t : DemandTable) (l : Link) : Nat :=
  t.entries.countP fun e => e.source == .link l

/-- The lowest-numbered free shared slot (R10). -/
def DemandTable.freeShared? (t : DemandTable) : Option (Fin 16) :=
  sharedSlots.find? fun slot => !t.isLive slot

/-- The entry of a slot leaves the posting order; the tag keeps its value (R2, R6). -/
def DemandTable.vacate (t : DemandTable) (slot : Fin 16) : DemandTable :=
  { t with entries := t.entries.filter fun e => !(e.slot == slot) }

/-- The generation the next entry of a slot takes: the tag advanced by one, modulo 16 (R2). -/
def DemandTable.nextGen (t : DemandTable) (slot : Fin 16) : Fin 16 := t.tags.get slot + 1

/-- An entry placed in a slot (R2, R10, R18): an entry it holds is removed first, the tag is advanced,
and the new entry joins the end of the posting order. -/
def DemandTable.place (t : DemandTable) (slot : Fin 16) (source : Source) (want : Want)
    (remaining : Option Nat) (posted : Stamp) : DemandTable :=
  let gen := t.nextGen slot
  { tags := t.tags.set slot.val gen slot.isLt
    entries := (t.vacate slot).entries ++
      [{ slot := slot, gen := gen, source := source, want := want, remaining := remaining,
         posted := posted }] }

/-- A slot's entry given a new remaining count, or made standing, in its place (R19). -/
def DemandTable.retime (t : DemandTable) (slot : Fin 16) (remaining : Option Nat) : DemandTable :=
  { t with entries := t.entries.map fun e =>
      if e.slot = slot then { e with remaining := remaining } else e }

/-- Every entry of a link removed (R22). -/
def DemandTable.dropLink (t : DemandTable) (l : Link) : DemandTable :=
  { t with entries := t.entries.filter fun e => !(e.source == .link l) }

/-- A live entry counted down at a minute tick; a standing one has no count (R14). -/
def Entry.countDown (e : Entry) : Entry := { e with remaining := e.remaining.map (· - 1) }

/-- Whether an entry's count has reached 0. -/
def Entry.isSpent (e : Entry) : Bool := e.remaining == some 0

/-- The entries removed at a minute tick, in posting order (R14). -/
def DemandTable.spent (t : DemandTable) : List Entry :=
  (t.entries.map Entry.countDown).filter Entry.isSpent

/-- The table after the countdown and the removals of a minute tick (R14). -/
def DemandTable.ticked (t : DemandTable) : DemandTable :=
  { t with entries := (t.entries.map Entry.countDown).filter fun e => !e.isSpent }

/-! ### Clamping (R9, R18) -/

/-- A stored level: above 1200 it becomes 1200. -/
def clampLevel (n : Nat) : Nat := min n 1200

/-- A stored remaining count: absent for a duration of 0, and at most 1440. -/
def storedRemaining (duration : Nat) : Option Nat :=
  if duration = 0 then none else some (min duration 1440)

/-- A remaining count of an internal entry, clamped to 1–1440. -/
def clampRemaining (r : Option Nat) : Option Nat := r.map (clampNat 1 1440)

/-- What an entry asks for with its level clamped (R18). -/
def Want.clamped : Want → Want
  | .raise v => .raise (clampLevel v)
  | .setback v => .setback (clampLevel v)
  | .bypass => .bypass

/-! ### Internal entries (R18, R19, R20) -/

/-- An internal placement (R18). -/
def placeInternal (s : State) (slot : Fin 16) (source : Source) (want : Want)
    (remaining : Option Nat) : State :=
  let placed := s.table.place slot source want.clamped (clampRemaining remaining) s.time.stamp
  notice { s with table := placed }

/-- An internal re-timing (R19): a free slot leaves the table as it is. -/
def retimeInternal (s : State) (slot : Fin 16) (remaining : Option Nat) : State :=
  if s.table.isLive slot then
    notice { s with table := s.table.retime slot (clampRemaining remaining) }
  else s

/-- An internal removal (R20): a free slot leaves the table as it is. -/
def removeInternal (s : State) (slot : Fin 16) : State :=
  if s.table.isLive slot then notice { s with table := s.table.vacate slot } else s

/-- The table's share of a link reset (R22): one notice when at least one entry was removed. -/
def dropLinkEntries (s : State) (l : Link) : State :=
  if s.table.holding l = 0 then s else notice { s with table := s.table.dropLink l }

end Sys2Proof.Machine
end

