-- ==== Sys2Proof/Machine/Humidity.lean ====
section
/-! DEFINITION. The humidity monitor (chapter 6): absolute humidity, the zone machine, the extract
sensor and the dry guard. A zone's own rules are pure functions of its record that answer a `ZoneMove`;
`applyZoneMove` carries one out. -/

namespace Sys2Proof.Machine

/-! ### Absolute humidity -/

/-- The saturated density at the thirteen table points, from −20.0 to +40.0 degrees C (R110). -/
def satPoints : List Nat :=
  [88, 139, 214, 324, 485, 680, 940, 1283, 1730, 2305, 3038, 3963, 5116]

/-- The saturated density at a temperature, interpolated between the table points (R110). -/
def satDensity (t : Int) : Nat :=
  let u := (clampInt (-200) 400 t + 200).toNat
  let lo := satPoints.getD (u / 50) 5116
  let hi := satPoints.getD (u / 50 + 1) 5116
  lo + (hi - lo) * (u % 50) / 50

/-- The absolute humidity of a relative humidity and a temperature (R111). -/
def absHumidity (rh : Nat) (t : Int) : Nat := rh * satDensity t / 1000

/-- A sample judged (R112): good when the outcome is OK, the status VALID, and RH and T lie in their
ranges; the data are laid out as R192 gives. -/
def judgeSample : BusOutcome → Option Sample
  | .ok d =>
    let rh := (joinHalf d.d0 d.d1).toNat
    let t := (joinHalf d.d2 d.d3).toInt
    if d.status = 0x00#8 ∧ rh ≤ 1000 ∧ -400 ≤ t ∧ t ≤ 850 then
      some { rh := rh, t := t, ah := absHumidity rh t }
    else none
  | _ => none

/-! ### The zone machine -/

/-- What a zone asks of the demand table. -/
inductive ZoneAction where
  | keep | place | standing | timed | remove
  deriving DecidableEq, Repr

/-- What a zone does at one of its events: its new record, the changes of state it reports in order
(R124), what it asks of the demand table, and whether its sensor became stale (`some false`) or fresh
(`some true`) (R125). -/
structure ZoneMove where
  record : ZoneRecord
  reports : List (ZoneState × ZoneCause)
  action : ZoneAction
  sensor : Option Bool
  deriving DecidableEq, Repr

/-- Nothing but a new record. -/
def ZoneRecord.only (z : ZoneRecord) : ZoneMove :=
  { record := z, reports := [], action := .keep, sensor := none }

/-- Whether RH alone is high enough to boost (R115). -/
def rhHigh (x : Sample) : Bool := decide (850 ≤ x.rh)

/-- The rise of a sample over a zone's baseline; an absent baseline is set to the sample (R115). -/
def ZoneRecord.rise (z : ZoneRecord) (x : Sample) : Int := (x.ah : Int) - (z.baseline.getD x.ah : Nat)

/-- The judgement of a sample in QUIET (R115): a boost begins, or the baseline tracks. -/
def judgeQuiet (t : Settings) (n : Zone) (z : ZoneRecord) (x : Sample) : ZoneMove :=
  let base := z.baseline.getD x.ah
  let risen := decide (t.get (.zone n .boostOn) ≤ z.rise x)
  if risen || rhHigh x then
    { record := { z with state := .boosting, baseline := some base, lowCount := 0, boostTimer := 0 }
      reports := [(.boosting, if risen then .rise else .rhHigh)]
      action := .place
      sensor := none }
  else
    { record := { z with state := .quiet, baseline := some (approach 32 base x.ah) }
      reports := []
      action := .keep
      sensor := none }

/-- A zone that has taken a good sample: the failure count is 0, the stale flag clear and the last
sample this one (R115 to R118). -/
def ZoneRecord.fed (z : ZoneRecord) (x : Sample) : ZoneRecord :=
  { z with failures := 0, stale := false, last := some x }

/-- A good sample for a typed zone (R115 to R118). -/
def zoneGood (t : Settings) (n : Zone) (z : ZoneRecord) (x : Sample) : ZoneMove :=
  let fresh := if z.stale then some true else none
  let fed := z.fed x
  match z.state with
  | .unused => z.only
  | .quiet => { judgeQuiet t n fed x with sensor := fresh }
  | .boosting =>
    if decide (z.rise x ≤ t.get (.zone n .boostOff)) && !rhHigh x then
      if z.lowCount = 0 then { fed.only with record := { fed with lowCount := 1 }, sensor := fresh }
      else
        { record := { fed with state := .recovering, lowCount := 0 }
          reports := [(.recovering, .settled)]
          action := .timed
          sensor := fresh }
    else { fed.only with record := { fed with lowCount := 0 }, sensor := fresh }
  | .recovering =>
    if decide (t.get (.zone n .boostOn) ≤ z.rise x) || rhHigh x then
      { record := { fed with state := .boosting, lowCount := 0 }
        reports := [(.boosting, .resumed)]
        action := .standing
        sensor := fresh }
    else { fed.only with sensor := fresh }
  | .stale =>
    let m := judgeQuiet t n { fed with state := .quiet, baseline := some x.ah } x
    { m with reports := (.quiet, .fresh) :: m.reports, sensor := fresh }

/-- A failed sample for a typed zone (R119). -/
def zoneFailed (z : ZoneRecord) : ZoneMove :=
  if z.failures < 2 then { z with failures := z.failures + 1 }.only
  else if z.failures = 2 then
    let lost := { z with failures := 3, stale := true }
    match z.state with
    | .quiet =>
      { record := { lost with state := .stale }
        reports := [(.stale, .silent)]
        action := .keep
        sensor := some false }
    | .boosting =>
      { record := { lost with state := .recovering, lowCount := 0 }
        reports := [(.recovering, .lost)]
        action := .timed
        sensor := some false }
    | _ => { lost.only with sensor := some false }
  else z.only

/-- A scanner outcome for a zone (R101, R112): disregarded while the zone is UNUSED. -/
def zoneOutcome (t : Settings) (n : Zone) (z : ZoneRecord) (o : BusOutcome) : ZoneMove :=
  if z.zoneType = .unused then z.only
  else
    match judgeSample o with
    | some x => zoneGood t n z x
    | none => zoneFailed z

/-- The re-baselining of a BOOSTING zone (R120). -/
def rebaseline (z : ZoneRecord) : ZoneMove :=
  { record :=
      { z with
        state := .quiet
        baseline := match z.last with
          | some x => some x.ah
          | none => z.baseline
        boostTimer := 0
        lowCount := 0 }
    reports := [(.quiet, .rebaselined)]
    action := .remove
    sensor := none }

/-- Whether the next minute tick re-baselines a zone (R120). -/
def boostSpent (t : Settings) (n : Zone) (z : ZoneRecord) : Bool :=
  z.state == .boosting && decide (t.nat (.zone n .maxBoost) ≤ z.boostTimer + 1)

/-- A minute tick for a zone (R120): only a BOOSTING zone's timer advances. -/
def zoneTick (t : Settings) (n : Zone) (z : ZoneRecord) : ZoneMove :=
  if z.state = .boosting then
    if boostSpent t n z then rebaseline z else { z with boostTimer := z.boostTimer + 1 }.only
  else z.only

/-- The demand table tells a zone that its entry has expired (R122). DESIGN CHOICE (assumption 31): the last
good sample of a BOOSTING zone is judged by the tests of R115 alone, and is not counted as a fresh sample, so
the failure count and the stale flag stay, and so does the low-sample count where no boost starts. -/
def zoneExpired (t : Settings) (n : Zone) (z : ZoneRecord) : ZoneMove :=
  match z.state with
  | .recovering =>
    let next := if z.stale then ZoneState.stale else .quiet
    { record := { z with state := next, boostTimer := 0 }
      reports := [(next, .expired)]
      action := .keep
      sensor := none }
  | .boosting =>
    let quiet := { z with state := .quiet, boostTimer := 0 }
    match z.last with
    | some x =>
      let m := judgeQuiet t n quiet x
      { m with reports := (.quiet, .expired) :: m.reports }
    | none => { quiet.only with reports := [(.quiet, .expired)] }
  | .quiet | .stale | .unused => z.only

/-- A zone of a type with nothing yet known of it (R123, R133). -/
def ZoneRecord.ofType (ty : ZoneType) : ZoneRecord :=
  { ZoneRecord.reset with zoneType := ty, state := if ty = .unused then .unused else .quiet }

/-- A stored change of a zone's type (R123). -/
def zoneRetyped (z : ZoneRecord) (ty : ZoneType) : ZoneMove :=
  if ty = z.zoneType then z.only
  else if z.zoneType = .unused then
    { record := ZoneRecord.ofType ty, reports := [(.quiet, .typed)], action := .keep, sensor := none }
  else if ty = .unused then
    { record := ZoneRecord.ofType .unused, reports := [(.unused, .typed)], action := .remove,
      sensor := none }
  else { z with zoneType := ty }.only

/-! ### Carrying out a zone's move -/

/-- What a zone asks of the demand table, carried out in its reserved slot (R18, R19, R20). -/
def zoneAct (s : State) (n : Zone) : ZoneAction → State
  | .keep => s
  | .place =>
    placeInternal s (zoneSlot n) (.zone n) (.raise (s.settings.nat (.zone n .boostLevel))) none
  | .standing => retimeInternal s (zoneSlot n) none
  | .timed => retimeInternal s (zoneSlot n) (some (s.settings.nat (.zone n .overrun)))
  | .remove => removeInternal s (zoneSlot n)

/-- A sensor becomes stale or fresh (R125): SENSOR_STALE is raised and a PROBE record written. -/
def reportSensor (s : State) (n : Sensor) (recovered : Bool) : State :=
  writeLog (raise s .sensorStale) (.probe (.sensor n) recovered)

/-- The changes of state of one event reported (R124): ZONE_STATE once, a ZONE record for each. -/
def reportZone (s : State) (n : Zone) (ah : Option Nat) (reports : List (ZoneState × ZoneCause)) :
    State :=
  match reports with
  | [] => s
  | _ => reports.foldl (fun s r => writeLog s (.zone n r.1 ah r.2)) (raise s .zoneState)

/-- A zone's move carried out: its record, its sensor's report, its changes of state, and what it asks
of the demand table. DESIGN CHOICE (assumption 29): the PROBE record stands before the ZONE records.
DESIGN CHOICE (assumption 30): a ZONE record carries the AH of the zone's record after the event, so the
record of a change to UNUSED carries none. -/
def applyZoneMove (s : State) (n : Zone) (m : ZoneMove) : State :=
  let s1 := { s with humidity := { s.humidity with zones := s.humidity.zones.set n m.record } }
  let s2 :=
    match m.sensor with
    | none => s1
    | some recovered => reportSensor s1 (.zone n) recovered
  zoneAct (reportZone s2 n (m.record.last.map Sample.ah) m.reports) n m.action

/-! ### The extract sensor and the dry guard -/

/-- RH_eta as the dry guard reads it (R129): a held value until the sensor is stale. -/
def ExtractRecord.rhEta (x : ExtractRecord) : Option Nat :=
  if x.stale then none else x.last.map Prod.fst

/-- AH_eta as the monitor reports it to the frost guard (R127). -/
def ExtractRecord.ahEta (x : ExtractRecord) : Option Nat :=
  if x.stale then none else x.last.map Prod.snd

/-- Whether an OFF dry guard turns ON (R129). -/
def dryTurnsOn (t : Settings) (x : ExtractRecord) (oda : Option Int) : Bool :=
  match x.rhEta, oda with
  | some rh, some o => decide (rh < t.nat .dryOn) && decide (o < 0)
  | _, _ => false

/-- Whether an ON dry guard turns OFF (R129). -/
def dryTurnsOff (t : Settings) (x : ExtractRecord) (oda : Option Int) : Bool :=
  x.stale
    || (match x.rhEta with
        | some rh => decide (t.nat .dryOff ≤ rh)
        | none => false)
    || (match oda with
        | some o => decide (20 ≤ o)
        | none => true)

/-- The dry guard's SETBACK placed at `dry_level`, and its level recorded (R129, R130). -/
def placeDry (s : State) : State :=
  let level := s.settings.nat .dryLevel
  placeInternal { s with humidity := { s.humidity with dryPlaced := some level } }
    drySlot .dryGuard (.setback level) none

/-- A dry guard decision (R129, R130). -/
def dryDecision (s : State) : State :=
  let oda := (s.frost.probes.get .oda).healthy?
  match s.humidity.dryPlaced with
  | none => if dryTurnsOn s.settings s.humidity.extract oda then placeDry s else s
  | some level =>
    if dryTurnsOff s.settings s.humidity.extract oda then
      removeInternal { s with humidity := { s.humidity with dryPlaced := none } } drySlot
    else if s.settings.nat .dryLevel ≠ level then placeDry s
    else s

/-- The extract record after an outcome, and whether the sensor became stale (`some false`) or fresh
(`some true`) (R126). -/
def ExtractRecord.take (x : ExtractRecord) (good : Option Sample) : ExtractRecord × Option Bool :=
  match good with
  | some y =>
    ({ last := some (y.rh, y.ah), failures := 0, stale := false },
      if x.stale then some true else none)
  | none =>
    if x.failures < 2 then ({ x with failures := x.failures + 1 }, none)
    else if x.failures = 2 then ({ x with failures := 3, stale := true }, some false)
    else (x, none)

/-- An extract outcome (R126): the record, the sensor's report, and a dry guard decision. -/
def extractOutcome (s : State) (good : Option Sample) : State :=
  let (x, sensor) := s.humidity.extract.take good
  let s1 := { s with humidity := { s.humidity with extract := x } }
  dryDecision
    (match sensor with
     | none => s1
     | some recovered => reportSensor s1 .extract recovered)

/-- A scanner outcome handed to the humidity monitor (R101, R112, R126). -/
def scannerOutcome (s : State) (n : Sensor) (o : BusOutcome) : State :=
  match n with
  | .zone z => applyZoneMove s z (zoneOutcome s.settings z (s.humidity.zones.get z) o)
  | .extract => extractOutcome s (judgeSample o)

/-! ### The monitor's own events -/

/-- A minute tick taken by one zone (R120). -/
def zoneMinute (s : State) (n : Zone) : State :=
  applyZoneMove s n (zoneTick s.settings n (s.humidity.zones.get n))

/-- A minute tick taken by the boost timers (R120). DESIGN CHOICE (assumption 23): the zones take it in the
order 1 to 4. -/
def boostMinute (s : State) : State := zoneMinute (zoneMinute (zoneMinute (zoneMinute s .z1) .z2) .z3) .z4

/-- BOOST_REBASELINE (R120): the boost timer of a BOOSTING zone reaches `zone_n_max_boost`. A zone whose
timer is further from it, or that is not BOOSTING, does not re-baseline (assumption 1). -/
def execBoostRebaseline (n : Zone) (s : State) : Host.Outcome State Fault Refusal :=
  .next (if boostSpent s.settings n (s.humidity.zones.get n)
    then applyZoneMove s n (rebaseline (s.humidity.zones.get n)) else s)

/-- SENSOR_STALE (R119, R126): the failed sample that brings a sensor's failure count to 3. A sensor with
another count, or of an UNUSED zone, does not become stale by it (assumption 1). -/
def execSensorStale (n : Sensor) (s : State) : Host.Outcome State Fault Refusal :=
  .next
    (match n with
     | .zone z =>
       if (s.humidity.zones.get z).failures = 2 ∧ (s.humidity.zones.get z).zoneType ≠ .unused then
         applyZoneMove s z (zoneFailed (s.humidity.zones.get z))
       else s
     | .extract => if s.humidity.extract.failures = 2 then extractOutcome s none else s)

end Sys2Proof.Machine
end

