-- ==== Sys2Proof/Machine/Frost.lean ====
section
/-! DEFINITION. The frost guard (chapter 4): the airstream probes, the frost index, the stage machine,
the unbalance ratio, the preheater and the BLIND schedule. The stage machine is a pure function of the
frost record that answers a `FrostMove`; `applyFrostMove` carries one out. -/

namespace Sys2Proof.Machine

/-! ### The airstream probes -/

/-- A conversion is a good read from −400 to +850 inclusive (R64). -/
def goodRead (t : Int) : Bool := decide (-400 ≤ t) && decide (t ≤ 850)

/-- A probe record after a read (R65). -/
def ProbeRecord.read (p : ProbeRecord) (t : Int) : ProbeRecord :=
  match p.status, goodRead t with
  | .noValue, true => { status := .good t, reads := 0 }
  | .noValue, false =>
    if p.reads < 2 then { p with reads := p.reads + 1 } else { status := .faulted none, reads := 0 }
  | .good _, true => { status := .good t, reads := 0 }
  | .good v, false =>
    if p.reads < 2 then { p with reads := p.reads + 1 }
    else { status := .faulted (some v), reads := 0 }
  | .faulted _, false => { p with reads := 0 }
  | .faulted _, true =>
    if p.reads < 2 then { p with reads := p.reads + 1 } else { status := .good t, reads := 0 }

/-- Whether a probe is FAULTED. -/
def ProbeRecord.isFaulted (p : ProbeRecord) : Bool :=
  match p.status with
  | .faulted _ => true
  | _ => false

/-- A probe record replaced; a change into or out of FAULTED is reported (R65). -/
def handAirProbe (s : State) (n : AirProbe) (new : ProbeRecord) : State :=
  let old := s.frost.probes.get n
  let s1 := { s with frost := { s.frost with probes := s.frost.probes.set n new } }
  if old.isFaulted = new.isFaulted then s1 else reportProbe s1 (.air n) old.isFaulted

/-- One probe read at a control step (R64, R65). -/
def readAirProbe (s : State) (n : AirProbe) (t : Int) : State :=
  handAirProbe s n ((s.frost.probes.get n).read t)

/-- The five bypass truths of the probes as they stand (R66). -/
def bypassTruths (t : Settings) (probes : PerProbe ProbeRecord) : BypassTruths where
  odaHealthy := (probes.get .oda).healthy?.isSome
  etaHealthy := (probes.get .eta).healthy?.isSome
  warm := (probes.get .oda).value?.any fun o => decide (t.get .bypassMinOutdoor ≤ o)
  cold := (probes.get .oda).value?.any fun o => decide (o < t.get .bypassMinOutdoor - 10)
  houseWarmer :=
    match (probes.get .oda).value?, (probes.get .eta).value? with
    | some o, some h => decide (20 ≤ h - o)
    | _, _ => false

/-- The bypass truths judged against those of the previous control step, with a notice when any of
them differs (R66). -/
def judgeTruths (s : State) : State :=
  let now := bypassTruths s.settings s.frost.probes
  let s1 := { s with frost := { s.frost with truths := now } }
  if now = s.frost.truths then s1 else notice s1

/-! ### The preheater -/

/-- Whether a preheater is fitted and unfaulted, and so usable (R75). -/
def preheaterUsable (t : Settings) (g : FrostRecord) : Bool :=
  t.get .preheaterFitted == 1 && !g.fault

/-- Whether the preheater may run (R83). -/
def preheaterMayRun (t : Settings) (g : FrostRecord) (fan : FanRecord) (sup : ProbeRecord) : Bool :=
  preheaterUsable t g && (g.stage == .preheat || g.stage == .unbalance)
    && fan.state == .running && decide (t.nat .preheatMinFlow ≤ fan.flow) && sup.healthy?.isSome

/-- Whether the preheater may run on a state's inputs as they stand (R83). -/
def mayRun (s : State) (g : FrostRecord) : Bool :=
  preheaterMayRun s.settings g (s.fans.get .supply) (s.frost.probes.get .sup)

/-- The interlock of a control step (R83): when any condition fails, the duty becomes 0 and the heater is
switched off for the rest of the cycle. -/
def interlock (s : State) : State :=
  let may := mayRun s s.frost.record
  { s with frost :=
      { s.frost with
        record := { s.frost.record with duty := if may then s.frost.record.duty else 0 }
        heaterOn := may && s.frost.heaterOn } }

/-- Whether the overheat test latches the preheater fault (R86). -/
def overheated (s : State) : Bool :=
  decide (0 < s.frost.record.duty) && (s.frost.probes.get .sup).healthy?.any fun v => decide (400 < v)

/-- The overheat test of a control step (R86). -/
def overheat (s : State) : State :=
  if overheated s then
    raise
      { s with frost :=
          { s.frost with
            record := { s.frost.record with duty := 0, fault := true }
            heaterOn := false } }
      .preheaterFault
  else s

/-- The frost guard's share of a control step: the four probes (R64, R65), the bypass truths (R66), then
the interlock and the overheat test of the preheater (R83, R86; assumption 4). -/
def frostControl (s : State) (inp : ControlInputs) : State :=
  overheat (interlock (judgeTruths
    (readAirProbe (readAirProbe (readAirProbe (readAirProbe s .oda inp.oda) .sup inp.sup)
      .eta inp.eta) .eha inp.eha)))

/-! ### The frost index -/

/-- Whether the thaw gap has elapsed (R80). -/
def gapElapsed (t : Settings) (g : FrostRecord) : Bool := decide (t.nat .thawGap * 6 ≤ g.gap)

/-- The gap count of a frost step (R80). -/
def FrostRecord.countGap (g : FrostRecord) : FrostRecord := { g with gap := min (g.gap + 1) 720 }

/-- The rise of F below the ice threshold (R68): `ah` is AH_eta, or absent. -/
def frostRise (ice eha : Int) (ah : Option Nat) : Nat :=
  max 1 ((min (ice - eha) 100).toNat * ah.getD 800 / 8000)

/-- The fall of F at or above the ice threshold (R69). -/
def frostFall (ice eha : Int) : Nat := max 1 ((min (eha - ice) 100).toNat / 4)

/-- The stages in which an extract shortfall adds to F (R69). -/
def Stage.countsShortfall : Stage → Bool
  | .watch | .preheat | .unbalance | .thaw | .lockout => true
  | .normal | .blind => false

/-- F after a frost step's update (R67 stage 3, R68, R69): held in BLIND and without a healthy T_eha. -/
def frostIndex (t : Settings) (g : FrostRecord) (eha : Option Int) (ah : Option Nat)
    (shortfall : Bool) : Nat :=
  match eha with
  | none => g.f
  | some v =>
    if g.stage = .blind then g.f
    else
      let ice := t.get .frostThreshold
      let moved : Int := if v < ice then (g.f : Int) + frostRise ice v ah else (g.f : Int) - frostFall ice v
      let f := (clampInt 0 10000 (if g.stage.countsShortfall && shortfall then moved + 20 else moved)).toNat
      if gapElapsed t g then f else min f (t.thresholds.thawOn - 1)

/-! ### The stage machine -/

/-- How a THAW ended, for its log record (R79, R87). -/
structure ThawEnd where
  outcome : ThawOutcome
  seconds : Nat
  deriving DecidableEq, Repr

/-- What the stage machine does at a frost step: the new record, and the end of a THAW if one ended. -/
structure FrostMove where
  record : FrostRecord
  thawEnd : Option ThawEnd
  deriving DecidableEq, Repr

/-- Nothing but a new record. -/
def FrostRecord.move (g : FrostRecord) : FrostMove := { record := g, thawEnd := none }

/-- Entry to a stage: r is 0 in NORMAL and WATCH (R74), and entry to PREHEAT sets the pinned count
to 0 (R75, R85). -/
def FrostRecord.enter (g : FrostRecord) (stage : Stage) : FrostRecord :=
  { g with
    stage := stage
    r := if stage = .normal ∨ stage = .watch then 0 else g.r
    pinned := if stage = .preheat then 0 else g.pinned }

/-- Whether the BLIND schedule is cold (R88): T_oda not healthy, or below −3.0 degrees C. -/
def blindCold (oda : Option Int) : Bool :=
  match oda with
  | some v => decide (v < -30)
  | none => true

/-- The ratio of a RUN step in BLIND (R88). -/
def blindRatio (t : Settings) (oda : Option Int) : Nat :=
  if blindCold oda then t.nat .maxUnbalance else 0

/-- Entry to BLIND (R87). -/
def enterBlind (t : Settings) (g : FrostRecord) (oda : Option Int) : FrostMove :=
  if g.stage = .thaw then
    { record :=
        { g with
          stage := .blind
          gap := 0
          blindPhase := some .thaw
          blindCount := max 1 (t.nat .thawMax * 6 - g.elapsed) }
      thawEnd := some { outcome := .interrupted, seconds := g.elapsed * 10 } }
  else
    { g with
      stage := .blind
      blindPhase := some .run
      blindCount := 300
      r := blindRatio t oda }.move

/-- NORMAL judged (R75). -/
def judgeNormal (t : Settings) (g : FrostRecord) : FrostMove :=
  (if t.thresholds.watchOn ≤ g.f then g.enter .watch else g).move

/-- WATCH judged (R75). -/
def judgeWatch (t : Settings) (g : FrostRecord) : FrostMove :=
  (if g.f = 0 then g.enter .normal
   else if t.thresholds.preheatOn ≤ g.f then
     g.enter (if preheaterUsable t g then .preheat else .unbalance)
   else g).move

/-- PREHEAT judged (R76). -/
def judgePreheat (t : Settings) (g : FrostRecord) : FrostMove :=
  (if t.thresholds.unbalanceOn ≤ g.f then g.enter .unbalance
   else if g.f ≤ t.thresholds.preheatOff then g.enter .watch
   else if !preheaterUsable t g then g.enter .unbalance
   else if 180 ≤ g.pinned then g.enter .unbalance
   else g).move

/-- UNBALANCE judged (R77); entry to THAW sets its counts to 0 (R78). -/
def judgeUnbalance (t : Settings) (g : FrostRecord) : FrostMove :=
  (if t.thresholds.thawOn ≤ g.f ∧ gapElapsed t g = true then
     { g.enter .thaw with elapsed := 0, success := 0 }
   else if g.r = 0 ∧ g.f ≤ t.thresholds.unbalanceExit then
     g.enter (if preheaterUsable t g then .preheat else .watch)
   else g).move

/-- The thaw counts of a frost step in THAW (R78). -/
def FrostRecord.countThaw (g : FrostRecord) (t : Settings) (eha : Int) : FrostRecord :=
  { g with
    elapsed := g.elapsed + 1
    success := if t.get .thawEnd ≤ eha then g.success + 1 else 0 }

/-- A thaw ends in success (R79). -/
def thawSucceeds (t : Settings) (g : FrostRecord) : FrostMove :=
  { record :=
      { g.enter .unbalance with f := t.thresholds.unbalanceExit, failures := 0, gap := 0 }
    thawEnd := some { outcome := .success, seconds := g.elapsed * 10 } }

/-- A thaw times out (R79): at 3 failures the stage goes to LOCKOUT. -/
def thawTimesOut (t : Settings) (g : FrostRecord) : FrostMove :=
  { record :=
      { g.enter (if 3 ≤ g.failures + 1 then .lockout else .unbalance) with
        f := t.thresholds.unbalanceOn
        failures := g.failures + 1
        gap := 0 }
    thawEnd := some { outcome := .timeout, seconds := g.elapsed * 10 } }

/-- THAW judged (R78). -/
def judgeThaw (t : Settings) (g : FrostRecord) (eha : Int) : FrostMove :=
  let c := g.countThaw t eha
  if 18 ≤ c.success then thawSucceeds t c
  else if t.nat .thawMax * 6 ≤ c.elapsed then thawTimesOut t c
  else c.move

/-- Whether a frost step counts towards release from LOCKOUT (R81). -/
def lockoutWarm (t : Settings) (oda : Option Int) : Bool :=
  oda.any fun v => decide (t.get .lockoutRelease ≤ v)

/-- LOCKOUT released by warmth (R81). -/
def FrostRecord.release (g : FrostRecord) : FrostRecord :=
  { g.enter .normal with f := 0, failures := 0, warmth := 0 }

/-- LOCKOUT judged (R81). -/
def judgeLockout (t : Settings) (g : FrostRecord) (oda : Option Int) : FrostMove :=
  (if lockoutWarm t oda then
     if 360 ≤ g.warmth + 1 then g.release else { g with warmth := g.warmth + 1 }
   else { g with warmth := 0 }).move

/-- BLIND ends with T_eha healthy again (R89). -/
def leaveBlind (t : Settings) (g : FrostRecord) : FrostRecord :=
  { g.enter .watch with f := t.thresholds.unbalanceOn, blindPhase := none, blindCount := 0 }

/-- The BLIND schedule when its count reaches 0 (R88). -/
def blindTurn (t : Settings) (g : FrostRecord) (oda : Option Int) : FrostRecord :=
  match g.blindPhase with
  | some .thaw => { g with blindPhase := some .run, blindCount := 300, r := blindRatio t oda }
  | _ =>
    if blindCold oda then { g with blindPhase := some .thaw, blindCount := 60 }
    else { g with blindPhase := some .run, blindCount := 300, r := 0 }

/-- A frost step of the BLIND schedule (R88). -/
def blindStep (t : Settings) (g : FrostRecord) (oda : Option Int) : FrostRecord :=
  if g.blindCount ≤ 1 then blindTurn t g oda
  else
    match g.blindPhase with
    | some .thaw => { g with blindCount := g.blindCount - 1 }
    | _ => { g with blindCount := g.blindCount - 1, r := blindRatio t oda }

/-- Stage 4 of a frost step: the test for BLIND, then the current stage's own rule (R74). -/
def judgeStage (t : Settings) (g : FrostRecord) (eha oda : Option Int) : FrostMove :=
  match g.stage, eha with
  | .lockout, _ => judgeLockout t g oda
  | .blind, some _ => (leaveBlind t g).move
  | .blind, none => (blindStep t g oda).move
  | _, none => enterBlind t g oda
  | .normal, some _ => judgeNormal t g
  | .watch, some _ => judgeWatch t g
  | .preheat, some _ => judgePreheat t g
  | .unbalance, some _ => judgeUnbalance t g
  | .thaw, some v => judgeThaw t g v

/-! ### Ratio and duty -/

/-- The ratio of a ramp step in UNBALANCE (R77). -/
def rampRatio (t : Settings) (g : FrostRecord) : Nat :=
  if t.thresholds.unbalanceOn ≤ g.f then g.r + 50
  else if g.f < t.thresholds.unbalanceDown then g.r - 50
  else g.r

/-- Stage 5 of a frost step (R71, R77): the ramp, and the ceiling of `max_unbalance`. DESIGN CHOICE (assumption 36):
the ramp moves r first, and the ceiling is applied to what it leaves. -/
def FrostRecord.ramp (g : FrostRecord) (t : Settings) (isRamp : Bool) : FrostRecord :=
  { g with r := min (if isRamp && g.stage == .unbalance then rampRatio t g else g.r) (t.nat .maxUnbalance) }

/-- The preheater duty of a frost step at which the preheater may run (R84). -/
def nextDuty (t : Settings) (g : FrostRecord) (eha : Int) : Nat :=
  (clampInt 0 (t.get .preheatMax)
    ((g.duty : Int) + clampInt (-100) 100 ((t.get .frostThreshold + 15 - eha) * 5))).toNat

/-- Stage 6 of a frost step (R84, R85): the duty, then the pinned count. `rose` says that F after stage 3
is greater than before it. -/
def FrostRecord.heat (g : FrostRecord) (t : Settings) (may : Bool) (eha : Option Int) (rose : Bool) :
    FrostRecord :=
  let duty :=
    match eha with
    | some v => if may then nextDuty t g v else 0
    | none => 0
  { g with
    duty := duty
    pinned := if may && duty == t.nat .preheatMax && rose then min (g.pinned + 1) 180 else 0 }

/-! ### Carrying out a move -/

/-- A stage change (R74): FROST_STAGE, its log record, FROST_LOCKOUT on entry to LOCKOUT, and the word to
the procedure runner. -/
def stageChanged (s : State) (old new : Stage) : State :=
  if old = new then s
  else
    let s1 := writeLog (raise s .frostStage) (.frostStage old new s.frost.record.f)
    tellStage (if new = .lockout then raise s1 .frostLockout else s1) new

/-- The end of a THAW reported (R79, R87): THAW_END but for an interrupted thaw, and the THAW record. -/
def thawEnded (s : State) (e : Option ThawEnd) : State :=
  match e with
  | none => s
  | some x =>
    writeLog (if x.outcome = .interrupted then s else raise s .thawEnd) (.thaw x.outcome x.seconds)

/-- The frost record replaced. -/
def setFrost (s : State) (g : FrostRecord) : State := { s with frost := { s.frost with record := g } }

/-- A move of the stage machine carried out, but for the resolver's notice (R74, R79). DESIGN CHOICE
(assumption 29): when a THAW is left for BLIND, the THAW record stands before the FROST_STAGE record. -/
def applyFrostMove (s : State) (m : FrostMove) : State :=
  stageChanged (thawEnded (setFrost s m.record) m.thawEnd) s.frost.record.stage m.record.stage

/-- Whether a frost step hands the resolver a notice (R67 stage 7). -/
def frostShapeChanged (old new : FrostRecord) : Bool :=
  !(old.stage == new.stage && old.r == new.r && old.blindPhase == new.blindPhase)

/-- The record after stages 1 to 3 of a frost step. -/
def frostUpdated (s : State) : FrostRecord :=
  let g := s.frost.record.countGap
  { g with
    f := frostIndex s.settings g (s.frost.probes.get .eha).healthy? s.humidity.extract.ahEta
      (s.fans.get .extract).shortfall }

/-- The move of stage 4 of a frost step. -/
def frostMove (s : State) : FrostMove :=
  judgeStage s.settings (frostUpdated s) (s.frost.probes.get .eha).healthy?
    (s.frost.probes.get .oda).healthy?

/-- The record after stages 5 and 6 of a frost step. DEDUCED (assumption 37): a THAW that ends in UNBALANCE at a ramp
step has its r moved at that same step, on the F that its end leaves. -/
def frostDriven (s : State) : FrostRecord :=
  let g := (frostMove s).record.ramp s.settings ((s.frost.steps + 1) % 6 == 0)
  g.heat s.settings (mayRun s g) (s.frost.probes.get .eha).healthy?
    (decide (s.frost.record.f < (frostUpdated s).f))

/-- The frost step (R67). The new 10 s cycle of the preheater begins with it (R83). -/
def frostStep (s : State) : State :=
  let driven := frostDriven s
  let told := applyFrostMove s (frostMove s)
  let s1 :=
    { told with frost :=
        { told.frost with record := driven, heaterOn := decide (0 < driven.duty), steps := s.frost.steps + 1 } }
  if frostShapeChanged s.frost.record driven then notice s1 else s1

/-! ### The frost guard's own commands -/

/-- FROST_STEP (R67): no frost step is taken before the load ends. -/
def execFrostStep (s : State) : Host.Outcome State Fault Refusal :=
  .next (if s.isLoading then s else frostStep s)

/-- TEMP_PROBE_FAULT (R65): the third consecutive bad read of a probe that is not FAULTED
(assumption 1). -/
def execTempProbeFault (n : AirProbe) (s : State) : Host.Outcome State Fault Refusal :=
  let p := s.frost.probes.get n
  .next (if p.isFaulted = false ∧ p.reads = 2 then
      handAirProbe s n { status := .faulted p.value?, reads := 0 }
    else s)

/-- TEMP_PROBE_RECOVER (R65): the third consecutive good read of a FAULTED probe (assumption 1). -/
def execTempProbeRecover (n : AirProbe) (t : Int) (s : State) : Host.Outcome State Fault Refusal :=
  let p := s.frost.probes.get n
  .next (if p.isFaulted = true ∧ p.reads = 2 ∧ goodRead t = true then
      handAirProbe s n { status := .good t, reads := 0 }
    else s)

/-- PREHEATER_BURST_OFF (R83): the on portion of the 10 s cycle runs out. A duty of 1000 keeps the heater
on through the whole cycle (assumption 1). -/
def execPreheaterBurstOff (s : State) : Host.Outcome State Fault Refusal :=
  .next { s with frost :=
      { s.frost with heaterOn := s.frost.heaterOn && decide (1000 ≤ s.frost.record.duty) } }

/-- A move of the stage machine carried out between frost steps, with its notice (R74). -/
def takeFrostMove (s : State) (m : FrostMove) : State :=
  let s1 := applyFrostMove s m
  if frostShapeChanged s.frost.record m.record then notice s1 else s1

/-- THAW_SUCCESS (R78, R79): the thaw success count reaches 18 (assumption 1). -/
def execThawSuccess (s : State) : Host.Outcome State Fault Refusal :=
  .next
    (match (s.frost.probes.get .eha).healthy? with
     | none => s
     | some v =>
       let c := s.frost.record.countThaw s.settings v
       if s.frost.record.stage = .thaw ∧ 18 ≤ c.success then takeFrostMove s (thawSucceeds s.settings c)
       else s)

/-- THAW_TIMEOUT (R78, R79): the thaw elapsed count reaches `thaw_max` × 6 (assumption 1). -/
def execThawTimeout (s : State) : Host.Outcome State Fault Refusal :=
  .next
    (match (s.frost.probes.get .eha).healthy? with
     | none => s
     | some v =>
       let c := s.frost.record.countThaw s.settings v
       if s.frost.record.stage = .thaw ∧ ¬ 18 ≤ c.success ∧ s.settings.nat .thawMax * 6 ≤ c.elapsed then
         takeFrostMove s (thawTimesOut s.settings c)
       else s)

/-- THAW_GAP_ELAPSED (R80): the gap count reaches `thaw_gap` × 6 (assumption 1). -/
def execThawGapElapsed (s : State) : Host.Outcome State Fault Refusal :=
  .next (if gapElapsed s.settings s.frost.record = false ∧
      gapElapsed s.settings s.frost.record.countGap = true then setFrost s s.frost.record.countGap
    else s)

/-- LOCKOUT_RELEASE (R81): the warmth count reaches 360 (assumption 1). -/
def execLockoutRelease (s : State) : Host.Outcome State Fault Refusal :=
  .next (if s.frost.record.stage = .lockout ∧ 360 ≤ s.frost.record.warmth + 1 ∧
      lockoutWarm s.settings (s.frost.probes.get .oda).healthy? = true then
      takeFrostMove s s.frost.record.release.move
    else s)

/-- BLIND_PHASE_END (R88): the BLIND count reaches 0 with T_eha still not healthy (assumption 1). -/
def execBlindPhaseEnd (s : State) : Host.Outcome State Fault Refusal :=
  .next (if s.frost.record.stage = .blind ∧ s.frost.record.blindCount = 1 ∧
      (s.frost.probes.get .eha).healthy? = none then
      takeFrostMove s (blindTurn s.settings s.frost.record (s.frost.probes.get .oda).healthy?).move
    else s)

end Sys2Proof.Machine
end

