-- ==== Sys2Proof/Machine/Control.lean ====
section
/-! DEFINITION. The control step (R49): what the fan block, the frost guard and the filter monitor do once
every second. -/

namespace Sys2Proof.Machine

/-- The control step: the fan block (R49), then the frost guard's probes, bypass truths and preheater tests
(R64 to R66, R83, R86), then the filter probes (R136). DESIGN CHOICE (assumption 4): the order of the
blocks. -/
def controlStep (s : State) (inp : ControlInputs) : State :=
  filtersControl (frostControl (fansStep s inp.supplyFlow inp.extractFlow) inp) inp.supplyFilter
    inp.extractFilter

/-- CONTROL_STEP (R49). -/
def execControlStep (inp : ControlInputs) (s : State) : Host.Outcome State Fault Refusal :=
  .next (controlStep s inp)

end Sys2Proof.Machine
end

