-- ==== Sys2Proof/Config.lean ====
section
/-! DEFINITION. What the manual leaves open and the model leaves free: constants without a body, so
that no proof can rest on a value of theirs. -/

namespace Sys2Proof

/-- The value field of the SETTING log record of an accepted SET_GROUP. R182 has one SETTING record
written for a stored group, and R191 gives the record a four-byte value, but no rule says what that
value is for a whole group. DESIGN CHOICE (assumption 3): a free value, taken afresh at each such
record by the count `State.freeCount`. -/
opaque groupRecordValue : Nat → Word

end Sys2Proof
end

