-- ==== Sys2Proof/Machine/Answer.lean ====
section
/-! DEFINITION. What a block gives back when it has taken a request: the state it leaves and the result and
payload of the reply (R158, R189). -/

namespace Sys2Proof.Machine

/-- A block's answer to a request. -/
structure Answer where
  state : State
  result : ResultCode
  payload : List Byte
  deriving DecidableEq, Repr

/-- A request answered OK with a payload. -/
def Answer.ok (s : State) (payload : List Byte) : Answer := { state := s, result := .ok, payload := payload }

/-- A request answered with a code that carries no payload (R189). -/
def Answer.plain (s : State) (r : ResultCode) : Answer := { state := s, result := r, payload := [] }

end Sys2Proof.Machine
end

