-- ==== Sys2Proof/Machine/Bus.lean ====
section
/-! DEFINITION. The sensor bus controller (chapter 5): the scanner, pass-through, the grant of the bus,
and the transaction. -/

namespace Sys2Proof.Machine

/-! ### Frames (R192) -/

/-- The reply start byte (R192). -/
def busReplyStart : Byte := 0x69#8

/-- The address, command and register of a request, over which its CRC is computed (R94, R192). -/
def BusRequest.body (r : BusRequest) : List Byte :=
  byte1 r.address ++ byte1 (busCommandCode r.command) ++ byte1 r.register

/-- The five bytes of a request (R192). -/
def BusRequest.bytes (r : BusRequest) : List Byte := 0x96#8 :: r.body ++ [crc8 r.body]

/-- The outcome of eight reply bytes against the address sent (R97). -/
def judgeReply (address : Nat) (reply : List Byte) : BusOutcome :=
  match reply with
  | [_, a, st, d0, d1, d2, d3, crc] =>
    if crc8 [a, st, d0, d1, d2, d3] = crc then
      if a.toNat = address then .ok ⟨a, st, d0, d1, d2, d3⟩ else .wrongAddress ⟨a, st, d0, d1, d2, d3⟩
    else .corrupt
  | _ => .corrupt

/-! ### Transaction starts -/

/-- The bus controller replaced. -/
def setBus (s : State) (b : Bus) : State := { s with bus := b }

/-- The address key of a sensor (R93). -/
def addressKey : Sensor → Key
  | .zone z => .zone z .address
  | .extract => .extractAddress

/-- The request of a scanner transaction (R100). -/
def scanRequest (t : Settings) (n : Sensor) : BusRequest :=
  { address := t.nat (addressKey n), command := .sample, register := 0 }

/-- A transaction begins (R95): the record is filled and the phase is SENDING. -/
def Transaction.begin (o : Originator) (r : BusRequest) : Transaction :=
  { originator := o, request := r, phase := .sending, reply := [] }

/-- A scanner transaction starts (R100). -/
def Bus.startScan (b : Bus) (t : Settings) (n : Sensor) (rest : List Sensor) : Bus :=
  { b with scanQueue := rest, transaction := some (Transaction.begin (.scanner n) (scanRequest t n)) }

/-- A pass-through starts (R105): its link leaves the queue and goes ACTIVE, and the credit becomes 0. -/
def Bus.startPass (b : Bus) (l : Link) (rest : List Link) : Bus :=
  match b.pass.get l with
  | .queued req =>
    { b with
      passQueue := rest
      pass := b.pass.set l (.active req false)
      transaction := some (Transaction.begin (.passThrough l) req)
      credit := 0 }
  | _ => { b with passQueue := rest }

/-- Whether a scanner entry is dropped when it is selected: its zone is UNUSED (R100). -/
def sensorUnused (z : PerZone ZoneRecord) : Sensor → Bool
  | .zone n => (z.get n).zoneType == .unused
  | .extract => false

/-- The grant decision over the scanner queue (R100, R107): a waiting pass-through is selected when the
scanner queue is empty or the credit has reached `scan_quota`; otherwise the oldest scanner entry, and an
entry for an UNUSED zone is dropped and the decision taken again. -/
def Bus.select (b : Bus) (t : Settings) (z : PerZone ZoneRecord) : List Sensor → Bus
  | [] =>
    match b.passQueue with
    | [] => { b with scanQueue := [] }
    | l :: rest => { b with scanQueue := [] }.startPass l rest
  | n :: ns =>
    match b.passQueue with
    | [] => if sensorUnused z n then b.select t z ns else b.startScan t n ns
    | l :: rest =>
      if t.nat .scanQuota ≤ b.credit then { b with scanQueue := n :: ns }.startPass l rest
      else if sensorUnused z n then b.select t z ns
      else b.startScan t n ns

/-- The grant decision (R107): none while a transaction is in flight. -/
def Bus.grant (b : Bus) (t : Settings) (z : PerZone ZoneRecord) : Bus :=
  match b.transaction with
  | some _ => b
  | none => b.select t z b.scanQueue

/-- The grant decision on a state as it stands. -/
def grant (s : State) : State := setBus s (s.bus.grant s.settings s.humidity.zones)

/-! ### Scan rounds -/

/-- An entry for a sensor joins the scanner queue unless one is waiting (R99). -/
def joinScan (q : List Sensor) (n : Sensor) : List Sensor := if n ∈ q then q else q ++ [n]

/-- The sensors a scan round samples (R99). -/
def roundSensors (z : PerZone ZoneRecord) : List Sensor :=
  [Sensor.zone .z1, .zone .z2, .zone .z3, .zone .z4, .extract].filter fun n => !sensorUnused z n

/-- The scan round (R98, R99): the entries join, the round count returns to 0, and when an entry was added
with no transaction in flight a grant decision is taken. -/
def scanRound (s : State) : State :=
  let joined := (roundSensors s.humidity.zones).foldl joinScan s.bus.scanQueue
  let s1 := setBus s { s.bus with scanQueue := joined, roundCount := 0 }
  if joined.length = s.bus.scanQueue.length then s1 else grant s1

/-! ### The end of a transaction -/

/-- The credit after a scanner transaction (R106). -/
def Bus.earn (b : Bus) (quota : Nat) : Bus := { b with credit := min (b.credit + 1) quota }

/-- A pass-through's outcome stored, or dropped when it is marked for discard (R105). -/
def endPass (s : State) (l : Link) (o : BusOutcome) : State :=
  match s.bus.pass.get l with
  | .active req false =>
    raiseTo (setBus s { s.bus with pass := s.bus.pass.set l (.done req o) }) .probeReady (some l)
  | .active _ true => setBus s { s.bus with pass := s.bus.pass.set l .idle }
  | _ => s

/-- The transaction in flight ends with an outcome (R95, R97): the record is cleared, the outcome is handed
to its consumer (R101, R105), and a grant decision follows (R107). With none in flight nothing ends. -/
def endTransaction (s : State) (o : BusOutcome) : State :=
  match s.bus.transaction with
  | none => s
  | some x =>
    let cleared := { s.bus with transaction := none }
    match x.originator with
    | .scanner n => grant (scannerOutcome (setBus s (cleared.earn (s.settings.nat .scanQuota))) n o)
    | .passThrough l => grant (endPass (setBus s cleared) l o)

/-- The transaction in flight, when its phase is AWAITING. -/
def Bus.awaiting? (b : Bus) : Option Transaction :=
  match b.transaction with
  | some x => if x.phase = .awaiting then some x else none
  | none => none

/-- The reply bytes of the transaction in flight replaced. -/
def setReply (s : State) (x : Transaction) (reply : List Byte) : State :=
  setBus s { s.bus with transaction := some { x with reply := reply } }

/-- A byte taken after the start byte (R96): the eighth ends the transaction with the outcome of R97. -/
def takeReplyByte (s : State) (x : Transaction) (b : Byte) : State :=
  let reply := x.reply ++ [b]
  if 8 ≤ reply.length then endTransaction s (judgeReply x.request.address reply) else setReply s x reply

/-! ### The commands of the sensor bus -/

/-- SCAN_ROUND (R98): no scan round is taken before the load ends (R109). -/
def execScanRound (s : State) : Host.Outcome State Fault Refusal :=
  .next (if s.isLoading then s else scanRound s)

/-- REQUEST_SENT (R95): the last stop bit of a request is sent, and the reply window opens. With no
transaction in SENDING nothing was being sent. -/
def execRequestSent (s : State) : Host.Outcome State Fault Refusal :=
  .next
    (match s.bus.transaction with
     | some x =>
       if x.phase = .sending then setBus s { s.bus with transaction := some { x with phase := .awaiting } }
       else s
     | none => s)

/-- BUS_REPLY_BYTE (R96): a byte arrives on the line. Outside AWAITING the part disregards it (R92, R96). -/
def execBusReplyByte (b : Byte) (s : State) : Host.Outcome State Fault Refusal :=
  .next
    (match s.bus.awaiting? with
     | none => s
     | some x =>
       match x.reply with
       | [] => if b = busReplyStart then setReply s x [b] else s
       | _ :: _ => takeReplyByte s x b)

/-- BUS_REPLY (R97): the eighth reply byte is taken within the window. A transaction with another number of
bytes taken is not completed by this byte (assumption 1). -/
def execBusReply (b : Byte) (s : State) : Host.Outcome State Fault Refusal :=
  .next
    (match s.bus.awaiting? with
     | none => s
     | some x =>
       if x.reply.length = 7 then endTransaction s (judgeReply x.request.address (x.reply ++ [b])) else s)

/-- BUS_FRAMING_ERROR (R96, R97): after the start byte it ends the transaction CORRUPT; before it, it is
disregarded. -/
def execBusFramingError (s : State) : Host.Outcome State Fault Refusal :=
  .next
    (match s.bus.awaiting? with
     | none => s
     | some x => if x.reply = [] then s else endTransaction s .corrupt)

/-- BUS_REPLY_TIMEOUT (R97): the window expires with fewer than eight bytes taken. -/
def execBusReplyTimeout (s : State) : Host.Outcome State Fault Refusal :=
  .next
    (match s.bus.awaiting? with
     | none => s
     | some _ => endTransaction s .timeout)

/-! ### Pass-through requests and link reset -/

/-- A bus command code (R192). -/
def busCommandOf (b : Byte) : Option BusCommand :=
  match b.toNat with
  | 1 => some .sample
  | 2 => some .readReg
  | _ => none

/-- The request a PROBE's values give, when they pass the values check (R103). -/
def probeRequest (address command register : Byte) : Option BusRequest :=
  if 1 ≤ address.toNat ∧ address.toNat ≤ 14 then
    match busCommandOf command with
    | some .sample => some { address := address.toNat, command := .sample, register := 0 }
    | some .readReg =>
      if register.toNat ≤ 31 then
        some { address := address.toNat, command := .readReg, register := register.toNat }
      else none
    | none => none
  else none

/-- An accepted PROBE (R103): the request is stored and the link joins the queue, and with no transaction in
flight a grant decision is taken. -/
def queuePass (s : State) (l : Link) (req : BusRequest) : State :=
  grant (setBus s
    { s.bus with passQueue := s.bus.passQueue ++ [l], pass := s.bus.pass.set l (.queued req) })

/-- The sensor bus controller's share of a link reset (R108). -/
def Bus.resetLink (b : Bus) (l : Link) : Bus :=
  match b.pass.get l with
  | .idle => b
  | .queued _ => { b with passQueue := b.passQueue.filter fun m => !(m == l), pass := b.pass.set l .idle }
  | .active req _ => { b with pass := b.pass.set l (.active req true) }
  | .done _ _ => { b with pass := b.pass.set l .idle }

end Sys2Proof.Machine
end

