-- ==== Sys2Proof/Machine/Logs.lean ====
section
/-! DEFINITION. The trend and event log (chapter 9): the layout of a record (R191), the hourly accumulators
(R175), and the requests the log takes (R176 to R178). Placing a record stands in Ops.lean. -/

namespace Sys2Proof.Machine

/-! ### The layout of a record -/

/-- The kind code of a record, in the order of R174. -/
def logKindCode : LogBody → Nat
  | .powerUp _ => 0 | .hourly _ _ _ _ _ _ => 1 | .frostStage _ _ _ => 2 | .thaw _ _ => 3
  | .filter _ _ _ _ => 4 | .procedure _ _ _ => 5 | .fan _ _ => 6 | .zone _ _ _ _ => 7
  | .probe _ _ => 8 | .setting _ _ _ => 9 | .time _ _ => 10

/-- The outcome code of a POWER_UP record (R191). -/
def loadOutcomeCode : LoadOutcome → Nat
  | .image => 0 | .defaulted => 1

/-- The fields of a record, before the padding (R191). An absent field is sent as R187 gives. -/
def LogBody.fields : LogBody → List Byte
  | .powerUp o => byte1? (o.map loadOutcomeCode)
  | .hourly w qs qe oda f minutes =>
    be16 w ++ be16 qs ++ be16 qe ++ be16s? (oda.map Prod.fst) ++ be16s? (oda.map Prod.snd) ++ be16 f
      ++ byte1 minutes
  | .frostStage a b f => byte1 (stageCode a) ++ byte1 (stageCode b) ++ be16 f
  | .thaw o n => byte1 (thawOutcomeCode o) ++ be16 n
  | .filter f st life k =>
    byte1 (sideCode f) ++ byte1 (filterStateCode st) ++ byte1 life ++ be24 k.volume ++ be24 k.running
      ++ be24 k.age ++ be16 k.changes
  | .procedure o sel l => byte1 (outcomeCode o) ++ byte1 (selectionCode sel) ++ byte1 (linkCode l)
  | .fan f st => byte1 (sideCode f) ++ byte1 (fanStateCode st)
  | .zone z st ah c => byte1 (zoneNumber z) ++ byte1 (zoneStateCode st) ++ be16? ah ++ byte1 (zoneCauseCode c)
  | .probe n r => byte1 (probeNameCode n) ++ flag r
  | .setting c v l => [c] ++ wordBytes v ++ byte1? (l.map linkCode)
  | .time old new => wordBytes old.minutes ++ flag old.unsynced ++ wordBytes new

/-- The 14 bytes of a record's fields, padded with 0x00 (R191). -/
def padFields (bs : List Byte) : List Byte := bs ++ List.replicate (14 - bs.length) 0x00#8

/-- The 20 bytes of a record (R191). -/
def LogRecord.bytes (r : LogRecord) : List Byte :=
  byte1 (logKindCode r.body) ++ flag r.stamp.unsynced ++ wordBytes r.stamp.minutes ++ padFields r.body.fields

/-- The bytes of records one after the other. -/
def recordsBytes (rs : List LogRecord) : List Byte := rs.flatMap LogRecord.bytes

/-! ### The hourly trend -/

/-- The minimum and maximum of T_oda with one more healthy reading (R175). -/
def widen (range : Option (Int × Int)) (v : Int) : Int × Int :=
  match range with
  | none => (v, v)
  | some (lo, hi) => (min lo v, max hi v)

/-- The accumulators with one more tick (R175). -/
def Hourly.add (h : Hourly) (w qs qe : Nat) (oda : Option Int) (f : Nat) (normal : Bool) : Hourly where
  ticks := h.ticks + 1
  sumW := h.sumW + w
  sumSupply := h.sumSupply + qs
  sumExtract := h.sumExtract + qe
  oda :=
    match oda with
    | none => h.oda
    | some v => some (widen h.oda v)
  maxF := max h.maxF f
  notNormal := h.notNormal + if normal then 0 else 1

/-- The HOURLY record of full accumulators (R175). -/
def Hourly.body (h : Hourly) : LogBody :=
  .hourly (h.sumW / 60) (h.sumSupply / 60) (h.sumExtract / 60) h.oda h.maxF h.notNormal

/-- The accumulators after a minute tick on the values as they stand (R175). -/
def hourlyNext (s : State) : Hourly :=
  s.log.hourly.add s.op.w (s.fans.get .supply).flow (s.fans.get .extract).flow
    (match (s.frost.probes.get .oda).status with
     | .good v => some v
     | _ => none)
    s.frost.record.f (s.frost.record.stage == .normal)

/-- The accumulators replaced. -/
def setHourly (s : State) (h : Hourly) : State := { s with log := { s.log with hourly := h } }

/-- The log's minute tick (R175): none before the load ends; at the 60th the HOURLY record is written and
the accumulators return to 0 and absent. -/
def logMinute (s : State) : State :=
  if s.isLoading then s
  else
    let h := hourlyNext s
    if 60 ≤ h.ticks then writeLog (setHourly s Hourly.reset) h.body else setHourly s h

/-- HOURLY_RECORD (R175): the tick that brings the tick count to 60 (assumption 1). -/
def execHourlyRecord (s : State) : Host.Outcome State Fault Refusal :=
  .next (if s.isLoading = false ∧ s.log.hourly.ticks = 59 then logMinute s else s)

/-! ### The requests -/

/-- The log replaced. -/
def setLog (s : State) (g : Log) : State := { s with log := g }

/-- A count clamped to 1–8 (R176, R178). -/
def readCount (n : Byte) : Nat := clampNat 1 8 n.toNat

/-- The records from the cursor onward, up to a number of them (R176). The oldest record of the ring has
the sequence number write minus the ring's length (R173). -/
def Log.fromCursor (g : Log) (n : Nat) : List LogRecord :=
  (g.ring.drop (g.cursor - (g.write - g.ring.length))).take (min n g.unread)

/-- LOG_READ (R176). -/
def answerLogRead (s : State) (n : Byte) : Answer :=
  let records := s.log.fromCursor (readCount n)
  let read := { s.log with cursor := s.log.cursor + records.length, overrun := 0 }
  .ok (setLog s read)
    (be16 read.unread ++ be16 s.log.overrun ++ byte1 records.length ++ recordsBytes records)

/-- How many records a LOG_RELEASE releases (R177). -/
def Log.releasable (g : Log) (n : Byte) : Nat := min n.toNat (g.cursor - g.mark)

/-- LOG_RELEASE (R177, R179). -/
def answerLogRelease (s : State) (n : Byte) : Answer :=
  let count := s.log.releasable n
  let released := { s.log with mark := s.log.mark + count }.rearm (s.settings.nat .logAlmostFull)
  .ok (setLog s released) (byte1 count ++ be16 released.unreleased)

/-- The cursor set back to the mark (R177). -/
def Log.rewind (g : Log) : Log := { g with cursor := g.mark }

/-- LOG_REWIND (R177). -/
def answerLogRewind (s : State) : Answer :=
  .ok (setLog s s.log.rewind) (be16 s.log.rewind.unread)

/-- Whether a record is an HOURLY record. -/
def LogRecord.isHourly (r : LogRecord) : Bool :=
  match r.body with
  | .hourly _ _ _ _ _ _ => true
  | _ => false

/-- The newest records of the ring that are not HOURLY, newest first (R178). -/
def Log.recent (g : Log) (n : Nat) : List LogRecord :=
  ((g.ring.filter fun r => !r.isHourly).reverse).take n

/-- RECENT (R178). -/
def answerRecent (s : State) (n : Byte) : Answer :=
  let records := s.log.recent (readCount n)
  .ok s (byte1 records.length ++ recordsBytes records)

end Sys2Proof.Machine
end

