-- ==== Sys2Proof/Machine/Procedure.lean ====
section
/-! DEFINITION. The procedure runner (chapter 7, sections 7.6 and 7.7): the start, the procedure second
with its flow check and samples, and the commit. How a procedure ends stands in Runner.lean. -/

namespace Sys2Proof.Machine

/-! ### The start -/

/-- A frost stage in which a procedure may not run (R146, R151). -/
def Stage.bars : Stage → Bool
  | .unbalance | .thaw | .lockout | .blind => true
  | .normal | .watch | .preheat => false

/-- Whether a side's flow probe or filter probe is faulted (R146 check 5, R147). -/
def sideProbeFaulted (s : State) (f : Side) : Bool :=
  (s.fans.get f).probeFault || (s.filters.records.get f).isFaulted

/-- Whether a selected side has a faulted probe. -/
def anyProbeFaulted (s : State) (sel : Selection) : Bool :=
  (sel.has .supply && sideProbeFaulted s .supply) || (sel.has .extract && sideProbeFaulted s .extract)

/-- The checks of a START after its selection (R146). -/
def startCheck (s : State) (sel : Selection) : ResultCode :=
  if s.runner.procedure.isRunning then .busy
  else if s.frost.record.stage.bars then .notNow
  else if (s.fans.get .supply).state.faulted || (s.fans.get .extract).state.faulted then .notNow
  else if anyProbeFaulted s sel then .notNow
  else .ok

/-- The runner's phase replaced. -/
def setProcedure (s : State) (p : Procedure) : State := { s with runner := { s.runner with procedure := p } }

/-- A START that passes every check (R146). -/
def startProcedure (s : State) (l : Link) (sel : Selection) : State :=
  notice (setProcedure s (.settling l sel 0))

/-! ### The check of a side -/

/-- Whether a measured flow lies in the band about `q_ref` (R147). -/
def flowInBand (qRef q : Nat) : Bool := decide (qRef - qRef / 10 ≤ q) && decide (q ≤ qRef + qRef / 10)

/-- Whether a side's flow lies in the band, on a state as it stands. -/
def sideFlowOk (s : State) (f : Side) : Bool := flowInBand (s.settings.nat .qRef) (s.fans.get f).flow

/-- The flow check over the selected sides (R147): the outcome that ends the procedure, if one does. -/
def flowCheckFails (s : State) (sel : Selection) : Option ProcedureOutcome :=
  if (sel.has .supply && !sideFlowOk s .supply) || (sel.has .extract && !sideFlowOk s .extract) then
    some .failedFlow
  else if anyProbeFaulted s sel then some .failedProbe
  else none

/-- The check of one side before its sample (R148). -/
def sampleFails (s : State) (f : Side) : Option ProcedureOutcome :=
  if !sideFlowOk s f then some .failedFlow
  else if sideProbeFaulted s f then some .failedProbe
  else none

/-! ### Samples and the commit -/

/-- A side's normalised drop as a sample (R148). -/
def sampleDrop (s : State) (f : Side) : Nat :=
  normalisedDrop ((s.filters.records.get f).lastGood.getD 0) (s.settings.nat .qRef) (s.fans.get f).flow

/-- One selected side's sample: the check, then the sample at the end of its list, or the outcome that
ends the procedure (R148). A side that is not selected is passed over. -/
def sampleSide (s : State) (sel : Selection) (f : Side) (taken : PerSide (List Nat)) :
    Except ProcedureOutcome (PerSide (List Nat)) :=
  if sel.has f then
    match sampleFails s f with
    | some o => .error o
    | none => .ok (taken.set f (taken.get f ++ [sampleDrop s f]))
  else .ok taken

/-- The samples of one procedure second, SUPPLY before EXTRACT (R148). -/
def sampleBoth (s : State) (sel : Selection) (taken : PerSide (List Nat)) :
    Except ProcedureOutcome (PerSide (List Nat)) :=
  match sampleSide s sel .supply taken with
  | .error o => .error o
  | .ok t => sampleSide s sel .extract t

/-- The clean reference of six samples (R149). -/
def cleanReference (samples : List Nat) : Nat := max (samples.sum / 6) 10

/-- The commit of one side, when it is selected (R150). -/
def commitSide (s : State) (sel : Selection) (f : Side) (taken : PerSide (List Nat)) : State :=
  if sel.has f then commitFilter s f (cleanReference (taken.get f)) else s

/-- The new clean reference of a side, when it is selected (R153). -/
def newReference (sel : Selection) (f : Side) (taken : PerSide (List Nat)) : Option Nat :=
  if sel.has f then some (cleanReference (taken.get f)) else none

/-- COMMIT (R150): the selected filters, SUPPLY before EXTRACT, the handover to the store, and the end with
outcome DONE. -/
def commit (s : State) (sel : Selection) (taken : PerSide (List Nat)) : State :=
  finishProcedure (handOverFields (commitSide (commitSide s sel .supply taken) sel .extract taken)) .done
    { supply := newReference sel .supply taken, extract := newReference sel .extract taken }

/-! ### The procedure second -/

/-- The flow check at phase second 90 (R147). -/
def takeFlowCheck (s : State) (owner : Link) (sel : Selection) : State :=
  match flowCheckFails s sel with
  | some o => finishProcedure s o ⟨none, none⟩
  | none => notice (setProcedure s (.measuring owner sel 0 ⟨[], []⟩))

/-- The samples of a phase second that is a multiple of 10, and the commit at phase second 60 (R148). -/
def takeSample (s : State) (owner : Link) (sel : Selection) (seconds : Nat) (taken : PerSide (List Nat)) :
    State :=
  match sampleBoth s sel taken with
  | .error o => finishProcedure s o ⟨none, none⟩
  | .ok t =>
    if 60 ≤ seconds then commit s sel t else setProcedure s (.measuring owner sel seconds t)

/-- A procedure second (R145): with the runner IDLE none is taken. -/
def procedureSecond (s : State) : State :=
  match s.runner.procedure with
  | .idle => s
  | .settling owner sel n =>
    if 90 ≤ n + 1 then takeFlowCheck s owner sel else setProcedure s (.settling owner sel (n + 1))
  | .measuring owner sel n taken =>
    if (n + 1) % 10 = 0 then takeSample s owner sel (n + 1) taken
    else setProcedure s (.measuring owner sel (n + 1) taken)

/-- PROCEDURE_SECOND (R145). -/
def execProcedureSecond (s : State) : Host.Outcome State Fault Refusal := .next (procedureSecond s)

/-- FLOW_CHECK (R147): the procedure second at which the phase seconds of SETTLING reach 90
(assumption 1). -/
def execFlowCheck (s : State) : Host.Outcome State Fault Refusal :=
  .next
    (match s.runner.procedure with
     | .settling owner sel 89 => takeFlowCheck s owner sel
     | _ => s)

/-- PROCEDURE_SAMPLE (R148): the procedure second at which the phase seconds of MEASURING come to a
multiple of 10 (assumption 1). -/
def execProcedureSample (s : State) : Host.Outcome State Fault Refusal :=
  .next
    (match s.runner.procedure with
     | .measuring owner sel n taken =>
       if (n + 1) % 10 = 0 then takeSample s owner sel (n + 1) taken else s
     | _ => s)

end Sys2Proof.Machine
end

