-- ==== Sys2Proof/Machine/Store.lean ====
section
/-! DEFINITION. The settings store and start-up (chapter 10): the requests GET, SET and SET_GROUP, the
settings image (R193), write-behind (R184, R185), power-on and the end of the load (R183, R186). -/

namespace Sys2Proof.Machine

/-! ### GET -/

/-- The fourteen bytes of the frost threshold group (R189). -/
def thresholdBytes (t : Thresholds) : List Byte := t.toList.flatMap be16

/-- The code of the frost threshold group (R189). -/
def thresholdGroup : Byte := 0xF0#8

/-- The code of the event map group (R189). -/
def eventMapGroup : Byte := 0xF1#8

/-- The payload of a GET, when the code names a key or a group (R181, R189). -/
def getPayload (t : Settings) (code : Byte) : Option (List Byte) :=
  match keyOfCode code.toNat with
  | some k => some (wordBytes (keyValueWord (t.get k)))
  | none =>
    match thresholdOfCode t.thresholds code.toNat with
    | some v => some (be32 v)
    | none =>
      if code = thresholdGroup then some (thresholdBytes t.thresholds)
      else if code = eventMapGroup then some (mapBytes t.eventMap)
      else none

/-- GET (R181). -/
def answerGet (s : State) (code : Byte) : Answer :=
  match getPayload s.settings code with
  | some p => .ok s p
  | none => .plain s .bad

/-! ### SET -/

/-- Whether a value is in the list of an enumerated key (R182 check 2); other keys are clamped. -/
def valueListed (k : Key) (v : Int) : Bool :=
  !enumeratedKey k || (decide ((keyRange k).1 ≤ v) && decide (v ≤ (keyRange k).2))

/-- The settings table replaced, and the image marked changed (R184). -/
def storeTable (s : State) (t : Settings) : State :=
  { s with store := { s.store.markChanged with settings := t } }

/-- The table a stored value leaves: a type change stores the zone's boost level with it (R114). -/
def tableAfter (t : Settings) (k : Key) (v : Int) : Settings :=
  match k with
  | .zone z .zoneType =>
    if zoneTypeOf v = .unused then t.put k v
    else (t.put k v).put (.zone z .boostLevel) (defaultBoostLevel (zoneTypeOf v))
  | _ => t.put k v

/-- The SETTING records of a stored value (R182): a type change writes one for the boost level too, with no
link (R114, R174). -/
def settingRecords (s : State) (k : Key) (v : Int) (l : Link) : State :=
  let s1 := writeLog s (.setting (BitVec.ofNat 8 (keyCode k)) (keyValueWord v) (some l))
  match k with
  | .zone z .zoneType =>
    if zoneTypeOf v = .unused then s1
    else
      writeLog s1
        (.setting (BitVec.ofNat 8 (keyCode (.zone z .boostLevel)))
          (keyValueWord (defaultBoostLevel (zoneTypeOf v))) none)
  | _ => s1

/-- The log told of a stored `log_almost_full` (R179). -/
def tellLog (s : State) (k : Key) : State :=
  match k with
  | .logAlmostFull => setLog s (s.log.rearm (s.settings.nat .logAlmostFull))
  | _ => s

/-- The sensor bus told of a stored `scan_quota` (R106), and the humidity monitor of a stored zone type
(R123). -/
def tellBlocks (s : State) (k : Key) (v : Int) : State :=
  match k with
  | .scanQuota => setBus s { s.bus with credit := min s.bus.credit v.toNat }
  | .zone z .zoneType => applyZoneMove s z (zoneRetyped (s.humidity.zones.get z) (zoneTypeOf v))
  | _ => s

/-- A value that differs from the one held is stored (R182): the records, the notice, and the blocks that
are told. -/
def storeKey (s : State) (k : Key) (v : Int) (l : Link) : State :=
  tellBlocks (notice (settingRecords (tellLog (storeTable s (tableAfter s.settings k v)) k) k v l)) k v

/-- A SET that passes every check (R182): the reply carries the stored value, and CLAMPED when it differs
from the value sent. -/
def acceptSet (s : State) (l : Link) (k : Key) (v : Int) : Answer :=
  let stored := storedValue s.settings k v
  .ok (if stored = s.settings.get k then s else storeKey s k stored l)
    (wordBytes (keyValueWord stored) ++ flag (decide (stored ≠ v)))

/-- SET (R182), its checks in order. -/
def answerSet (s : State) (l : Link) (code : Byte) (value : Word) : Answer :=
  match keyOfCode code.toNat with
  | none => .plain s .bad
  | some k =>
    if valueListed k (keyValueOf k value) = false then .plain s .bad
    else if occupantKey k = false ∧ l ≠ .service then .plain s .denied
    else if procedureKey k = true ∧ s.runner.procedure.isRunning = true then .plain s .busy
    else acceptSet s l k (keyValueOf k value)

/-! ### SET_GROUP -/

/-- The SETTING record of an accepted group and the resolver's notice (R182). The value of the record is a
free value (assumption 3). DESIGN CHOICE (assumption 38): its key code byte carries the code of the group. -/
def groupStored (s : State) (code : Byte) (l : Link) : State :=
  notice (writeLog { s with freeCount := s.freeCount + 1 } (.setting code (groupRecordValue s.freeCount) (some l)))

/-- SET_GROUP of the frost thresholds (R72, R182). DESIGN CHOICE (assumption 35): the group is stored before its
SETTING record is written. -/
def answerSetThresholds (s : State) (l : Link) (v : Vector Half 7) : Answer :=
  if (thresholdsOf v).ordered then
    .ok (groupStored (storeTable s { s.settings with thresholds := thresholdsOf v }) thresholdGroup l) []
  else .plain s .bad

/-- What a pending set keeps under a new event map (R165): the kinds the map gives the link and the kinds
whose addressed mark is set. An emptied set releases the attention line. -/
def LinkRecord.keep (r : LinkRecord) (given : KindSet) : LinkRecord :=
  { r with
    pending := r.pending &&& (given ||| r.addressed)
    addressed := r.addressed &&& r.pending
    attention := r.pending &&& (given ||| r.addressed) != 0#14 }

/-- Every link's pending set under the event map in force (R165). -/
def prunePending (s : State) : State :=
  { s with links := s.links.mapWith fun l r => r.keep (s.settings.eventMap.get l) }

/-- SET_GROUP of the event map (R165, R182). DESIGN CHOICE (assumption 35): the map is stored, and the pending sets
brought under it, before the SETTING record is written, so a LOG_ALMOST_FULL that the record raises goes by the new
map. -/
def answerSetEventMap (s : State) (l : Link) (v : Vector Byte 14) : Answer :=
  if mapAllowed (eventMapOf v) then
    .ok (groupStored (prunePending (storeTable s { s.settings with eventMap := eventMapOf v })) eventMapGroup l)
      []
  else .plain s .bad

/-! ### The settings image (R193) -/

/-- The version of the part's image. -/
def imageVersion : Byte := 0x01#8

/-- A filter's sixteen bytes of the image. -/
def persistedBytes (p : Persisted) : List Byte :=
  be16? p.clean ++ be32 p.volume ++ be32 p.running ++ be32 p.age ++ be16 p.changes

/-- The bytes of the image before its CRC. -/
def imageBody (t : Settings) (f : PerSide Persisted) : List Byte :=
  imageVersion :: allKeys.flatMap (fun k => wordBytes (keyValueWord (t.get k)))
    ++ thresholdBytes t.thresholds ++ mapBytes t.eventMap
    ++ persistedBytes f.supply ++ persistedBytes f.extract

/-- The whole image, closed by its CRC-16. -/
def imageBytes (t : Settings) (f : PerSide Persisted) : List Byte :=
  imageBody t f ++ halfBytes (crc16 (imageBody t f))

/-- The byte of an image at an offset. -/
def byteAt (bs : List Byte) (i : Nat) : Byte := bs.getD i 0x00#8

/-- The two-byte field at an offset. -/
def halfAt (bs : List Byte) (i : Nat) : Half := joinHalf (byteAt bs i) (byteAt bs (i + 1))

/-- The four-byte field at an offset. -/
def wordAt (bs : List Byte) (i : Nat) : Word :=
  joinWord (byteAt bs i) (byteAt bs (i + 1)) (byteAt bs (i + 2)) (byteAt bs (i + 3))

/-- Whether an image is good (R183): every byte acknowledged, the part's own version, a matching CRC. -/
def imageGood (bs : List Byte) : Bool :=
  bs.length == 315 && byteAt bs 0 == imageVersion && crc16 (bs.take 313) == halfAt bs 313

/-- The key values of an image, as they are before any clamping. -/
def imageValues (bs : List Byte) : Vector Int 63 :=
  Vector.ofFn fun i =>
    match allKeys[i.val]? with
    | some k => keyValueOf k (wordAt bs (1 + 4 * i.val))
    | none => 0

/-- The thresholds of an image (R183): each is installed, clamped to its range (R72). The table of R182 relates
none of them, so none gives way to another (assumption 18). -/
def imageThresholds (bs : List Byte) : Thresholds :=
  (thresholdsOf (Vector.ofFn fun i => halfAt bs (253 + 2 * i.val))).clamped

/-- The event map of an image, installed as it stands (R165, R183; assumption 18). -/
def imageEventMap (bs : List Byte) : PerLink KindSet :=
  eventMapOf (Vector.ofFn fun i => byteAt bs (267 + i.val))

/-- A good image's table (R183): each value clamped to its range, then against the related keys. -/
def imageSettings (bs : List Byte) : Settings :=
  relateAll (rangeAll
    { values := imageValues bs, thresholds := imageThresholds bs, eventMap := imageEventMap bs })

/-- A filter's persisted fields at an offset of an image, within the ranges of R134 (assumption 18). -/
def imagePersisted (bs : List Byte) (i : Nat) : Persisted where
  clean := if halfAt bs i = 0xFFFF#16 then none else some (clampNat 10 5000 (halfAt bs i).toNat)
  volume := min (wordAt bs (i + 2)).toNat countLimit
  running := min (wordAt bs (i + 6)).toNat countLimit
  age := min (wordAt bs (i + 10)).toNat countLimit
  changes := (halfAt bs (i + 14)).toNat

/-- What a load installs: the table, the persisted fields, and how it ended. -/
structure Loaded where
  settings : Settings
  persisted : PerSide Persisted
  outcome : LoadOutcome
  deriving DecidableEq, Repr

/-- What a load installs from what the read gave (R183). -/
def loadedFrom (r : ImageRead) : Loaded :=
  match r with
  | .bytes bs =>
    if imageGood bs then
      { settings := imageSettings bs
        persisted := { supply := imagePersisted bs 281, extract := imagePersisted bs 297 }
        outcome := .image }
    else { settings := defaultSettings, persisted := ⟨Persisted.reset, Persisted.reset⟩, outcome := .defaulted }
  | .notAcknowledged =>
    { settings := defaultSettings, persisted := ⟨Persisted.reset, Persisted.reset⟩, outcome := .defaulted }

/-! ### The end of the load -/

/-- The store state a load leaves (R183). -/
def loadedState : LoadOutcome → StoreState
  | .image => .ok
  | .defaulted => .defaulted

/-- The POWER_UP record given its outcome (R180). -/
def LogRecord.fillOutcome (o : LoadOutcome) (r : LogRecord) : LogRecord :=
  match r.body with
  | .powerUp none => { r with body := .powerUp (some o) }
  | _ => r

/-- Step 1 of the start-up order (R186): the table is installed, the store state leaves LOADING, the pending
sets are brought under the map (R165), a defaulted load raises STORE_STATE and marks the image changed
(R183), and the POWER_UP record receives its outcome. -/
def installTable (s : State) (x : Loaded) : State :=
  let installed : Store :=
    { s.store with
      state := loadedState x.outcome, loadedAs := x.outcome, settings := x.settings, persisted := x.persisted }
  let s1 := prunePending { s with store := installed }
  let s2 :=
    match x.outcome with
    | .image => s1
    | .defaulted => raise { s1 with store := s1.store.markChanged } .storeState
  setLog s2 { s2.log with ring := s2.log.ring.map (LogRecord.fillOutcome x.outcome) }

/-- Step 2 (R186): the filter records are filled and their states decided (R155); the hourly accumulators and
the filter monitor's minute ticks start. -/
def fillFilters (s : State) (x : Loaded) : State :=
  let m := s.filters.records
  let records : PerSide FilterRecord :=
    { supply := m.supply.fill x.settings x.persisted.supply s.fans.supply.shortfall
      extract := m.extract.fill x.settings x.persisted.extract s.fans.extract.shortfall }
  setHourly { s with filters := { s.filters with records := records, hourTicks := 0 } } Hourly.reset

/-- Step 3 (R186): the zones are set up from their types (R133). -/
def setUpZones (s : State) : State :=
  let z := fun n => ZoneRecord.ofType (s.settings.zoneType n)
  { s with humidity := { s.humidity with zones := ⟨z .z1, z .z2, z .z3, z .z4⟩ } }

/-- Step 5 (R186): the credit and the first scan round (R109). -/
def startScanner (s : State) : State :=
  scanRound (setBus s { s.bus with credit := s.settings.nat .scanQuota })

/-- Step 6 (R186): the frost step count and the filter step count start. -/
def startCounts (s : State) : State :=
  { s with
    frost := { s.frost with steps := 0 }
    filters := { s.filters with steps := 0 } }

/-- The start-up order (R186). Step 4 is the resolver's first recompute (R42). -/
def startUp (s : State) (x : Loaded) : State :=
  startCounts (startScanner (recompute (setUpZones (fillFilters (installTable s x) x))))

/-- LOAD_END (R183, R186). With no load in progress none ends. -/
def execLoadEnd (r : ImageRead) (s : State) : Host.Outcome State Fault Refusal :=
  .next (if s.isLoading then startUp s (loadedFrom r) else s)

/-- POWER_ON (R183): every block is reset and the load starts. What waits outside the part, the queue, and
the model's own count of free values are not the part's. -/
def execPowerOn (s : State) : Host.Outcome State Fault Refusal :=
  .next { State.reset with pending := s.pending, freeCount := s.freeCount }

/-! ### Write-behind -/

/-- Whether a write starts (R184). -/
def Store.startDue (t : Store) : Bool := !t.writing && t.changed && (t.urgent || t.quiet == 5)

/-- A write starts (R184): the store takes the whole image as it stands. -/
def Store.startWrite (t : Store) : Store :=
  { t with changed := false, urgent := false, writing := true, image := imageBytes t.settings t.persisted }

/-- WRITE_BEHIND_START (R184): while the start condition does not hold, no write starts. -/
def execWriteBehindStart (s : State) : Host.Outcome State Fault Refusal :=
  .next { s with store := if s.store.startDue then s.store.startWrite else s.store }

/-- The writing flag cleared at the end of a write (R184). -/
def Store.endWrite (t : Store) (state : StoreState) : Store :=
  { t with writing := false, image := [], state := state }

/-- IMAGE_WRITE_END (R185): a write fails when a byte is not acknowledged or the read-back differs from the
image written. With no write in progress none ends. -/
def execImageWriteEnd (acked : Bool) (readBack : List Byte) (s : State) : Host.Outcome State Fault Refusal :=
  .next
    (if s.store.writing then
      if acked = true ∧ readBack = s.store.image then
        if s.store.state = .fault then
          raise { s with store := s.store.endWrite (loadedState s.store.loadedAs) } .storeState
        else { s with store := s.store.endWrite s.store.state }
      else raise { s with store := s.store.endWrite .fault } .storeState
    else s)

end Sys2Proof.Machine
end

