-- ==== Sys2Proof/Machine/TimeBase.lean ====
section
/-! DEFINITION. The time base (section 8.4): the minute tick and what it is handed to, the seconds the part
counts of itself, and the request TIME. -/

namespace Sys2Proof.Machine

/-! ### The minute tick -/

/-- The most handles an expired-handle list holds (R15). -/
def expiredLimit : Nat := 4

/-- A handle joins an expired-handle list of at most 4, the oldest dropped (R15). -/
def joinExpired (xs : List Nat) (h : Nat) : List Nat :=
  let all := xs ++ [h]
  all.drop (all.length - expiredLimit)

/-- A handle handed to a link's controller (R15). -/
def handExpired (s : State) (l : Link) (h : Nat) : State :=
  let r := s.links.get l
  { s with links := s.links.set l { r with expired := joinExpired r.expired h } }

/-- The report of one expired entry (R15, R16). -/
def reportExpired (s : State) (e : Entry) : State :=
  match e.source with
  | .link l => raiseTo (handExpired s l e.handle) .demandExpired (some l)
  | .zone z => applyZoneMove s z (zoneExpired s.settings z (s.humidity.zones.get z))
  | .dryGuard => s

/-- The demand table's minute tick (R14): the countdown and the removals, the reports in posting order, and
one notice when at least one entry was removed. -/
def demandMinute (s : State) : State :=
  let counted := { s with table := s.table.ticked }
  if s.table.spent.isEmpty then counted else notice (s.table.spent.foldl reportExpired counted)

/-- The time base with one more minute (R166): the seconds count is 0, and the minute count wraps. -/
def TimeBase.minute (t : TimeBase) : TimeBase := { t with minutes := t.minutes + 1#32, seconds := 0 }

/-- The minute tick (R166): the minute count rises, and the tick is handed to the demand table, the log,
the boost timers and the filter monitor in that order. -/
def minuteTick (s : State) : State :=
  filtersMinute (boostMinute (logMinute (demandMinute { s with time := s.time.minute })))

/-- MINUTE_TICK (R166). -/
def execMinuteTick (s : State) : Host.Outcome State Fault Refusal := .next (minuteTick s)

/-- ENTRY_EXPIRY (R14): the tick at which the remaining count of at least one timed entry reaches 0
(assumption 1). -/
def execEntryExpiry (s : State) : Host.Outcome State Fault Refusal :=
  .next (if s.table.spent.isEmpty then s else demandMinute s)

/-! ### The second -/

/-- A second of the time base (R166). -/
def timeSecond (s : State) : State :=
  if 60 ≤ s.time.seconds + 1 then minuteTick s
  else { s with time := { s.time with seconds := s.time.seconds + 1 } }

/-- A second of the round count (R98): it does not run before the load ends (R109). -/
def roundSecond (s : State) : State :=
  if s.isLoading then s
  else if s.settings.nat .scanPeriod ≤ s.bus.roundCount + 1 then scanRound s
  else setBus s { s.bus with roundCount := s.bus.roundCount + 1 }

/-- A second of the quiet count (R184), and the write that starts when the start condition then holds. -/
def Store.second (t : Store) : Store :=
  let counted := if t.changed then { t with quiet := min (t.quiet + 1) 5 } else t
  if counted.startDue then counted.startWrite else counted

/-- One second of what the part counts of itself: the seconds count, the round count and the quiet count.
DESIGN CHOICE (assumption 2): it is what a step does when no command waits. -/
def tickSecond (s : State) : State :=
  let s1 := roundSecond (timeSecond s)
  { s1 with store := s1.store.second }

/-! ### TIME -/

/-- The byte that carries a stamp's UNSYNCED mark (R189). -/
def markByte (st : Stamp) : List Byte := flag st.unsynced

/-- The payload of a TIME reply (R189): the stamp and its mark. -/
def stampPayload (t : TimeBase) : List Byte := wordBytes t.minutes ++ markByte t.stamp

/-- A link sets the time and holds the source role (R167). -/
def TimeBase.setBy (t : TimeBase) (l : Link) (count : Word) : TimeBase :=
  { t with minutes := count, synced := true, source := some l }

/-- The time set by a link (R167): a TIME record is written when the count changes or was unsynced. DESIGN
CHOICE (assumption 32): the count is set first, so the record's own stamp is the new one, without the mark. -/
def setTime (s : State) (l : Link) (count : Word) : State :=
  let s1 := { s with time := s.time.setBy l count }
  if count = s.time.minutes ∧ s.time.synced = true then s1 else writeLog s1 (.time s.time.stamp count)

/-- TIME (R167). DESIGN CHOICE (assumption 33): the stamp of the reply is taken with the request, so it is the
value sent (R168). -/
def answerTime (s : State) (l : Link) (count : Word) : Answer :=
  if s.time.source = none ∨ s.time.source = some l then
    .ok (setTime s l count) (stampPayload (s.time.setBy l count))
  else { state := s, result := .ignored, payload := stampPayload s.time }

/-- The source role released by a link's reset (R170): the count and the synced flag are kept. -/
def TimeBase.release (t : TimeBase) (l : Link) : TimeBase :=
  { t with source := if t.source = some l then none else t.source }

end Sys2Proof.Machine
end

