-- ==== Sys2Proof/Machine/Requests.lean ====
section
/-! DEFINITION. The requests of the masters (R160, R189): their payloads, how a received payload is read,
and the answer each owning block gives. -/

namespace Sys2Proof.Machine

/-! ### The requests and their payloads -/

/-- A request whose kind and layout the part knows (R189). The last two cases of CLEAR and SET_GROUP name
a target and a group that are none of the part's, which their owners answer BAD. -/
inductive Request where
  | status
  | events
  | post (kind : Byte) (level duration : Half)
  | withdraw (handle : Byte)
  | list (start : Byte)
  | get (code : Byte)
  | set (code : Byte) (value : Word)
  | setThresholds (v : Vector Half 7)
  | setEventMap (v : Vector Byte 14)
  | setUnknown (code : Byte) (v : Vector Byte 14)
  | start (selection : Byte)
  | abort
  | procedure
  | clearFan (f : Side)
  | clearPreheater
  | clearFrostLockout
  | clearUnknown (target : Byte)
  | time (count : Word)
  | probe (address command register : Byte)
  | fetch
  | logRead (n : Byte)
  | logRelease (n : Byte)
  | logRewind
  | recent (n : Byte)
  deriving DecidableEq, Repr

/-- The kind code of a request (R189). -/
def Request.kind : Request → Byte
  | .status => 0x01#8
  | .events => 0x02#8
  | .post _ _ _ => 0x03#8
  | .withdraw _ => 0x04#8
  | .list _ => 0x05#8
  | .get _ => 0x06#8
  | .set _ _ => 0x07#8
  | .setThresholds _ | .setEventMap _ | .setUnknown _ _ => 0x08#8
  | .start _ => 0x09#8
  | .abort => 0x0A#8
  | .procedure => 0x0B#8
  | .clearFan _ | .clearPreheater | .clearFrostLockout | .clearUnknown _ => 0x0C#8
  | .time _ => 0x0D#8
  | .probe _ _ _ => 0x0E#8
  | .fetch => 0x0F#8
  | .logRead _ => 0x10#8
  | .logRelease _ => 0x11#8
  | .logRewind => 0x12#8
  | .recent _ => 0x13#8

/-- The two bytes of a field, most significant first. -/
def splitHalf (h : Half) : List Byte := [h.extractLsb' 8 8, h.extractLsb' 0 8]

/-- The four bytes of a field, most significant first. -/
def splitWord (w : Word) : List Byte :=
  [w.extractLsb' 24 8, w.extractLsb' 16 8, w.extractLsb' 8 8, w.extractLsb' 0 8]

/-- The payload of a request (R189). -/
def Request.payload : Request → List Byte
  | .status | .events | .abort | .procedure | .fetch | .logRewind => []
  | .post k level duration => k :: splitHalf level ++ splitHalf duration
  | .withdraw h => [h]
  | .list n => [n]
  | .get c => [c]
  | .set c v => c :: splitWord v
  | .setThresholds v => thresholdGroup :: v.toList.flatMap splitHalf
  | .setEventMap v => eventMapGroup :: v.toList
  | .setUnknown c v => c :: v.toList
  | .start sel => [sel]
  | .clearFan .supply => [0x00#8]
  | .clearFan .extract => [0x01#8]
  | .clearPreheater => [0x02#8]
  | .clearFrostLockout => [0x03#8]
  | .clearUnknown t => [t]
  | .time c => splitWord c
  | .probe a c r => [a, c, r]
  | .logRead n => [n]
  | .logRelease n => [n]
  | .recent n => [n]

/-- The fourteen bytes of a group in a payload (R189). -/
def bytesOf (p : List Byte) : Option (Vector Byte 14) :=
  if h : p.length = 14 then some ⟨p.toArray, h⟩ else none

/-- The seven two-byte values of the frost threshold group in a payload (R189). -/
def halvesOf (p : List Byte) : Option (Vector Half 7) :=
  (bytesOf p).map fun v => Vector.ofFn fun i => joinHalf v[2 * i.val] v[2 * i.val + 1]

/-- The group of a SET_GROUP (R189). -/
def groupRequest (code : Byte) (rest : List Byte) : Option Request :=
  if code = thresholdGroup then (halvesOf rest).map .setThresholds
  else if code = eventMapGroup then (bytesOf rest).map .setEventMap
  else (bytesOf rest).map (.setUnknown code)

/-- The target of a CLEAR (R187, R189). -/
def clearRequest (target : Byte) : Request :=
  match target.toNat with
  | 0 => .clearFan .supply
  | 1 => .clearFan .extract
  | 2 => .clearPreheater
  | 3 => .clearFrostLockout
  | _ => .clearUnknown target

/-- What a frame's kind and payload say (R159 checks 2 and 3). -/
inductive Parsed where
  | unknownKind
  | badLayout
  | request (r : Request)
  deriving DecidableEq, Repr

/-- A payload read, or a layout that does not fit. -/
def Parsed.of : Option Request → Parsed
  | some r => .request r
  | none => .badLayout

/-- A payload of no bytes. -/
def empty? (r : Request) : List Byte → Option Request
  | [] => some r
  | _ => none

/-- A payload of one byte. -/
def one? (f : Byte → Request) : List Byte → Option Request
  | [a] => some (f a)
  | _ => none

/-- The payload of a POST. -/
def post? : List Byte → Option Request
  | [k, a, b, c, d] => some (.post k (joinHalf a b) (joinHalf c d))
  | _ => none

/-- The payload of a SET. -/
def set? : List Byte → Option Request
  | [c, a, b, d, e] => some (.set c (joinWord a b d e))
  | _ => none

/-- The payload of a SET_GROUP. -/
def group? : List Byte → Option Request
  | c :: rest => groupRequest c rest
  | [] => none

/-- The payload of a TIME. -/
def time? : List Byte → Option Request
  | [a, b, c, d] => some (.time (joinWord a b c d))
  | _ => none

/-- The payload of a PROBE. -/
def probe? : List Byte → Option Request
  | [a, c, r] => some (.probe a c r)
  | _ => none

/-- A kind and a payload read (R189). -/
def parseRequest (kind : Byte) (p : List Byte) : Parsed :=
  match kind.toNat with
  | 0x01 => .of (empty? .status p)
  | 0x02 => .of (empty? .events p)
  | 0x03 => .of (post? p)
  | 0x04 => .of (one? .withdraw p)
  | 0x05 => .of (one? .list p)
  | 0x06 => .of (one? .get p)
  | 0x07 => .of (set? p)
  | 0x08 => .of (group? p)
  | 0x09 => .of (one? .start p)
  | 0x0A => .of (empty? .abort p)
  | 0x0B => .of (empty? .procedure p)
  | 0x0C => .of (one? clearRequest p)
  | 0x0D => .of (time? p)
  | 0x0E => .of (probe? p)
  | 0x0F => .of (empty? .fetch p)
  | 0x10 => .of (one? .logRead p)
  | 0x11 => .of (one? .logRelease p)
  | 0x12 => .of (empty? .logRewind p)
  | 0x13 => .of (one? .recent p)
  | _ => .unknownKind

/-- Whether a request's kind is of service class (R160). -/
def Request.serviceClass : Request → Bool
  | .setThresholds _ | .setEventMap _ | .setUnknown _ _ | .clearFan _ | .clearPreheater
  | .clearFrostLockout | .clearUnknown _ | .probe _ _ _ | .fetch | .logRead _ | .logRelease _
  | .logRewind => true
  | .status | .events | .post _ _ _ | .withdraw _ | .list _ | .get _ | .set _ _ | .start _ | .abort
  | .procedure | .time _ | .recent _ => false

/-! ### STATUS (R161, R190) -/

/-- The operating point in a STATUS (R190). -/
def opBytes (o : OperatingPoint) : List Byte :=
  be16 o.w ++ be16 o.b ++ be16 o.s ++ be16 o.e ++ be16 o.flags.mask ++ byte1? o.contributing
    ++ byte1 (maskOf [o.bypassOpen, o.contributing.isSome])

/-- A fan in a STATUS (R190). -/
def fanBytes (x : FanRecord) : List Byte :=
  byte1 (fanStateCode x.state) ++ be16 x.target ++ be16 x.duty ++ be16 x.flow ++ be16 x.speed
    ++ byte1 (bandCode x.band) ++ byte1 (maskOf [x.shortfall, x.probeFault]) ++ byte1 x.attempts

/-- The frost record in a STATUS (R190). -/
def frostBytes (t : Settings) (g : FrostRecord) : List Byte :=
  byte1 (stageCode g.stage) ++ be16 g.f ++ be16 g.r ++ byte1 g.failures
    ++ byte1 (maskOf [gapElapsed t g, g.fault]) ++ byte1? (g.blindPhase.map blindPhaseCode) ++ be16 g.duty

/-- An airstream probe in a STATUS (R190). -/
def probeBytes (p : ProbeRecord) : List Byte := byte1 (probeStatusCode p.status) ++ be16s? p.value?

/-- A filter in a STATUS (R190). -/
def filterBytes (x : FilterRecord) : List Byte :=
  byte1 (filterStateCode x.state) ++ byte1 x.lifeUsed ++ byte1 x.loading ++ flag x.probeFault

/-- A zone in a STATUS (R190). -/
def zoneBytes (z : ZoneRecord) : List Byte :=
  byte1 (zoneTypeCode z.zoneType) ++ byte1 (zoneStateCode z.state) ++ flag z.stale ++ be16? z.baseline
    ++ be16? (z.last.map Sample.rh) ++ be16? (z.last.map Sample.ah)

/-- The extract sensor in a STATUS (R190). -/
def extractBytes (x : ExtractRecord) : List Byte :=
  be16? (x.last.map Prod.fst) ++ be16? (x.last.map Prod.snd) ++ flag x.stale

/-- The time base in a STATUS (R190): bit 0 UNSYNCED, and the source link plus 1 in bits 1 and 2. -/
def timeBytes (t : TimeBase) : List Byte :=
  wordBytes t.minutes
    ++ byte1 ((if t.synced then 0 else 1) + 2 * (match t.source with | some l => linkCode l + 1 | none => 0))

/-- The STATUS payload of a link (R190). -/
def statusPayload (s : State) (l : Link) : List Byte :=
  opBytes s.op ++ byte1 (damperCode s.damper.state) ++ byte1 s.damper.position
    ++ fanBytes s.fans.supply ++ fanBytes s.fans.extract
    ++ frostBytes s.settings s.frost.record
    ++ probeBytes s.frost.probes.oda ++ probeBytes s.frost.probes.sup ++ probeBytes s.frost.probes.eta
    ++ probeBytes s.frost.probes.eha
    ++ filterBytes s.filters.records.supply ++ filterBytes s.filters.records.extract
    ++ zoneBytes s.humidity.zones.z1 ++ zoneBytes s.humidity.zones.z2 ++ zoneBytes s.humidity.zones.z3
    ++ zoneBytes s.humidity.zones.z4
    ++ extractBytes s.humidity.extract
    ++ flag s.humidity.dryPlaced.isSome ++ byte1 (storeStateCode s.store.state)
    ++ timeBytes s.time ++ be16 (s.links.get l).pending.toNat

/-- STATUS (R161): nothing changes. -/
def answerStatus (s : State) (l : Link) : Answer := .ok s (statusPayload s l)

/-! ### EVENTS (R164) -/

/-- A link record whose pending set and expired-handle list are emptied (R164, R170). -/
def LinkRecord.emptied (r : LinkRecord) : LinkRecord :=
  { r with pending := 0#14, addressed := 0#14, expired := [], attention := false }

/-- A link's pending set and expired-handle list emptied. -/
def emptyPending (s : State) (l : Link) : State :=
  { s with links := s.links.set l (s.links.get l).emptied }

/-- The payload of an EVENTS (R189). -/
def eventsPayload (r : LinkRecord) : List Byte :=
  be16 r.pending.toNat ++ byte1 r.expired.length ++ r.expired.flatMap byte1

/-- EVENTS (R164). -/
def answerEvents (s : State) (l : Link) : Answer := .ok (emptyPending s l) (eventsPayload (s.links.get l))

/-! ### The demand table's requests (R8 to R13) -/

/-- What a POST asks for, when its kind is one of R4's (R8 check 1, R9). -/
def postWant (kind : Byte) (level : Half) : Option Want :=
  match kind.toNat with
  | 0 => some (.raise (clampLevel level.toNat))
  | 1 => some (.setback (clampLevel level.toNat))
  | 2 => some .bypass
  | _ => none

/-- The level of an entry, absent for BYPASS (R4). -/
def Want.level? : Want → Option Nat
  | .raise v | .setback v => some v
  | .bypass => none

/-- Whether a POST's reply carries CLAMPED (R9). -/
def postClamped (want : Want) (level duration : Half) : Bool :=
  want.level?.any (fun v => v != level.toNat) || (storedRemaining duration.toNat).any fun n => n != duration.toNat

/-- The payload of an accepted POST (R10, R189). -/
def postPayload (handle : Nat) (want : Want) (level duration : Half) : List Byte :=
  byte1 handle ++ be16? want.level? ++ be16 ((storedRemaining duration.toNat).getD 0)
    ++ flag (postClamped want level duration)

/-- An accepted POST (R10). -/
def placePost (s : State) (l : Link) (slot : Fin 16) (want : Want) (duration : Half) : State :=
  notice { s with table := s.table.place slot (.link l) want (storedRemaining duration.toNat) s.time.stamp }

/-- POST (R8), its checks in order. -/
def answerPost (s : State) (l : Link) (kind : Byte) (level duration : Half) : Answer :=
  match postWant kind level with
  | none => .plain s .bad
  | some want =>
    if 5 ≤ s.table.holding l then .plain s .quota
    else
      match s.table.freeShared? with
      | none => .plain s .full
      | some slot =>
        .ok (placePost s l slot want duration)
          (postPayload (slot.val * 16 + (s.table.nextGen slot).val) want level duration)

/-- WITHDRAW (R11). -/
def answerWithdraw (s : State) (l : Link) (handle : Byte) : Answer :=
  let slot : Fin 16 := ⟨handle.toNat / 16, by omega⟩
  match s.table.live? slot with
  | none => .plain s .noEntry
  | some e =>
    if e.gen.val ≠ handle.toNat % 16 then .plain s .noEntry
    else if e.source = .link l then .ok (notice { s with table := s.table.vacate slot }) []
    else .plain s .notOwner

/-- An entry in a LIST (R190). -/
def Entry.bytes (e : Entry) : List Byte :=
  byte1 e.handle ++ byte1 (sourceCode e.source) ++ byte1 (wantCode e.want) ++ flag e.posted.unsynced
    ++ be16? e.want.level? ++ be16? e.remaining ++ wordBytes e.posted.minutes

/-- The entries a LIST gives (R13). -/
def DemandTable.page (t : DemandTable) (start : Byte) : List Entry := (t.entries.drop start.toNat).take 6

/-- LIST (R13): nothing changes. -/
def answerList (s : State) (start : Byte) : Answer :=
  .ok s (byte1 s.table.entries.length ++ byte1 (s.table.page start).length
    ++ (s.table.page start).flatMap Entry.bytes)

/-! ### The procedure runner's requests (R146, R154) -/

/-- START (R146), its checks in order. -/
def answerStart (s : State) (l : Link) (selection : Byte) : Answer :=
  match selectionOf selection with
  | none => .plain s .bad
  | some sel => if startCheck s sel = .ok then .ok (startProcedure s l sel) [] else .plain s (startCheck s sel)

/-- ABORT (R154). -/
def answerAbort (s : State) (l : Link) : Answer :=
  match s.runner.procedure.running? with
  | none => .plain s .noEntry
  | some (owner, _) => if owner = l then .ok (abortProcedure s .abortedRequest) [] else .plain s .notOwner

/-- The phase of a procedure with what it holds (R189). -/
def procedureBytes : Procedure → List Byte
  | .idle => byte1 0 ++ [0xFF#8, 0xFF#8, 0xFF#8, 0xFF#8]
  | .settling o sel n => byte1 1 ++ byte1 (linkCode o) ++ byte1 (selectionCode sel) ++ byte1 n ++ byte1 0
  | .measuring o sel n taken =>
    byte1 2 ++ byte1 (linkCode o) ++ byte1 (selectionCode sel) ++ byte1 n
      ++ byte1 (max taken.supply.length taken.extract.length)

/-- The last outcome record (R189): an absent stamp is sent as 0 with a mark of 0xFF. -/
def lastBytes (x : LastOutcome) : List Byte :=
  byte1 (outcomeCode x.outcome) ++ byte1? (x.selection.map selectionCode) ++ byte1? (x.owner.map linkCode)
    ++ (match x.stamp with
        | some st => wordBytes st.minutes ++ markByte st
        | none => be32 0 ++ byte1 0xFF)
    ++ be16? x.references.supply ++ be16? x.references.extract

/-- PROCEDURE (R154): nothing changes. -/
def answerProcedure (s : State) : Answer :=
  .ok s (procedureBytes s.runner.procedure ++ lastBytes s.runner.last)

/-! ### CLEAR (R59, R82, R86) -/

/-- A FAILED fan released (R59). -/
def FanRecord.clear (x : FanRecord) : FanRecord :=
  { x with
    state := .stopped, duty := 0, attempts := 0, shortfallCount := 0, phase := 0, lowSpeed := 0, run := 0,
    probeCount := 0 }

/-- CLEAR naming a fan (R59). -/
def answerClearFan (s : State) (f : Side) : Answer :=
  match (s.fans.get f).state with
  | .failed => .ok (handFan s f (s.fans.get f).clear) []
  | .stalled | .retrying => .plain s .notNow
  | .stopped | .starting | .running => .plain s .ignored

/-- LOCKOUT cleared (R82). -/
def FrostRecord.clearLockout (g : FrostRecord) (t : Settings) : FrostRecord :=
  { g.enter .watch with f := t.thresholds.unbalanceOn, failures := 0, warmth := 0 }

/-- CLEAR naming FROST_LOCKOUT (R82). -/
def answerClearLockout (s : State) : Answer :=
  if s.frost.record.stage = .lockout then
    .ok (takeFrostMove s (s.frost.record.clearLockout s.settings).move) []
  else .plain s .ignored

/-- CLEAR naming PREHEATER (R86). -/
def answerClearPreheater (s : State) : Answer :=
  if s.frost.record.fault then
    .ok (raise (setFrost s { s.frost.record with fault := false }) .preheaterFault) []
  else .plain s .ignored

/-! ### PROBE and FETCH (R103, R104) -/

/-- PROBE (R103). -/
def answerProbe (s : State) (l : Link) (address command register : Byte) : Answer :=
  match probeRequest address command register with
  | none => .plain s .bad
  | some req =>
    match s.bus.pass.get l with
    | .idle | .done _ _ => .plain (queuePass s l req) .pending
    | .queued _ | .active _ _ => .plain s .busy

/-- The outcome part of a FETCH reply (R189): TIMEOUT and CORRUPT carry no reply. -/
def fetchOutcomeBytes (o : BusOutcome) : List Byte :=
  byte1 (busOutcomeCode o) ++
    match o with
    | .ok d | .wrongAddress d => [d.address, d.status, d.d0, d.d1, d.d2, d.d3]
    | .timeout | .corrupt => [0xFF#8, 0xFF#8, 0x00#8, 0x00#8, 0x00#8, 0x00#8]

/-- FETCH (R104). -/
def answerFetch (s : State) (l : Link) : Answer :=
  match s.bus.pass.get l with
  | .idle => .plain s .noEntry
  | .queued _ => .plain s .pending
  | .active _ discard => .plain s (if discard then .noEntry else .pending)
  | .done req o =>
    .ok (setBus s { s.bus with pass := s.bus.pass.set l .idle }) (req.body ++ fetchOutcomeBytes o)

/-! ### Every request -/

/-- The answer of the block that owns a request (R160). -/
def answer (s : State) (l : Link) : Request → Answer
  | .status => answerStatus s l
  | .events => answerEvents s l
  | .post k level duration => answerPost s l k level duration
  | .withdraw h => answerWithdraw s l h
  | .list n => answerList s n
  | .get c => answerGet s c
  | .set c v => answerSet s l c v
  | .setThresholds v => answerSetThresholds s l v
  | .setEventMap v => answerSetEventMap s l v
  | .setUnknown _ _ => .plain s .bad
  | .start sel => answerStart s l sel
  | .abort => answerAbort s l
  | .procedure => answerProcedure s
  | .clearFan f => answerClearFan s f
  | .clearPreheater => answerClearPreheater s
  | .clearFrostLockout => answerClearLockout s
  | .clearUnknown _ => .plain s .bad
  | .time c => answerTime s l c
  | .probe a c r => answerProbe s l a c r
  | .fetch => answerFetch s l
  | .logRead n => answerLogRead s n
  | .logRelease n => answerLogRelease s n
  | .logRewind => answerLogRewind s
  | .recent n => answerRecent s n

/-- A request of a known kind and layout judged by the checks of R159 that remain: the load, then the class;
then its owner answers. -/
def serve (s : State) (l : Link) (r : Request) : Answer :=
  if s.isLoading then .plain s .wait
  else if r.serviceClass = true ∧ l ≠ .service then .plain s .denied
  else answer s l r

/-- A frame's kind and payload judged by every check of R159. -/
def serveFrame (s : State) (l : Link) (kind : Byte) (payload : List Byte) : Answer :=
  match parseRequest kind payload with
  | .request r => serve s l r
  | .unknownKind | .badLayout => .plain s (if s.isLoading then .wait else .bad)

end Sys2Proof.Machine
end

