-- ==== Sys2Proof/Machine/Links.lean ====
section
/-! DEFINITION. The link controllers (chapter 8): frames and replies as bytes (R188), the receive machine
(R157, R158), how a request is taken and its reply sent, and the link reset (R169, R170). -/

namespace Sys2Proof.Machine

/-! ### Frames -/

/-- The start byte of a link frame (R188). -/
def frameStart : Byte := 0xA5#8

/-- What the CRC of a request frame covers (R157): length, tag, kind and payload. -/
def frameBody (tag kind : Byte) (payload : List Byte) : List Byte :=
  byte1 (2 + payload.length) ++ [tag, kind] ++ payload

/-- A request frame (R188). -/
def frameBytes (tag kind : Byte) (payload : List Byte) : List Byte :=
  frameStart :: frameBody tag kind payload ++ [crc8 (frameBody tag kind payload)]

/-- What the CRC of a reply covers: length, tag, the kind marked as a reply, result and payload. -/
def Reply.body (r : Reply) : List Byte :=
  byte1 (3 + r.payload.length) ++ [r.tag, r.kind + 0x80#8] ++ byte1 (resultCode r.result) ++ r.payload

/-- A reply frame (R188, R189). -/
def Reply.bytes (r : Reply) : List Byte := frameStart :: r.body ++ [crc8 r.body]

/-! ### Taking a request -/

/-- A link record replaced. -/
def setLink (s : State) (l : Link) (r : LinkRecord) : State := { s with links := s.links.set l r }

/-- The answer becomes a reply, and the link goes from SERVING to REPLYING (R158). -/
def reply (l : Link) (tag kind : Byte) (a : Answer) : State :=
  setLink a.state l
    { a.state.links.get l with
      state := .replying
      frame := []
      reply := some { tag := tag, kind := kind, result := a.result, payload := a.payload } }

/-- Whether a link is at a point where a whole frame is received (R157): it is LISTENING, or it is RECEIVING
and the frame so far is the beginning of that frame. -/
def LinkRecord.canReceive (r : LinkRecord) (frame : List Byte) : Bool :=
  match r.state with
  | .listening => true
  | .receiving => r.frame.isPrefixOf frame
  | .serving | .replying | .inBreak => false

/-- A request taken from a link whose frame is whole (R157, R159). On a link that is not receiving that
frame its bytes are disregarded (R158; assumption 6). -/
def takeRequest (s : State) (l : Link) (tag : Byte) (r : Request) : State :=
  if (s.links.get l).canReceive (frameBytes tag r.kind r.payload) then reply l tag r.kind (serve s l r) else s

/-- A frame of any kind and payload taken (R157, R159). -/
def takeFrame (s : State) (l : Link) (tag kind : Byte) (payload : List Byte) : State :=
  reply l tag kind (serveFrame s l kind payload)

/-! ### The receive machine -/

/-- What a byte does to a link's reception (R157). -/
inductive RxMove where
  | disregard
  | discard
  | keep (frame : List Byte)
  | complete (tag kind : Byte) (payload : List Byte)
  deriving DecidableEq, Repr

/-- The length byte of a frame (R157). -/
def lengthFits (b : Byte) : Bool := decide (2 ≤ b.toNat) && decide (b.toNat ≤ 50)

/-- The last byte of a frame (R157): its CRC over the length, tag, kind and payload. -/
def closeFrame (covered : List Byte) (crc : Byte) : RxMove :=
  match covered with
  | _ :: tag :: kind :: payload => if crc8 covered = crc then .complete tag kind payload else .discard
  | _ => .discard

/-- A byte in RECEIVING (R157). -/
def receiveByte (frame : List Byte) (b : Byte) : RxMove :=
  match frame with
  | [] => .discard
  | [a] => if lengthFits b then .keep [a, b] else .discard
  | a :: len :: rest =>
    if rest.length < len.toNat then .keep (a :: len :: rest ++ [b]) else closeFrame (len :: rest) b

/-- A byte on the receive line (R157, R158, R169). -/
def LinkRecord.receive (r : LinkRecord) (b : Byte) : RxMove :=
  match r.state with
  | .listening => if b = frameStart then .keep [b] else .disregard
  | .receiving => receiveByte r.frame b
  | .serving | .replying | .inBreak => .disregard

/-- A frame so far discarded (R157). -/
def LinkRecord.discard (r : LinkRecord) : LinkRecord := { r with state := .listening, frame := [] }

/-- LINK_BYTE_RECEIVED (R157, R158). -/
def execLinkByteReceived (l : Link) (b : Byte) (s : State) : Host.Outcome State Fault Refusal :=
  .next
    (match (s.links.get l).receive b with
     | .disregard => s
     | .discard => setLink s l (s.links.get l).discard
     | .keep frame => setLink s l { s.links.get l with state := .receiving, frame := frame }
     | .complete tag kind payload => takeFrame s l tag kind payload)

/-- FRAME_GAP_TIMEOUT (R157): more than 20 ms pass without the next byte of a frame. -/
def execFrameGapTimeout (l : Link) (s : State) : Host.Outcome State Fault Refusal :=
  .next (if (s.links.get l).state = .receiving then setLink s l (s.links.get l).discard else s)

/-- Whether what arrives discards the frame in progress (R157). -/
def LinkRecord.discards (r : LinkRecord) : RxItem → Bool
  | .framingError => r.state == .receiving
  | .byte b => r.state == .receiving && r.receive b == .discard

/-- FRAME_DISCARDED (R157): a bad length byte, a byte with a framing error, or a CRC that does not match.
What discards no frame leaves the link as it is (assumption 1). -/
def execFrameDiscarded (l : Link) (item : RxItem) (s : State) : Host.Outcome State Fault Refusal :=
  .next (if (s.links.get l).discards item then setLink s l (s.links.get l).discard else s)

/-- A link record whose reply has been sent (R158): a link in BREAK stays there (R169). -/
def LinkRecord.sent (r : LinkRecord) : LinkRecord :=
  { r with reply := none, state := if r.state = .replying then .listening else r.state }

/-- REPLY_SENT (R158). -/
def execReplySent (l : Link) (s : State) : Host.Outcome State Fault Refusal :=
  .next (setLink s l (s.links.get l).sent)

/-! ### Link reset (R169, R170) -/

/-- The runner's share of a link reset (R151). -/
def resetProcedure (s : State) (l : Link) : State :=
  match s.runner.procedure.running? with
  | some (owner, _) => if owner = l then abortProcedure s .abortedLink else s
  | none => s

/-- The log's share of a link reset (R177). -/
def Log.resetLink (g : Log) (l : Link) : Log :=
  match l with
  | .service => g.rewind
  | .panel | .heating => g

/-- A link record after its reset (R169, R170): a reply in transmission is sent to its end. -/
def LinkRecord.broken (r : LinkRecord) : LinkRecord := { r.emptied with state := .inBreak, frame := [] }

/-- The link reset (R170): the removals and the abort come before the pending set is emptied. -/
def resetLink (s : State) (l : Link) : State :=
  let s1 := resetProcedure (dropLinkEntries s l) l
  { s1 with
    bus := s1.bus.resetLink l
    links := s1.links.set l (s1.links.get l).broken
    time := s1.time.release l
    log := s1.log.resetLink l }

/-- LINK_RESET (R169, R170). -/
def execLinkReset (l : Link) (s : State) : Host.Outcome State Fault Refusal := .next (resetLink s l)

/-- BREAK_END (R169): the line returns to mark. A link that is not in BREAK does not leave it. -/
def execBreakEnd (l : Link) (s : State) : Host.Outcome State Fault Refusal :=
  .next (if (s.links.get l).state = .inBreak then setLink s l { s.links.get l with state := .listening } else s)

/-! ### The requests as commands -/

/-- STATUS (R161). -/
def execStatus (l : Link) (tag : Byte) (s : State) : Host.Outcome State Fault Refusal :=
  .next (takeRequest s l tag .status)

/-- EVENTS (R164). -/
def execEvents (l : Link) (tag : Byte) (s : State) : Host.Outcome State Fault Refusal :=
  .next (takeRequest s l tag .events)

/-- POST (R8 to R10). -/
def execPost (l : Link) (tag kind : Byte) (level duration : Half) (s : State) :
    Host.Outcome State Fault Refusal :=
  .next (takeRequest s l tag (.post kind level duration))

/-- WITHDRAW (R11). -/
def execWithdraw (l : Link) (tag handle : Byte) (s : State) : Host.Outcome State Fault Refusal :=
  .next (takeRequest s l tag (.withdraw handle))

/-- LIST (R13). -/
def execList (l : Link) (tag start : Byte) (s : State) : Host.Outcome State Fault Refusal :=
  .next (takeRequest s l tag (.list start))

/-- GET (R181). -/
def execGet (l : Link) (tag code : Byte) (s : State) : Host.Outcome State Fault Refusal :=
  .next (takeRequest s l tag (.get code))

/-- SET (R182). -/
def execSet (l : Link) (tag code : Byte) (value : Word) (s : State) : Host.Outcome State Fault Refusal :=
  .next (takeRequest s l tag (.set code value))

/-- SET_GROUP of the frost thresholds (R72). -/
def execSetGroupFrostThresholds (l : Link) (tag : Byte) (v : Vector Half 7) (s : State) :
    Host.Outcome State Fault Refusal :=
  .next (takeRequest s l tag (.setThresholds v))

/-- SET_GROUP of the event map (R165). -/
def execSetGroupEventMap (l : Link) (tag : Byte) (v : Vector Byte 14) (s : State) :
    Host.Outcome State Fault Refusal :=
  .next (takeRequest s l tag (.setEventMap v))

/-- START (R146). -/
def execStart (l : Link) (tag selection : Byte) (s : State) : Host.Outcome State Fault Refusal :=
  .next (takeRequest s l tag (.start selection))

/-- ABORT (R154). -/
def execAbort (l : Link) (tag : Byte) (s : State) : Host.Outcome State Fault Refusal :=
  .next (takeRequest s l tag .abort)

/-- PROCEDURE (R154). -/
def execProcedure (l : Link) (tag : Byte) (s : State) : Host.Outcome State Fault Refusal :=
  .next (takeRequest s l tag .procedure)

/-- CLEAR naming a fan (R59). -/
def execClearFan (l : Link) (tag : Byte) (f : Side) (s : State) : Host.Outcome State Fault Refusal :=
  .next (takeRequest s l tag (.clearFan f))

/-- CLEAR naming FROST_LOCKOUT (R82). -/
def execClearFrostLockout (l : Link) (tag : Byte) (s : State) : Host.Outcome State Fault Refusal :=
  .next (takeRequest s l tag .clearFrostLockout)

/-- CLEAR naming PREHEATER (R86). -/
def execClearPreheater (l : Link) (tag : Byte) (s : State) : Host.Outcome State Fault Refusal :=
  .next (takeRequest s l tag .clearPreheater)

/-- TIME (R167). -/
def execTime (l : Link) (tag : Byte) (count : Word) (s : State) : Host.Outcome State Fault Refusal :=
  .next (takeRequest s l tag (.time count))

/-- PROBE (R103). -/
def execProbe (l : Link) (tag address command register : Byte) (s : State) :
    Host.Outcome State Fault Refusal :=
  .next (takeRequest s l tag (.probe address command register))

/-- FETCH (R104). -/
def execFetch (l : Link) (tag : Byte) (s : State) : Host.Outcome State Fault Refusal :=
  .next (takeRequest s l tag .fetch)

/-- LOG_READ (R176). -/
def execLogRead (l : Link) (tag n : Byte) (s : State) : Host.Outcome State Fault Refusal :=
  .next (takeRequest s l tag (.logRead n))

/-- LOG_RELEASE (R177). -/
def execLogRelease (l : Link) (tag n : Byte) (s : State) : Host.Outcome State Fault Refusal :=
  .next (takeRequest s l tag (.logRelease n))

/-- LOG_REWIND (R177). -/
def execLogRewind (l : Link) (tag : Byte) (s : State) : Host.Outcome State Fault Refusal :=
  .next (takeRequest s l tag .logRewind)

/-- RECENT (R178). -/
def execRecent (l : Link) (tag n : Byte) (s : State) : Host.Outcome State Fault Refusal :=
  .next (takeRequest s l tag (.recent n))

/-- UNKNOWN_REQUEST_KIND (R159): a frame with a matching CRC is taken whatever its kind. A payload of more
than 48 bytes has no frame that is taken (R157). -/
def execUnknownRequestKind (l : Link) (tag kind : Byte) (payload : List Byte) (s : State) :
    Host.Outcome State Fault Refusal :=
  .next (if payload.length ≤ 48 ∧ (s.links.get l).canReceive (frameBytes tag kind payload) = true then
      takeFrame s l tag kind payload
    else s)

end Sys2Proof.Machine
end

