-- ==== Sys2Proof/Machine/Dispatch.lean ====
section
/-! DEFINITION. What each command does: one arm for each constructor of `Instr`. -/

namespace Sys2Proof.Machine

def exec (i : Instr) (s : State) : Host.Outcome State Fault Refusal :=
  match i with
  | .powerOn => Sys2Proof.Machine.execPowerOn s
  | .loadEnd read => Sys2Proof.Machine.execLoadEnd read s
  | .controlStep inp => Sys2Proof.Machine.execControlStep inp s
  | .fanRunningEntry f => Sys2Proof.Machine.execFanRunningEntry f s
  | .fanStall f => Sys2Proof.Machine.execFanStall f s
  | .fanRetryStart f => Sys2Proof.Machine.execFanRetryStart f s
  | .fanRetryEnd f => Sys2Proof.Machine.execFanRetryEnd f s
  | .shortfallSet f => Sys2Proof.Machine.execShortfallSet f s
  | .shortfallCleared f => Sys2Proof.Machine.execShortfallCleared f s
  | .attemptCountReset f => Sys2Proof.Machine.execAttemptCountReset f s
  | .flowProbeFault f => Sys2Proof.Machine.execFlowProbeFault f s
  | .flowProbeRecover f p => Sys2Proof.Machine.execFlowProbeRecover f p s
  | .tempProbeFault p => Sys2Proof.Machine.execTempProbeFault p s
  | .tempProbeRecover p t => Sys2Proof.Machine.execTempProbeRecover p t s
  | .preheaterBurstOff => Sys2Proof.Machine.execPreheaterBurstOff s
  | .filterProbeFault f => Sys2Proof.Machine.execFilterProbeFault f s
  | .filterProbeRecover f p => Sys2Proof.Machine.execFilterProbeRecover f p s
  | .frostStep => Sys2Proof.Machine.execFrostStep s
  | .thawSuccess => Sys2Proof.Machine.execThawSuccess s
  | .thawTimeout => Sys2Proof.Machine.execThawTimeout s
  | .thawGapElapsed => Sys2Proof.Machine.execThawGapElapsed s
  | .lockoutRelease => Sys2Proof.Machine.execLockoutRelease s
  | .blindPhaseEnd => Sys2Proof.Machine.execBlindPhaseEnd s
  | .travelSecond => Sys2Proof.Machine.execTravelSecond s
  | .damperTravelEnd => Sys2Proof.Machine.execDamperTravelEnd s
  | .minuteTick => Sys2Proof.Machine.execMinuteTick s
  | .entryExpiry => Sys2Proof.Machine.execEntryExpiry s
  | .hourlyRecord => Sys2Proof.Machine.execHourlyRecord s
  | .boostRebaseline z => Sys2Proof.Machine.execBoostRebaseline z s
  | .filterFieldsHandover => Sys2Proof.Machine.execFilterFieldsHandover s
  | .filterStep => Sys2Proof.Machine.execFilterStep s
  | .procedureSecond => Sys2Proof.Machine.execProcedureSecond s
  | .flowCheck => Sys2Proof.Machine.execFlowCheck s
  | .procedureSample => Sys2Proof.Machine.execProcedureSample s
  | .scanRound => Sys2Proof.Machine.execScanRound s
  | .requestSent => Sys2Proof.Machine.execRequestSent s
  | .busReply b => Sys2Proof.Machine.execBusReply b s
  | .busFramingError => Sys2Proof.Machine.execBusFramingError s
  | .busReplyTimeout => Sys2Proof.Machine.execBusReplyTimeout s
  | .sensorStale n => Sys2Proof.Machine.execSensorStale n s
  | .frameGapTimeout l => Sys2Proof.Machine.execFrameGapTimeout l s
  | .frameDiscarded l item => Sys2Proof.Machine.execFrameDiscarded l item s
  | .replySent l => Sys2Proof.Machine.execReplySent l s
  | .linkReset l => Sys2Proof.Machine.execLinkReset l s
  | .breakEnd l => Sys2Proof.Machine.execBreakEnd l s
  | .status l tag => Sys2Proof.Machine.execStatus l tag s
  | .events l tag => Sys2Proof.Machine.execEvents l tag s
  | .post l tag kind level duration => Sys2Proof.Machine.execPost l tag kind level duration s
  | .withdraw l tag handle => Sys2Proof.Machine.execWithdraw l tag handle s
  | .list l tag start => Sys2Proof.Machine.execList l tag start s
  | .getKey l tag code => Sys2Proof.Machine.execGet l tag code s
  | .setKey l tag code value => Sys2Proof.Machine.execSet l tag code value s
  | .setGroupFrostThresholds l tag v => Sys2Proof.Machine.execSetGroupFrostThresholds l tag v s
  | .setGroupEventMap l tag v => Sys2Proof.Machine.execSetGroupEventMap l tag v s
  | .start l tag selection => Sys2Proof.Machine.execStart l tag selection s
  | .abort l tag => Sys2Proof.Machine.execAbort l tag s
  | .procedure l tag => Sys2Proof.Machine.execProcedure l tag s
  | .clearFan l tag f => Sys2Proof.Machine.execClearFan l tag f s
  | .clearFrostLockout l tag => Sys2Proof.Machine.execClearFrostLockout l tag s
  | .clearPreheater l tag => Sys2Proof.Machine.execClearPreheater l tag s
  | .time l tag count => Sys2Proof.Machine.execTime l tag count s
  | .probe l tag address command register => Sys2Proof.Machine.execProbe l tag address command register s
  | .fetch l tag => Sys2Proof.Machine.execFetch l tag s
  | .logRead l tag n => Sys2Proof.Machine.execLogRead l tag n s
  | .logRelease l tag n => Sys2Proof.Machine.execLogRelease l tag n s
  | .logRewind l tag => Sys2Proof.Machine.execLogRewind l tag s
  | .recent l tag n => Sys2Proof.Machine.execRecent l tag n s
  | .writeBehindStart => Sys2Proof.Machine.execWriteBehindStart s
  | .imageWriteEnd acked readBack => Sys2Proof.Machine.execImageWriteEnd acked readBack s
  | .linkByteReceived l b => Sys2Proof.Machine.execLinkByteReceived l b s
  | .busReplyByte b => Sys2Proof.Machine.execBusReplyByte b s
  | .tachPulse f => Sys2Proof.Machine.execTachPulse f s
  | .unknownRequestKind l tag kind payload => Sys2Proof.Machine.execUnknownRequestKind l tag kind payload s

end Sys2Proof.Machine
end

