-- ==== Sys2Proof/Safety.lean ====
section
/-! DEFINITION. The terms in which statements about the part are made: when a link can be asked, what a reply
says, and what each block's records satisfy in every state the part can come to. -/

namespace Sys2Proof.Machine

/-! ### Requests and replies -/

/-- The load has ended and the link waits for a frame: a request it sends is taken and judged on its merits
(R157, R159). -/
def Ready (s : State) (l : Link) : Prop := s.isLoading = false ∧ (s.links.get l).state = .listening

/-- The link is sending this reply (R158). -/
def Replies (t : State) (l : Link) (tag kind : Byte) (result : ResultCode) (payload : List Byte) : Prop :=
  (t.links.get l).state = .replying ∧ (t.links.get l).frame = [] ∧
    (t.links.get l).reply = some { tag := tag, kind := kind, result := result, payload := payload }

/-- The state after a request that changes nothing beyond its reply (R159). -/
def onlyReply (s : State) (l : Link) (tag kind : Byte) (result : ResultCode) (payload : List Byte) : State :=
  setLink s l
    { s.links.get l with
      state := .replying
      frame := []
      reply := some { tag := tag, kind := kind, result := result, payload := payload } }

/-- Every link but one keeps its record. -/
def othersKept (s t : State) (l : Link) : Prop := ∀ m, m ≠ l → t.links.get m = s.links.get m

/-- The request a command of the table spells, with its link and tag. -/
def requestOf : Instr → Option (Link × Byte × Request)
  | .status l tag => some (l, tag, .status)
  | .events l tag => some (l, tag, .events)
  | .post l tag k v d => some (l, tag, .post k v d)
  | .withdraw l tag h => some (l, tag, .withdraw h)
  | .list l tag n => some (l, tag, .list n)
  | .getKey l tag c => some (l, tag, .get c)
  | .setKey l tag c v => some (l, tag, .set c v)
  | .setGroupFrostThresholds l tag v => some (l, tag, .setThresholds v)
  | .setGroupEventMap l tag v => some (l, tag, .setEventMap v)
  | .start l tag n => some (l, tag, .start n)
  | .abort l tag => some (l, tag, .abort)
  | .procedure l tag => some (l, tag, .procedure)
  | .clearFan l tag f => some (l, tag, .clearFan f)
  | .clearFrostLockout l tag => some (l, tag, .clearFrostLockout)
  | .clearPreheater l tag => some (l, tag, .clearPreheater)
  | .time l tag n => some (l, tag, .time n)
  | .probe l tag a c r => some (l, tag, .probe a c r)
  | .fetch l tag => some (l, tag, .fetch)
  | .logRead l tag n => some (l, tag, .logRead n)
  | .logRelease l tag n => some (l, tag, .logRelease n)
  | .logRewind l tag => some (l, tag, .logRewind)
  | .recent l tag n => some (l, tag, .recent n)
  | .powerOn | .loadEnd _ | .controlStep _ | .fanRunningEntry _ | .fanStall _ | .fanRetryStart _
  | .fanRetryEnd _ | .shortfallSet _ | .shortfallCleared _ | .attemptCountReset _ | .flowProbeFault _
  | .flowProbeRecover _ _ | .tempProbeFault _ | .tempProbeRecover _ _ | .preheaterBurstOff
  | .filterProbeFault _ | .filterProbeRecover _ _ | .frostStep | .thawSuccess | .thawTimeout
  | .thawGapElapsed | .lockoutRelease | .blindPhaseEnd | .travelSecond | .damperTravelEnd | .minuteTick
  | .entryExpiry | .hourlyRecord | .boostRebaseline _ | .filterFieldsHandover | .filterStep
  | .procedureSecond | .flowCheck | .procedureSample | .scanRound | .requestSent | .busReply _
  | .busFramingError | .busReplyTimeout | .sensorStale _ | .frameGapTimeout _ | .frameDiscarded _ _
  | .replySent _ | .linkReset _ | .breakEnd _ | .writeBehindStart | .imageWriteEnd _ _
  | .linkByteReceived _ _ | .busReplyByte _ | .tachPulse _ | .unknownRequestKind _ _ _ _ => none

/-- Bytes received on a link one after the other. -/
def receiveAll (l : Link) : List Byte → State → Host.Outcome State Fault Refusal
  | [], s => .next s
  | b :: bs, s =>
    match execLinkByteReceived l b s with
    | .next t => receiveAll l bs t
    | .fault r => .fault r
    | .refused r => .refused r

/-! ### What an event leaves in the log and the pending sets -/

/-- The records written between two states are these, in order, with the stamp that stood (R174). -/
def Wrote (s t : State) (bodies : List LogBody) : Prop :=
  t.log.write = s.log.write + bodies.length ∧
    t.log.ring.drop (t.log.ring.length - bodies.length)
      = bodies.map fun b => { stamp := s.time.stamp, body := b }

/-- The kinds delivered between two states (R162, R163). LOG_ALMOST_FULL is set apart, since any write may
raise it; a link's state, frame, reply and expired-handle list stay. -/
def Delivered (s t : State) (given : Link → EventKind → Bool) : Prop :=
  ∀ l,
    t.links.get l =
      { s.links.get l with
        pending := (t.links.get l).pending
        addressed := (t.links.get l).addressed
        attention := (t.links.get l).attention } ∧
    ∀ k, k ≠ .logAlmostFull →
      hasKind (t.links.get l).pending k = (hasKind (s.links.get l).pending k || given l k)

/-- The kinds delivered between two states, without a word on what else the link records hold (R162, R163). -/
def Given (s t : State) (given : Link → EventKind → Bool) : Prop :=
  ∀ l k, k ≠ .logAlmostFull →
    hasKind (t.links.get l).pending k = (hasKind (s.links.get l).pending k || given l k)

/-- The deliveries of kinds that go by the event map alone (R162). -/
def byMap (s : State) (kinds : List EventKind) (l : Link) (k : EventKind) : Bool :=
  decide (k ∈ kinds) && hasKind (s.settings.eventMap.get l) k

/-- The record that the end of a running procedure writes, if one runs (R153). -/
def endBodies (p : Procedure) (o : ProcedureOutcome) : List LogBody :=
  match p.running? with
  | none => []
  | some (owner, sel) => [.procedure o sel owner]

/-- The deliveries of PROCEDURE_END at the end of a running procedure, if one runs (R153, R162): to the
mapped links, and to the owner but at ABORTED_LINK. -/
def endGiven (s : State) (o : ProcedureOutcome) (l : Link) (k : EventKind) : Bool :=
  match s.runner.procedure.running? with
  | none => false
  | some (owner, _) =>
    decide (k = .procedureEnd) &&
      (hasKind (s.settings.eventMap.get l) .procedureEnd || (decide (l = owner) && decide (o ≠ .abortedLink)))

/-- The runner after the end of a procedure, if one runs (R153). -/
def endedRunner (s : State) (o : ProcedureOutcome) (references : PerSide (Option Nat)) : Runner :=
  match s.runner.procedure.running? with
  | none => s.runner
  | some (owner, sel) =>
    { procedure := .idle
      last :=
        { outcome := o, selection := some sel, owner := some owner, stamp := some s.time.stamp,
          references := references } }

/-- The resolver has recomputed since: its record is what the inputs as they stand give, but for the bypass,
which it decides against its earlier value (R27). -/
def Resolved (t : State) : Prop := ∃ wasOpen, t.op = resolve { t with op := { t.op with bypassOpen := wasOpen } }

/-- A request as a frame can spell it: the target of an unknown CLEAR and the code of an unknown group are
none of the part's. -/
def Request.canonical : Request → Prop
  | .clearUnknown t => 3 < t.toNat
  | .setUnknown c _ => c ≠ thresholdGroup ∧ c ≠ eventMapGroup
  | _ => True

/-! ### The settings table (R44, R71, R72, R93, R114, R128, R135, R165, R181, R182) -/

/-- Every value lies in its range, every threshold in its own, and the related keys stand in their relations. -/
structure Settings.Ok (t : Settings) : Prop where
  range : ∀ k, (keyRange k).1 ≤ t.get k ∧ t.get k ≤ (keyRange k).2
  healthNominal : t.get .healthMin ≤ t.get .nominalFlow
  nominalUnit : t.get .nominalFlow ≤ t.get .unitMax
  healthCap : t.get .healthMin ≤ t.get .overdueCap
  refUnit : t.get .qRef ≤ t.get .unitMax
  dutyOrder : t.get .dutyMin < t.get .dutyMax
  startLow : t.get .dutyMin ≤ t.get .startDuty
  startHigh : t.get .startDuty ≤ t.get .dutyMax
  boostOrder : ∀ z, t.get (.zone z .boostOff) < t.get (.zone z .boostOn)
  dryOrder : t.get .dryOn < t.get .dryOff
  thresholds : ∀ n ∈ t.thresholds.toList, 1 ≤ n ∧ n ≤ 9000

/-- Both groups are such as SET_GROUP accepts: the thresholds rise (R72), and the map gives no link a kind that is
delivered by address alone (R165). -/
structure Settings.GroupsAccepted (t : Settings) : Prop where
  rising : t.thresholds.ordered = true
  byAddress : mapAllowed t.eventMap = true

/-! ### The links (R156, R157, R163, R15) -/

/-- The bytes of a frame so far, as the receive machine can have taken them. -/
def frameOk : List Byte → Prop
  | [] => False
  | [a] => a = frameStart
  | a :: len :: rest => a = frameStart ∧ lengthFits len = true ∧ rest.length ≤ len.toNat

/-- A link record: the attention line is asserted exactly while the pending set is not empty, marks stand
only beside kinds held, at most 4 handles wait, and the frame so far fits the link state. -/
structure LinkRecord.Ok (r : LinkRecord) : Prop where
  attention : r.attention = (r.pending != 0#14)
  marks : r.addressed &&& ~~~r.pending = 0#14
  expired : r.expired.length ≤ expiredLimit
  receiving : r.state = .receiving → frameOk r.frame
  otherwise : r.state ≠ .receiving → r.frame = []

/-! ### The log (R173 to R175) -/

/-- The positions stand in log order with at most 512 records unreleased, the ring holds the newest records
written up to 512, and the accumulators hold fewer than 60 ticks. -/
structure Log.Ok (g : Log) : Prop where
  markCursor : g.mark ≤ g.cursor
  cursorWrite : g.cursor ≤ g.write
  room : g.write ≤ g.mark + 512
  ring : g.ring.length = min g.write 512
  overrun : g.overrun ≤ 65535
  ticks : g.hourly.ticks < 60

/-! ### The damper (R39 to R41) -/

/-- The position is 0 when CLOSED and 90 when OPEN and lies between, and homing goes with CLOSING. -/
structure Damper.Ok (d : Damper) : Prop where
  position : d.position ≤ 90
  closed : d.state = .closed → d.position = 0
  opened : d.state = .opened → d.position = 90
  homing : d.homing = true → d.state = .closing

/-! ### The demand table (R1 to R4, R9, R18) -/

/-- The slots an entry of a source may stand in (R1). -/
def Source.mayUse : Source → Fin 16 → Prop
  | .link _, slot => slot ∈ sharedSlots
  | .zone z, slot => slot = zoneSlot z
  | .dryGuard, slot => slot = drySlot

/-- A live entry: its slot fits its source, its generation is its slot's tag, its level is at most 1200, and
its remaining count lies in 1 to 1440. -/
structure Entry.Ok (t : DemandTable) (e : Entry) : Prop where
  slot : e.source.mayUse e.slot
  gen : e.gen = t.tags.get e.slot
  level : ∀ v, e.want.level? = some v → v ≤ 1200
  remaining : ∀ n, e.remaining = some n → 1 ≤ n ∧ n ≤ 1440

/-- The demand table: each slot holds at most one entry, and no link holds more than 5. -/
structure DemandTable.Ok (t : DemandTable) : Prop where
  distinct : (t.entries.map Entry.slot).Nodup
  each : ∀ e ∈ t.entries, Entry.Ok t e
  holding : ∀ l, t.holding l ≤ 5

/-! ### Zones and their entries (R113, R122) -/

/-- Whether a zone's state calls for a live entry (R122). -/
def ZoneState.holdsEntry : ZoneState → Bool
  | .boosting | .recovering => true
  | .unused | .quiet | .stale => false

/-- A zone holds a live entry in its reserved slot exactly while it is BOOSTING or RECOVERING, and its state is
UNUSED exactly while its type is. -/
structure ZoneOk (s : State) (n : Zone) : Prop where
  entry : s.table.isLive (zoneSlot n) = (s.humidity.zones.get n).state.holdsEntry
  unused : (s.humidity.zones.get n).state = .unused ↔ (s.humidity.zones.get n).zoneType = .unused

/-! ### The sensor bus (R95, R99, R102, R106) -/

/-- The pass-through record of a link against the queue and the transaction in flight (R102). -/
def Bus.passOk (b : Bus) (l : Link) : Prop :=
  match b.pass.get l with
  | .idle | .done _ _ => l ∉ b.passQueue ∧ ∀ x ∈ b.transaction, x.originator ≠ .passThrough l
  | .queued _ => l ∈ b.passQueue ∧ ∀ x ∈ b.transaction, x.originator ≠ .passThrough l
  | .active _ _ => l ∉ b.passQueue ∧ ∃ x ∈ b.transaction, x.originator = .passThrough l

/-- The sensor bus controller: the credit is at most `scan_quota`, each queue holds an entry at most once, at
most seven reply bytes wait, and every pass-through record agrees with the queue and the transaction. -/
structure Bus.Ok (b : Bus) (t : Settings) : Prop where
  credit : b.credit ≤ t.nat .scanQuota
  scanQueue : b.scanQueue.Nodup
  passQueue : b.passQueue.Nodup
  reply : ∀ x ∈ b.transaction, x.reply.length < 8
  pass : ∀ l, b.passOk l

/-! ### The fans (R43, R49, R59) -/

/-- A fan record: its fields lie in the ranges of R43, its phase counter is 0 outside STARTING, STALLED and
RETRYING, and a fan that is STOPPED, STALLED or FAILED drives duty 0. -/
structure FanRecord.Ok (x : FanRecord) : Prop where
  target : x.target ≤ 1200
  duty : x.duty ≤ 1000
  flow : x.flow ≤ 1200
  speed : x.speed ≤ 9990
  shortfallCount : x.shortfallCount ≤ 59
  attempts : x.attempts ≤ 3
  phase : x.phase ≤ 30
  phaseZero : x.state ≠ .starting → x.state ≠ .stalled → x.state ≠ .retrying → x.phase = 0
  lowSpeed : x.lowSpeed ≤ 4
  run : x.run ≤ 60
  probeCount : x.probeCount ≤ 2
  still : x.state = .stopped ∨ x.state = .stalled ∨ x.state = .failed → x.duty = 0
  shortfall : x.state ≠ .running → x.shortfall = false

/-! ### The frost guard (R73) -/

/-- The frost record: its fields lie in the ranges of R73, with r and the preheater's duty within the ranges of
the settings that bound them, as either setting may be lowered below the value held (R71, R84). In THAW neither
count has reached its end. The BLIND phase is present exactly in BLIND, r is 0 in NORMAL, WATCH and PREHEAT, and
three failures stand in LOCKOUT alone. -/
structure FrostRecord.Ok (g : FrostRecord) : Prop where
  f : g.f ≤ 10000
  r : g.r ≤ 1000
  gap : g.gap ≤ 720
  pinned : g.pinned ≤ 180
  elapsed : g.elapsed ≤ 360
  success : g.success ≤ 18
  thawing : g.stage = .thaw → g.elapsed < 360 ∧ g.success < 18
  blindCount : g.blindCount ≤ 360
  duty : g.duty ≤ 1000
  warmth : g.warmth < 360
  blind : g.blindPhase.isSome = (g.stage == .blind)
  balanced : g.stage = .normal ∨ g.stage = .watch ∨ g.stage = .preheat → g.r = 0
  failures : if g.stage = .lockout then g.failures ≤ 3 else g.failures ≤ 2

/-- F as a frost step leaves it in a stage other than NORMAL and BLIND, with T_eha at `v`: the rise of R68 below
`frost_threshold`, or the fall of R69, with 20 more while the extract fan is short of its flow, within 0 to 10000, and
below `thaw_on` while the thaw gap, counted with this step, has not elapsed (R80). -/
def indexAfter (s : State) (v : Int) : Nat :=
  let ice := s.settings.get .frostThreshold
  let ah := if s.humidity.extract.stale then 800 else (s.humidity.extract.last.map Prod.snd).getD 800
  let moved : Int :=
    (if v < ice then (s.frost.record.f : Int) + max 1 ((min (ice - v) 100).toNat * ah / 8000 : Nat)
     else (s.frost.record.f : Int) - max 1 ((min (v - ice) 100).toNat / 4 : Nat))
      + (if (s.fans.get .extract).shortfall then 20 else 0)
  let held := (min (max moved 0) 10000).toNat
  if s.settings.nat .thawGap * 6 ≤ min (s.frost.record.gap + 1) 720 then held
  else min held (s.settings.thresholds.thawOn - 1)

/-! ### The filters (R134, R137) -/

/-- A filter record: its fields lie in the ranges of R134. -/
structure FilterRecord.Ok (x : FilterRecord) : Prop where
  clean : ∀ d, x.kept.clean = some d → 10 ≤ d ∧ d ≤ 5000
  smoothed : ∀ d, x.smoothed = some d → d ≤ 5000
  loading : x.loading ≤ 100
  volume : x.kept.volume ≤ countLimit
  carry : x.carry ≤ 999
  running : x.kept.running ≤ countLimit
  age : x.kept.age ≤ countLimit
  changes : x.kept.changes ≤ 65535
  lifeUsed : x.lifeUsed ≤ 100
  missing : x.missing ≤ 10
  lastGood : ∀ d, x.lastGood = some d → d ≤ 5000

/-! ### The procedure (R145, R151) -/

/-- While a procedure runs the load has ended, the frost stage is NORMAL, WATCH or PREHEAT, no fan is faulted,
and both targets are `q_ref` (R145). -/
def ProcedureClear (s : State) : Prop :=
  s.runner.procedure.isRunning = true →
    s.isLoading = false ∧ s.frost.record.stage.bars = false ∧
    (∀ f, (s.fans.get f).state.faulted = false) ∧
    s.op.s = s.settings.nat .qRef ∧ s.op.e = s.settings.nat .qRef

/-- The phase seconds and the samples of a running procedure (R145, R148). -/
def Procedure.Ok : Procedure → Prop
  | .idle => True
  | .settling _ _ n => n < 90
  | .measuring _ sel n taken =>
    n < 60 ∧ ∀ f, (taken.get f).length = (if sel.has f then n / 10 else 0) ∧ ∀ d ∈ taken.get f, d ≤ 5000

end Sys2Proof.Machine
end

