-- ==== Sys2Proof/WellFormed.lean ====
section
/-! DEFINITION. Which commands carry operands that the manual's events can carry. The machine gives a
meaning to every command; `Instr.wellFormed` marks those whose operands an event at the pins can have. -/

namespace Sys2Proof

/-- A conversion of a pressure transducer is a reading from 0 to 5000 or out of range (R45, R136). -/
def Conversion.wellFormed : Conversion → Bool
  | .reading p => p ≤ 5000
  | .outOfRange => true

/-- The pressure conversions of a control step are in the converter's range. -/
def ControlInputs.wellFormed (i : ControlInputs) : Bool :=
  i.supplyFlow.wellFormed && i.extractFlow.wellFormed
    && i.supplyFilter.wellFormed && i.extractFilter.wellFormed

/-- A kind byte that is none of the request kinds 0x01 to 0x13 of R189. -/
def kindUnknown (kind : Byte) : Bool :=
  kind == 0x00#8 || decide (0x13 < kind.toNat)

/-- Operands as the events of the manual carry them:
* a pressure reading lies in 0 to 5000 (R45, R136);
* a recovering temperature probe reads within −400 to +850 (R64);
* an unknown request kind is none of R189's, and its payload has at most 48 bytes (R157);
* the read-back of a written image, when the write was acknowledged, has the 315 bytes of R193. -/
def Instr.wellFormed : Instr → Bool
  | .controlStep inp => inp.wellFormed
  | .flowProbeRecover _ p => p ≤ 5000
  | .filterProbeRecover _ p => p ≤ 5000
  | .tempProbeRecover _ t => decide (-400 ≤ t) && decide (t ≤ 850)
  | .unknownRequestKind _ _ kind payload => kindUnknown kind && payload.length ≤ 48
  | .imageWriteEnd acked readBack => !acked || readBack.length == 315
  | .powerOn | .loadEnd _ | .fanRunningEntry _ | .fanStall _ | .fanRetryStart _ | .fanRetryEnd _
  | .shortfallSet _ | .shortfallCleared _ | .attemptCountReset _ | .flowProbeFault _
  | .tempProbeFault _ | .preheaterBurstOff | .filterProbeFault _ | .frostStep | .thawSuccess
  | .thawTimeout | .thawGapElapsed | .lockoutRelease | .blindPhaseEnd | .travelSecond
  | .damperTravelEnd | .minuteTick | .entryExpiry | .hourlyRecord | .boostRebaseline _
  | .filterFieldsHandover | .filterStep | .procedureSecond | .flowCheck | .procedureSample
  | .scanRound | .requestSent | .busReply _ | .busFramingError | .busReplyTimeout
  | .sensorStale _ | .frameGapTimeout _ | .frameDiscarded _ _ | .replySent _ | .linkReset _
  | .breakEnd _ | .status _ _ | .events _ _ | .post _ _ _ _ _ | .withdraw _ _ _ | .list _ _ _
  | .getKey _ _ _ | .setKey _ _ _ _ | .setGroupFrostThresholds _ _ _ | .setGroupEventMap _ _ _
  | .start _ _ _ | .abort _ _ | .procedure _ _ | .clearFan _ _ _ | .clearFrostLockout _ _
  | .clearPreheater _ _ | .time _ _ _ | .probe _ _ _ _ _ | .fetch _ _ | .logRead _ _ _
  | .logRelease _ _ _ | .logRewind _ _ | .recent _ _ _ | .writeBehindStart
  | .linkByteReceived _ _ | .busReplyByte _ | .tachPulse _ => true

end Sys2Proof
end

