-- ==== Sys2Proof/Certificates/Slice0/Obligations.lean ====
section
/-! DEFINITION. The statements for the provers, each a rule of the manual, or an invariant that follows from
its rules, said of `exec` or `step`. -/

section

open Sys2Proof Sys2Proof.Machine

/-! ### The step -/

/-- A step takes the command at the front of the queue, with the queue's rest left waiting. -/
def Obligations.StepTakesTheFrontCommand : Prop :=
  ∀ (c : Instr) (rest : List Instr) (s : State), s.pending = c :: rest →
    step s = exec c { s with pending := rest }

/-- On an empty queue the part counts one second: the seconds count of R166, the round count of R98 and the
quiet count of R184. That a step on an empty queue is a second is the model's choice (assumption 2). -/
def Obligations.EmptyQueueCountsOneSecond : Prop :=
  ∀ s : State, s.pending = [] → ∃ t, step s = .next t ∧ t.pending = [] ∧
    t.time = (if s.time.seconds < 59 then { s.time with seconds := s.time.seconds + 1 }
      else { s.time with minutes := s.time.minutes + 1#32, seconds := 0 }) ∧
    (s.isLoading = true → t.bus = s.bus) ∧
    (s.isLoading = false →
      t.bus.roundCount = if s.settings.nat .scanPeriod ≤ s.bus.roundCount + 1 then 0 else s.bus.roundCount + 1) ∧
    (s.store.changed = false → s.time.seconds < 59 → t.store = s.store) ∧
    (s.store.changed = true → s.time.seconds < 59 → s.store.writing = true →
      t.store = { s.store with quiet := min (s.store.quiet + 1) 5 }) ∧
    (s.store.changed = true → s.time.seconds < 59 → s.store.writing = false →
      t.store.quiet = min (s.store.quiet + 1) 5 ∧
      t.store.writing = (s.store.urgent || decide (4 ≤ s.store.quiet)))

/-- Every command answers a next state, and leaves the queue as it found it. -/
def Obligations.EveryCommandAnswersAndKeepsTheQueue : Prop :=
  ∀ (c : Instr) (s : State), ∃ t, exec c s = .next t ∧ t.pending = s.pending

/-! ### Invariants -/

/-- R181, R182, R183: every value of the settings table lies in its range, every threshold in 1 to 9000, and the
related keys stand in their relations, after every step from a state where they do. R72, R165: both groups are such as
SET_GROUP accepts after every step from a state where they are, unless the step is the end of a load whose image holds
another group, which is installed as it stands (assumption 18). -/
def Obligations.SettingsStayInRangeAndRelation : Prop :=
  (∀ s t : State, s.settings.Ok → step s = .next t → t.settings.Ok) ∧
  (∀ s t : State, s.settings.GroupsAccepted →
    (∀ r rest, s.pending = .loadEnd r :: rest → (loadedFrom r).settings.GroupsAccepted) →
    step s = .next t → t.settings.GroupsAccepted)

/-- R163 and its kin: a link's attention line is asserted exactly while its pending set is not empty, marks
stand beside kinds held, at most 4 handles wait, and the frame so far fits the link state, after every step
from a state where it is so. -/
def Obligations.LinkRecordsStayConsistent : Prop :=
  ∀ s t : State, (∀ l, (s.links.get l).Ok) → step s = .next t → ∀ l, (t.links.get l).Ok

/-- R173: the mark never passes the cursor and the cursor never passes the write position, and at most 512
records lie unreleased, after every step from a state where it is so. -/
def Obligations.LogPositionsStayInOrder : Prop :=
  ∀ s t : State, s.log.Ok → step s = .next t → t.log.Ok

/-- R1 to R4: the demand table stays well formed: one entry a slot, in the slots of its source, with its
slot's generation, and at most 5 entries a link. -/
def Obligations.DemandTableStaysWellFormed : Prop :=
  ∀ s t : State, s.table.Ok → step s = .next t → t.table.Ok

/-- R122: a zone holds a live entry in its own reserved slot exactly while it is BOOSTING or RECOVERING.
Until the load ends the table is empty and the line is released (R24, R109). -/
def Obligations.ZonesHoldTheirEntries : Prop :=
  ∀ s t : State, s.table.Ok → (∀ n, ZoneOk s n) →
    (s.isLoading = true → s.table.entries = [] ∧ s.bus.transaction = none) →
    step s = .next t →
    (∀ n, ZoneOk t n) ∧ (t.isLoading = true → t.table.entries = [] ∧ t.bus.transaction = none)

/-- R95, R99, R102, R106: the sensor bus controller's queues, credit, pass-through records and transaction
stay in agreement. -/
def Obligations.SensorBusStaysConsistent : Prop :=
  ∀ s t : State, s.bus.Ok s.settings → step s = .next t → t.bus.Ok t.settings

/-- R43, R49, R59: both fan records stay within the ranges of R43, the phase counter is 0 outside STARTING, STALLED
and RETRYING, and a fan that is STOPPED, STALLED or FAILED drives duty 0; and both targets of the operating point
stay within the 0 to 1200 of R25. R39, R41: the damper's position stays within 0 to 90 and agrees with its state. -/
def Obligations.FanAndDamperRecordsStayInRange : Prop :=
  (∀ s t : State, s.settings.Ok → s.op.s ≤ 1200 → s.op.e ≤ 1200 → (∀ f, (s.fans.get f).Ok) → step s = .next t →
    (∀ f, (t.fans.get f).Ok) ∧ t.op.s ≤ 1200 ∧ t.op.e ≤ 1200) ∧
  (∀ s t : State, s.damper.Ok → step s = .next t → t.damper.Ok)

/-- R73, R77, R78: the frost record stays within the ranges of R73: every count within its own, F within 0 to 10000,
and the ratio and the preheater's duty within the 0 to 1000 that their settings admit. In THAW neither thaw count
stands at its end, r is 0 in NORMAL, WATCH and PREHEAT, and the BLIND phase is present exactly in BLIND. -/
def Obligations.FrostRecordStaysInRange : Prop :=
  ∀ s t : State, s.settings.Ok → s.frost.record.Ok → step s = .next t → t.frost.record.Ok

/-- R134, R137, R145: both filter records stay within the ranges of R134, and a running procedure's seconds
and samples within those of R145. -/
def Obligations.FilterRecordsStayInRange : Prop :=
  ∀ s t : State, (∀ f, (s.filters.records.get f).Ok) → s.runner.procedure.Ok → step s = .next t →
    (∀ f, (t.filters.records.get f).Ok) ∧ t.runner.procedure.Ok

/-- R145: a procedure in SETTLING or MEASURING stands with the frost stage NORMAL, WATCH or PREHEAT, no fan
faulted, and both targets equal to `q_ref`. -/
def Obligations.RunningProcedureStandsClear : Prop :=
  ∀ s t : State, ProcedureClear s → step s = .next t → ProcedureClear t

/-- The state after power-on meets every invariant above. -/
def Obligations.ResetMeetsTheInvariants : Prop :=
  State.reset.settings.Ok ∧ State.reset.settings.GroupsAccepted ∧ (∀ l, (State.reset.links.get l).Ok) ∧ State.reset.log.Ok ∧
    State.reset.damper.Ok ∧ State.reset.table.Ok ∧ (∀ n, ZoneOk State.reset n) ∧
    State.reset.bus.Ok State.reset.settings ∧ (∀ f, (State.reset.fans.get f).Ok) ∧
    State.reset.frost.record.Ok ∧ (∀ f, (State.reset.filters.records.get f).Ok) ∧
    State.reset.runner.procedure.Ok ∧ ProcedureClear State.reset ∧
    State.reset.table.entries = [] ∧ State.reset.bus.transaction = none ∧
    State.reset.op.s ≤ 1200 ∧ State.reset.op.e ≤ 1200

/-- R36: the targets of a recompute, with the settings in their relations: the supply target never exceeds the
extract target, which never exceeds it by more than `max_depressurisation` nor exceeds `unit_max`; the supply
target is 0 in THAW, LOCKOUT and BLIND's thaw phase with no procedure running, and while the extract fan is
faulted. R32 to R35: S and E are `q_ref` in a procedure and else W shaped by the frost stage and limited by
`max_depressurisation`, then cut by the fan faults, with the flag of each stage that altered them. -/
def Obligations.TargetsStandInRelation : Prop :=
  (∀ s : State, s.settings.Ok →
    (resolve s).s ≤ (resolve s).e ∧
    (resolve s).e ≤ (resolve s).s + s.settings.nat .maxDepressurisation ∧
    (resolve s).e ≤ s.settings.nat .unitMax ∧
    (s.runner.procedure.isRunning = false →
      s.frost.record.stage = .thaw ∨ s.frost.record.stage = .lockout ∨
        (s.frost.record.stage = .blind ∧ s.frost.record.blindPhase = some .thaw) → (resolve s).s = 0) ∧
    ((s.fans.get .extract).state = .stalled ∨ (s.fans.get .extract).state = .retrying ∨
      (s.fans.get .extract).state = .failed → (resolve s).s = 0)) ∧
  (∀ (s : State) (o : OperatingPoint) (g : FrostRecord) (limit s6 e6 : Nat) (runs held shaped : Bool)
      (faulted : Side → Bool),
    o = resolve s → g = s.frost.record → limit = s.settings.nat .maxDepressurisation →
    runs = decide (s.runner.procedure ≠ .idle) →
    held = decide (g.stage = .thaw ∨ g.stage = .lockout ∨ (g.stage = .blind ∧ g.blindPhase = some .thaw)) →
    shaped = decide (g.stage = .unbalance ∨ (g.stage = .blind ∧ g.blindPhase ≠ some .thaw)) →
    (∀ f, faulted f = decide ((s.fans.get f).state = .stalled ∨ (s.fans.get f).state = .retrying ∨
      (s.fans.get f).state = .failed)) →
    s6 = (if runs then s.settings.nat .qRef else if held then 0
      else if shaped then o.w * (1000 - g.r) / 1000 else o.w) →
    e6 = (if runs then s.settings.nat .qRef else min o.w (s6 + limit)) →
    o.s = (if faulted .supply || faulted .extract then 0 else s6) ∧
    o.e = (if faulted .extract then 0 else if faulted .supply then min e6 limit else e6) ∧
    o.flags.procedure = runs ∧ o.flags.frostUnbalance = (!runs && shaped) ∧ o.flags.frostThaw = (!runs && held) ∧
    o.flags.depressurisation = (!runs && decide (s6 + limit < o.w)) ∧
    o.flags.supplyFault = faulted .supply ∧ o.flags.extractFault = faulted .extract)

/-- R28: the background B is the smaller of `nominal_flow` and the highest SETBACK level, at least `health_min`, with
its two flags. R29 to R31: the wanted flow of a recompute is the largest of the background and the live RAISE levels,
lowered by `unit_max` and, when a filter is OVERDUE or BLOCKED, by `overdue_cap`, with a flag for each that lowers
it; and it lies between `health_min` and `unit_max`. The contributing handle is that of the oldest entry at the level
that decides: a RAISE above B, or else the SETBACK that set B; and absent where neither does. -/
def Obligations.WantedFlowFollowsTheEntries : Prop :=
  (∀ (s : State) (capped : Bool), s.settings.Ok →
    capped = decide ((s.filters.records.get .supply).state = .overdue ∨
      (s.filters.records.get .supply).state = .blocked ∨ (s.filters.records.get .extract).state = .overdue ∨
      (s.filters.records.get .extract).state = .blocked) →
    ∀ top : Nat,
    (∀ e ∈ s.table.entries, ∀ v, e.want = .raise v → v ≤ top) →
    (resolve s).b ≤ top →
    ((resolve s).b = top ∨ ∃ e ∈ s.table.entries, e.want = .raise top) →
    (resolve s).w =
      (if capped then min (min top (s.settings.nat .unitMax)) (s.settings.nat .overdueCap)
       else min top (s.settings.nat .unitMax)) ∧
    (resolve s).flags.unitMax = decide (s.settings.nat .unitMax < top) ∧
    (resolve s).flags.filterCap =
      (capped && decide (s.settings.nat .overdueCap < min top (s.settings.nat .unitMax))) ∧
    s.settings.nat .healthMin ≤ (resolve s).w ∧ (resolve s).w ≤ s.settings.nat .unitMax) ∧
  (∀ (s : State) (es : List Entry) (o : OperatingPoint), es = s.table.entries → o = resolve s →
    ((∀ e ∈ es, ∀ v, e.want ≠ .setback v) →
      o.b = max (s.settings.nat .nominalFlow) (s.settings.nat .healthMin) ∧ o.flags.setbackApplied = false ∧
      o.flags.healthMin = decide (s.settings.nat .nominalFlow < s.settings.nat .healthMin) ∧
      ((∀ e ∈ es, ∀ v, e.want = .raise v → v ≤ o.b) → o.contributing = none)) ∧
    (∀ level, (∀ e ∈ es, ∀ v, e.want = .setback v → v ≤ level) →
      ∀ older e newer, es = older ++ e :: newer → e.want = .setback level →
      (∀ x ∈ older, x.want ≠ .setback level) →
      o.b = max (min level (s.settings.nat .nominalFlow)) (s.settings.nat .healthMin) ∧
      o.flags.setbackApplied = decide (level < s.settings.nat .nominalFlow) ∧
      o.flags.healthMin = decide (min level (s.settings.nat .nominalFlow) < s.settings.nat .healthMin) ∧
      ((∀ x ∈ es, ∀ v, x.want = .raise v → v ≤ o.b) →
        o.contributing =
          if o.flags.setbackApplied = true ∧ o.flags.healthMin = false then some (e.slot.val * 16 + e.gen.val)
          else none)) ∧
    (∀ level, o.b < level → (∀ e ∈ es, ∀ v, e.want = .raise v → v ≤ level) →
      ∀ older e newer, es = older ++ e :: newer → e.want = .raise level →
      (∀ x ∈ older, x.want ≠ .raise level) → o.contributing = some (e.slot.val * 16 + e.gen.val)))

/-! ### Encodings -/

/-- R189: the kind code and the payload of every request are read back as that request. -/
def Obligations.RequestsReadBackFromTheirBytes : Prop :=
  ∀ r : Request, r.canonical → parseRequest r.kind r.payload = .request r

/-- R157, R188: the bytes of a request frame, received one after the other on a LISTENING link, take exactly
that request at the last byte. -/
def Obligations.FrameBytesTakeTheRequest : Prop :=
  ∀ (s : State) (l : Link) (tag : Byte) (r : Request), r.canonical →
    (s.links.get l).state = .listening →
    ∃ frame, receiveAll l (frameBytes tag r.kind r.payload) s =
      .next (reply l tag r.kind
        (serve (setLink s l { s.links.get l with state := .receiving, frame := frame }) l r)) ∧
      frame ++ [crc8 (frameBody tag r.kind r.payload)] = frameBytes tag r.kind r.payload

/-- R183, R193: an image written from a table in range and relation is good, and the load that reads it back
installs the same table and the same filter fields. -/
def Obligations.ImageReadsBack : Prop :=
  ∀ (t : Settings) (f : PerSide Persisted), t.Ok →
    (∀ side, (∀ d, (f.get side).clean = some d → 10 ≤ d ∧ d ≤ 5000) ∧ (f.get side).volume ≤ countLimit ∧
      (f.get side).running ≤ countLimit ∧ (f.get side).age ≤ countLimit ∧ (f.get side).changes ≤ 65535) →
    (imageBytes t f).length = 315 ∧
    loadedFrom (.bytes (imageBytes t f)) = { settings := t, persisted := f, outcome := .image }

/-! ### Power-on, the load and the settings image -/

/-- R183 and the power-on rules of the chapters: power-on gives the reset state, with the store LOADING, the
default settings, an empty table, a log that holds the POWER_UP record alone, both targets 0 and every link
LISTENING with nothing pending. The queue and the count of free values are the model's own (assumption 5). -/
def Obligations.PowerOnResetsEveryBlock : Prop :=
  ∀ s : State, ∃ t, exec .powerOn s = .next t ∧
    t = { State.reset with pending := s.pending, freeCount := s.freeCount } ∧
    t.store.state = .loading ∧ t.settings = defaultSettings ∧ t.table.entries = [] ∧
    t.log.ring = [{ stamp := { minutes := 0#32, unsynced := true }, body := .powerUp none }] ∧
    t.log.write = 1 ∧ t.log.mark = 0 ∧ t.log.cursor = 0 ∧ t.op.s = 0 ∧ t.op.e = 0 ∧
    ∀ l, (t.links.get l).state = .listening ∧ (t.links.get l).pending = 0#14

/-- R180, R183, R186: at the end of the load the table is installed, the store state leaves LOADING and the POWER_UP
record receives its outcome; the filter records are filled and their states decided, with no event and no record; the
zones are set up from their types; the first recompute is taken; the credit is `scan_quota` and the first scan round
starts its first sensor; and the step counts start. A defaulted load raises STORE_STATE and marks the image changed.
An EEPROM that does not acknowledge, another version, or a CRC that does not match gives the default of every key and
group, no clean reference and every counter 0. A good image gives a table in range and relation: each key that has no
related key and each threshold is its field clamped to its range, and the event map is the image's. Three points are
the model's own: that a read of another length than 315 is a bad image (assumption 9), that the pending sets are first
brought under the loaded map (assumption 27), and that a group of a good image is installed though SET_GROUP would
refuse it (assumption 18). Bits 3 to 7 of a map byte are disregarded (assumption 16), and four keys are signed
(assumption 14). -/
def Obligations.LoadEndHandsTheTableOn : Prop :=
  (∀ (r : ImageRead) (s : State) (x : Loaded), s.isLoading = true → x = loadedFrom r →
      ∃ t, exec (.loadEnd r) s = .next t ∧
      t.settings = x.settings ∧
      t.store.state = (if x.outcome = .image then .ok else .defaulted) ∧
      (t.store.changed = (s.store.changed || decide (x.outcome = .defaulted))) ∧
      t.log =
        { s.log with
          ring := s.log.ring.map fun e =>
            if e.body = .powerUp none then { e with body := .powerUp (some x.outcome) } else e
          hourly := Hourly.reset } ∧
      (∀ l k, hasKind (t.links.get l).pending k =
        ((hasKind (s.links.get l).pending k &&
            (hasKind (x.settings.eventMap.get l) k || hasKind (s.links.get l).addressed k)) ||
          (decide (x.outcome = .defaulted ∧ k = .storeState) && hasKind (x.settings.eventMap.get l) k))) ∧
      (x.outcome = .defaulted → ∀ l, hasKind (t.links.get l).pending .storeState = true) ∧
      (∀ f y, t.filters.records.get f = y →
        y.kept = x.persisted.get f ∧ y.smoothed = none ∧ y.loading = 0 ∧ y.carry = 0 ∧ y.missing = 0 ∧
        y.lifeUsed =
          min 100 (max (y.kept.volume * 100 / x.settings.nat .lifeVolume)
            (y.kept.age * 100 / (x.settings.nat .maxAge * 1440))) ∧
        y.state =
          (if 100 ≤ y.lifeUsed then .overdue
           else if x.settings.nat .dueLevel ≤ y.lifeUsed then .due
           else if 50 ≤ y.lifeUsed then .loading
           else .clean)) ∧
      (∀ n, t.humidity.zones.get n = ZoneRecord.ofType (x.settings.zoneType n)) ∧
      t.store.persisted = x.persisted ∧ t.store.loadedAs = x.outcome ∧ Resolved t ∧ t.frost.steps = 0 ∧ t.filters.steps = 0 ∧ t.filters.hourTicks = 0 ∧
      (s.bus.transaction = none → s.bus.scanQueue = [] → s.bus.passQueue = [] →
        ∀ n rest,
          n :: rest =
            (if x.settings.zoneType .z1 = .unused then [] else [Sensor.zone .z1])
            ++ (if x.settings.zoneType .z2 = .unused then [] else [.zone .z2])
            ++ (if x.settings.zoneType .z3 = .unused then [] else [.zone .z3])
            ++ (if x.settings.zoneType .z4 = .unused then [] else [.zone .z4]) ++ [.extract] →
          t.bus =
            { s.bus with
              credit := x.settings.nat .scanQuota
              roundCount := 0
              scanQueue := rest
              transaction := some
                { originator := .scanner n
                  request :=
                    { address := x.settings.nat
                        (match n with | .zone z => .zone z .address | .extract => .extractAddress)
                      command := .sample
                      register := 0 }
                  phase := .sending
                  reply := [] } }) ∧
      t = { s with
        store := t.store, links := t.links, log := t.log, filters := t.filters, humidity := t.humidity,
        op := t.op, damper := t.damper, bus := t.bus, frost := { s.frost with steps := 0 } }) ∧
  (∀ bs : List Byte,
      (bs.length ≠ 315 ∨ bs.getD 0 0#8 ≠ 0x01#8 ∨
        crc16 (bs.take 313) ≠ bs.getD 313 0#8 ++ bs.getD 314 0#8) →
      ∀ r, r = .notAcknowledged ∨ r = .bytes bs →
        loadedFrom r =
          { settings := defaultSettings, persisted := ⟨Persisted.reset, Persisted.reset⟩, outcome := .defaulted }) ∧
  (∀ (bs : List Byte) (x : Loaded), bs.length = 315 → bs.getD 0 0#8 = 0x01#8 →
      crc16 (bs.take 313) = bs.getD 313 0#8 ++ bs.getD 314 0#8 → x = loadedFrom (.bytes bs) →
      x.outcome = .image ∧ x.settings.Ok ∧
      (∀ (i : Nat) (k : Key) (w : Word), allKeys[i]? = some k → k ∉ relatedKeys →
        w = bs.getD (1 + 4 * i) 0#8 ++ bs.getD (2 + 4 * i) 0#8 ++ bs.getD (3 + 4 * i) 0#8 ++ bs.getD (4 + 4 * i) 0#8 →
        x.settings.get k =
          min (max (if signedKey k then w.toInt else (w.toNat : Int)) (keyRange k).1) (keyRange k).2) ∧
      (∀ i n, x.settings.thresholds.toList[i]? = some n →
        n = min (max ((bs.getD (253 + 2 * i) 0#8).toNat * 256 + (bs.getD (254 + 2 * i) 0#8).toNat) 1) 9000) ∧
      (∀ l k, hasKind (x.settings.eventMap.get l) k =
        (bs.getD (267 + kindIndex k) 0#8).getLsbD (match l with | .panel => 0 | .heating => 1 | .service => 2)))

/-- R184, R185: when no write runs, the changed flag is set, and the urgent flag is set or the quiet count is 5, a
write of the whole image as it stands starts. A write that fails leaves the store state FAULT and raises
STORE_STATE; one that succeeds in FAULT returns the state to its value at the end of the load and raises
STORE_STATE; one that succeeds otherwise leaves the state. The writing flag is cleared and the other flags stay. -/
def Obligations.WriteBehindWritesTheImage : Prop :=
  (∀ s : State, s.store.writing = false → s.store.changed = true →
      s.store.urgent = true ∨ s.store.quiet = 5 →
      exec .writeBehindStart s = .next { s with store :=
        { s.store with
          changed := false
          urgent := false
          writing := true
          image := imageBytes s.settings s.store.persisted } }) ∧
  (∀ (acked : Bool) (readBack : List Byte) (s : State), s.store.writing = true →
      ∃ t, exec (.imageWriteEnd acked readBack) s = .next t ∧
        t.store =
          { s.store with
            writing := false
            image := []
            state :=
              if acked = true ∧ readBack = s.store.image then
                (if s.store.state = .fault then loadedState s.store.loadedAs else s.store.state)
              else .fault } ∧
        Delivered s t (byMap s
          (if acked = true ∧ readBack = s.store.image ∧ s.store.state ≠ .fault then [] else [.storeState])) ∧
        t = { s with store := t.store, links := t.links })

/-! ### The control step -/

/-- R47, R49: at each control step each fan's target field is set from the operating point as it stands, S
for the supply fan and E for the extract fan; the speed is the pulse count times 30, at most 9990, and a new
count begins; and nothing but the blocks that act at a control step and those they tell changes. That the extract
fan takes the E from before the step, also where the supply fan's change of state leads to a recompute within it, is
the model's choice (assumptions 4 and 7). -/
def Obligations.ControlStepTakesTargetsAndSpeeds : Prop :=
  ∀ (s : State) (inp : ControlInputs), ∃ t, exec (.controlStep inp) s = .next t ∧
    (t.fans.get .supply).target = s.op.s ∧ (t.fans.get .extract).target = s.op.e ∧
    (∀ f, (t.fans.get f).speed = min ((s.fans.get f).pulses * 30) 9990 ∧ (t.fans.get f).pulses = 0) ∧
    t = { s with
      fans := t.fans, frost := t.frost, filters := t.filters, op := t.op, damper := t.damper,
      runner := t.runner, links := t.links, log := t.log }

/-- R46, R48, R53: the flow probe at a control step. `p` is the conversion of the fan's own probe. -/
def Obligations.ControlStepJudgesTheFlowProbe : Prop :=
  ∀ (s : State) (inp : ControlInputs) (f : Side) (x : FanRecord) (p : Conversion), s.fans.get f = x →
    p = (match f with | .supply => inp.supplyFlow | .extract => inp.extractFlow) →
    ∃ t, exec (.controlStep inp) s = .next t ∧
      (∀ dp, p = .reading dp → dp ≤ 5000 → x.probeFault = false →
        (t.fans.get f).probeFault = false ∧
        ∃ root, root * root ≤ dp * 100 ∧ dp * 100 < (root + 1) * (root + 1) ∧
          (t.fans.get f).flow = min (s.settings.nat (ringKey f) * root / 1000) 1200) ∧
      (p = .outOfRange → x.probeFault = false →
        (t.fans.get f).flow = x.flow ∧ (t.fans.get f).probeFault = decide (2 ≤ x.probeCount)) ∧
      (p = .outOfRange → x.probeFault = true →
        (t.fans.get f).flow = x.flow ∧ (t.fans.get f).probeFault = true ∧ (t.fans.get f).probeCount = 0) ∧
      (∀ dp, p = .reading dp → dp ≤ 5000 → x.probeFault = true → x.probeCount < 2 →
        (t.fans.get f).flow = x.flow ∧ (t.fans.get f).probeFault = true ∧
          (t.fans.get f).probeCount = x.probeCount + 1) ∧
      (∀ dp, p = .reading dp → dp ≤ 5000 → x.probeFault = true → 2 ≤ x.probeCount →
        (t.fans.get f).flow = flowOf (s.settings.nat (ringKey f)) dp ∧ (t.fans.get f).probeFault = false ∧
          (t.fans.get f).probeCount = 0) ∧
      ((t.fans.get f).probeFault = true → (t.fans.get f).band = x.band) ∧
      ((t.fans.get f).probeFault = false →
        (t.fans.get f).band =
          if (t.fans.get f).flow + max ((t.fans.get f).target / 10) 10 < (t.fans.get f).target then .below
          else if (t.fans.get f).target + max ((t.fans.get f).target / 10) 10 < (t.fans.get f).flow then .above
          else .inBand)

/-- R49, R51, R52, R55: a RUNNING fan with a target above 0 that does not stall stays RUNNING, and its duty
moves by the closed-loop step, or with its flow probe faulted takes the open-loop value. R54: its shortfall counter
counts the steps at full duty below band towards the flag, and with the flag set those in band towards its clearing;
a flow-probe fault that begins clears both. `w` is its target, which for the extract fan is the E from before the step,
also where the supply fan's change of state leads to a recompute within it: the model's choice (assumption 4). -/
def Obligations.RunningFanSetsItsDuty : Prop :=
  ∀ (s : State) (inp : ControlInputs) (f : Side) (x : FanRecord) (w : Nat), s.fans.get f = x →
    w = (match f with | .supply => s.op.s | .extract => s.op.e) →
    x.state = .running → 0 < w →
    200 ≤ x.pulses * 30 ∨ x.duty < s.settings.nat .dutyMin ∨ x.lowSpeed < 4 →
    ∃ t, exec (.controlStep inp) s = .next t ∧ (t.fans.get f).state = .running ∧
      ((t.fans.get f).probeFault = true →
        (t.fans.get f).duty =
          min (max (s.settings.nat .dutyMin
            + (s.settings.nat .dutyMax - s.settings.nat .dutyMin) * w / s.settings.nat .unitMax)
            (s.settings.nat .dutyMin)) (s.settings.nat .dutyMax)) ∧
      ((t.fans.get f).probeFault = false →
        ∃ change : Int,
          ((t.fans.get f).duty : Int) =
            (min (max ((x.duty : Int) + change) (s.settings.get .dutyMin)) (s.settings.get .dutyMax)).toNat ∧
          (-(s.settings.get .deadband) ≤ (w : Int) - (t.fans.get f).flow ∧
              (w : Int) - (t.fans.get f).flow ≤ s.settings.get .deadband → change = 0) ∧
          (¬(-(s.settings.get .deadband) ≤ (w : Int) - (t.fans.get f).flow ∧
              (w : Int) - (t.fans.get f).flow ≤ s.settings.get .deadband) →
            ∀ moved : Int,
              moved = min (max ((((w : Int) - (t.fans.get f).flow) * s.settings.get .loopGain).tdiv 64)
                (-(s.settings.get .stepMax))) (s.settings.get .stepMax) →
              change = if moved = 0 then (if 0 < (w : Int) - (t.fans.get f).flow then 1 else -1) else moved)) ∧
      ∀ y, t.fans.get f = y →
        (y.probeFault = true →
          y.shortfall = (x.shortfall && x.probeFault) ∧
          y.shortfallCount = if x.probeFault = true then x.shortfallCount else 0) ∧
        (y.probeFault = false → x.shortfall = false →
          (y.duty = s.settings.nat .dutyMax ∧ y.band = .below →
            (x.shortfallCount < 59 → y.shortfall = false ∧ y.shortfallCount = x.shortfallCount + 1) ∧
            (59 ≤ x.shortfallCount → y.shortfall = true ∧ y.shortfallCount = 0)) ∧
          (¬(y.duty = s.settings.nat .dutyMax ∧ y.band = .below) → y.shortfall = false ∧ y.shortfallCount = 0)) ∧
        (y.probeFault = false → x.shortfall = true →
          (y.band = .inBand → x.shortfallCount < 9 →
            y.shortfall = true ∧ y.shortfallCount = x.shortfallCount + 1) ∧
          (y.band = .inBand → 9 ≤ x.shortfallCount → y.shortfall = false ∧ y.shortfallCount = 0) ∧
          (y.band ≠ .inBand → y.shortfall = true ∧ y.shortfallCount = 0))

/-- R49: the rows of the state table that a control step takes from a state other than RUNNING, and the row
of a RUNNING fan whose target is 0. `x` is the fan's record and `w` its target, which for the extract fan is the E from
before the step, also where the supply fan's change of state leads to a recompute within it: the model's choice
(assumption 4). -/
def Obligations.ControlStepFollowsTheFanTable : Prop :=
  ∀ (s : State) (inp : ControlInputs) (f : Side) (x : FanRecord) (w : Nat), s.fans.get f = x →
    w = (match f with | .supply => s.op.s | .extract => s.op.e) →
    ∃ t, exec (.controlStep inp) s = .next t ∧ ∀ y, t.fans.get f = y →
      (x.state = .stopped → w = 0 → y.state = .stopped ∧ y.duty = 0) ∧
      (x.state = .stopped → 0 < w → y.state = .starting ∧ y.duty = s.settings.nat .startDuty ∧ y.phase = 5) ∧
      (x.state = .starting → w = 0 → y.state = .stopped ∧ y.duty = 0 ∧ y.phase = 0) ∧
      (x.state = .starting → 0 < w → 1 < x.phase →
        y.state = .starting ∧ y.duty = s.settings.nat .startDuty ∧ y.phase = x.phase - 1) ∧
      (x.state = .starting → 0 < w → x.phase = 1 → y.state = .running ∧ y.phase = 0 ∧ y.run = 1) ∧
      (x.state = .running → w = 0 → y.state = .stopped ∧ y.duty = 0 ∧ y.run = 0 ∧ y.shortfall = false) ∧
      (x.state = .running → 0 < w → x.pulses * 30 < 200 → s.settings.nat .dutyMin ≤ x.duty →
        x.lowSpeed = 4 → y.state = .stalled ∧ y.duty = 0 ∧ y.phase = 30 ∧ y.run = 0 ∧ y.shortfall = false) ∧
      (x.state = .stalled → 1 < x.phase → y.state = .stalled ∧ y.duty = 0 ∧ y.phase = x.phase - 1) ∧
      (x.state = .stalled → x.phase = 1 →
        y.state = .retrying ∧ y.duty = s.settings.nat .startDuty ∧ y.phase = 5) ∧
      (x.state = .retrying → 1 < x.phase →
        y.state = .retrying ∧ y.duty = s.settings.nat .startDuty ∧ y.phase = x.phase - 1) ∧
      (x.state = .retrying → x.phase = 1 → 200 ≤ x.pulses * 30 →
        y.state = .stopped ∧ y.duty = 0 ∧ y.phase = 0 ∧ y.attempts = x.attempts) ∧
      (x.state = .retrying → x.phase = 1 → x.pulses * 30 < 200 → x.attempts < 3 →
        y.state = .stalled ∧ y.duty = 0 ∧ y.phase = 30 ∧ y.attempts = x.attempts + 1) ∧
      (x.state = .retrying → x.phase = 1 → x.pulses * 30 < 200 → x.attempts = 3 →
        y.state = .failed ∧ y.duty = 0 ∧ y.phase = 0 ∧ y.attempts = 3) ∧
      (x.state = .failed → y.state = .failed ∧ y.duty = 0)

/-- R64, R65, R136: the airstream probes and the filter probes at a control step: a good read of a probe that is not
faulted sets its value, a third bad read in a row makes it faulted with its value held, and a third good read in a
row ends the fault. `v` and `p` are the probe's own conversion. R66: the five bypass truths are then judged on the
values as they stand, held or not, and the resolver has a notice when any of them differs from the step before; with
none that differs, and no change of a fan's state, there is no recompute. The order of the step's blocks is the
model's choice (assumption 4). -/
def Obligations.ControlStepReadsTheProbes : Prop :=
  (∀ (s : State) (inp : ControlInputs) (n : AirProbe) (p : ProbeRecord) (v : Int), s.frost.probes.get n = p →
      v = (match n with | .oda => inp.oda | .sup => inp.sup | .eta => inp.eta | .eha => inp.eha) →
      ∃ t, exec (.controlStep inp) s = .next t ∧ ∀ q, t.frost.probes.get n = q →
        (-400 ≤ v ∧ v ≤ 850 → (∀ held, p.status ≠ .faulted held) → q = { status := .good v, reads := 0 }) ∧
        (¬(-400 ≤ v ∧ v ≤ 850) → (∀ held, p.status ≠ .faulted held) → p.reads < 2 →
          q = { p with reads := p.reads + 1 }) ∧
        (¬(-400 ≤ v ∧ v ≤ 850) → p.status = .noValue → p.reads = 2 → q = { status := .faulted none, reads := 0 }) ∧
        (∀ held, ¬(-400 ≤ v ∧ v ≤ 850) → p.status = .good held → p.reads = 2 →
          q = { status := .faulted (some held), reads := 0 }) ∧
        (∀ held, ¬(-400 ≤ v ∧ v ≤ 850) → p.status = .faulted held → q = { p with reads := 0 }) ∧
        (∀ held, -400 ≤ v ∧ v ≤ 850 → p.status = .faulted held → p.reads < 2 →
          q = { p with reads := p.reads + 1 }) ∧
        (∀ held, -400 ≤ v ∧ v ≤ 850 → p.status = .faulted held → p.reads = 2 →
          q = { status := .good v, reads := 0 })) ∧
  (∀ (s : State) (inp : ControlInputs) (f : Side) (x : FilterRecord) (p : Conversion),
      s.filters.records.get f = x →
      p = (match f with | .supply => inp.supplyFilter | .extract => inp.extractFilter) →
      ∃ t, exec (.controlStep inp) s = .next t ∧ ∀ y, t.filters.records.get f = y →
        (∀ dp, p = .reading dp → dp ≤ 5000 → x.probeFault = false →
          y = { x with probeCount := 0, lastGood := some dp }) ∧
        (p = .outOfRange → x.probeFault = false → x.probeCount < 2 → y = { x with probeCount := x.probeCount + 1 }) ∧
        (p = .outOfRange → x.probeFault = false → x.probeCount = 2 →
          y = { x with probeFault := true, probeCount := 0 }) ∧
        (p = .outOfRange → x.probeFault = true → y = { x with probeCount := 0 }) ∧
        (∀ dp, p = .reading dp → dp ≤ 5000 → x.probeFault = true → x.probeCount < 2 →
          y = { x with probeCount := x.probeCount + 1 }) ∧
        (∀ dp, p = .reading dp → dp ≤ 5000 → x.probeFault = true → x.probeCount = 2 →
          y = { x with probeFault := false, probeCount := 0, lastGood := some dp })) ∧
  (∀ (s : State) (inp : ControlInputs), ∃ t, exec (.controlStep inp) s = .next t ∧
      (∀ (value : AirProbe → Option Int) (healthy : AirProbe → Bool),
        (∀ n, value n = match (t.frost.probes.get n).status with
          | .good v => some v
          | .faulted held => held
          | .noValue => none) →
        (∀ n, healthy n = true ↔ ∃ v, (t.frost.probes.get n).status = .good v) →
        t.frost.truths.odaHealthy = healthy .oda ∧ t.frost.truths.etaHealthy = healthy .eta ∧
        (t.frost.truths.warm = true ↔ ∃ o, value .oda = some o ∧ s.settings.get .bypassMinOutdoor ≤ o) ∧
        (t.frost.truths.cold = true ↔ ∃ o, value .oda = some o ∧ o < s.settings.get .bypassMinOutdoor - 10) ∧
        (t.frost.truths.houseWarmer = true ↔
          ∃ o h, value .oda = some o ∧ value .eta = some h ∧ 20 ≤ h - o)) ∧
      (t.frost.truths ≠ s.frost.truths → s.isLoading = false → Resolved t) ∧
      (t.frost.truths = s.frost.truths → (∀ f, (t.fans.get f).state = (s.fans.get f).state) →
        t.op = s.op ∧ t.damper = s.damper))

/-- R83, R86: after a control step the preheater's duty is 0 unless the preheater is fitted and unfaulted, the
frost stage is PREHEAT or UNBALANCE, the supply fan is RUNNING with at least `preheat_min_flow` of measured
flow, and T_sup is healthy and at most +400; while all of these hold, the duty stays as it is. A duty above 0 that
still may run once the step has measured the flow and read the probes, with T_sup above +400, latches the fault: the
duty is 0, the heater is off, and PREHEATER_FAULT is raised; and in no other case does a control step latch it. That
the fans are taken and the probes read before the preheater is judged is the model's choice (assumption 4). -/
def Obligations.ControlStepStopsThePreheater : Prop :=
  ∀ (s : State) (inp : ControlInputs), ∃ t, exec (.controlStep inp) s = .next t ∧
    t.frost.record.stage = s.frost.record.stage ∧
    (0 < t.frost.record.duty →
      s.settings.get .preheaterFitted = 1 ∧ t.frost.record.fault = false ∧
      (t.frost.record.stage = .preheat ∨ t.frost.record.stage = .unbalance) ∧
      (t.fans.get .supply).state = .running ∧
      s.settings.nat .preheatMinFlow ≤ (t.fans.get .supply).flow ∧
      ∃ v, (t.frost.probes.get .sup).status = .good v ∧ v ≤ 400) ∧
    (t.frost.record.duty = 0 ∨ t.frost.record.duty = s.frost.record.duty) ∧
    (s.frost.record.fault = true → t.frost.record.fault = true) ∧
    (∀ v, s.settings.get .preheaterFitted = 1 → s.frost.record.fault = false →
      s.frost.record.stage = .preheat ∨ s.frost.record.stage = .unbalance →
      (t.fans.get .supply).state = .running → s.settings.nat .preheatMinFlow ≤ (t.fans.get .supply).flow →
      (t.frost.probes.get .sup).status = .good v → 0 < s.frost.record.duty →
      (v ≤ 400 → t.frost.record.fault = false ∧ t.frost.record.duty = s.frost.record.duty) ∧
      (400 < v → t.frost.record.fault = true ∧ t.frost.record.duty = 0 ∧ t.frost.heaterOn = false ∧
        ∀ l, hasKind (s.settings.eventMap.get l) .preheaterFault = true →
          hasKind (t.links.get l).pending .preheaterFault = true)) ∧
    (t.frost.record.fault = true → s.frost.record.fault = false →
      0 < s.frost.record.duty ∧
      (∃ v, (t.frost.probes.get .sup).status = .good v ∧ 400 < v) ∧
      ∀ l, hasKind (s.settings.eventMap.get l) .preheaterFault = true →
        hasKind (t.links.get l).pending .preheaterFault = true)

/-! ### The fan block's own commands -/

/-- R50, R54, R58, R47: the STARTING phase counter of a fan with a target above 0 falls from 1 to 0, and the fan
goes RUNNING with run counter 1, its duty set at once, without event or record; the shortfall flag is set and
cleared at its counts, the attempt count returns to 0 at the 60th running step, and a pulse is counted, each of
which changes the fan's record alone. -/
def Obligations.FanCountersReachTheirEnds : Prop :=
  (∀ (s : State) (f : Side) (x : FanRecord), s.fans.get f = x →
      x.state = .starting → x.phase = 1 → 0 < x.target →
      ∃ t, exec (.fanRunningEntry f) s = .next t ∧
        (t.fans.get f).state = .running ∧ (t.fans.get f).run = 1 ∧ (t.fans.get f).phase = 0 ∧
        (t.fans.get f).duty = (if x.probeFault then openLoopDuty s.settings x else closedLoopDuty s.settings x) ∧
        (∀ g, g ≠ f → t.fans.get g = s.fans.get g) ∧
        (s.isLoading = false → Resolved t) ∧
        t = { s with fans := t.fans, op := t.op, damper := t.damper }) ∧
  (∀ (s : State) (f : Side) (x : FanRecord), s.fans.get f = x →
      (x.state = .running → 0 < x.target → x.probeFault = false → x.shortfall = false →
        x.duty = s.settings.nat .dutyMax → x.band = .below → x.shortfallCount = 59 →
        exec (.shortfallSet f) s =
          .next { s with fans := s.fans.set f { x with shortfall := true, shortfallCount := 0 } }) ∧
      (x.state = .running → 0 < x.target → x.probeFault = false → x.shortfall = true → x.band = .inBand →
        x.shortfallCount = 9 →
        exec (.shortfallCleared f) s =
          .next { s with fans := s.fans.set f { x with shortfall := false, shortfallCount := 0 } }) ∧
      (x.state = .running → x.run = 59 →
        exec (.attemptCountReset f) s = .next { s with fans := s.fans.set f { x with run := 60, attempts := 0 } }) ∧
      exec (.tachPulse f) s = .next { s with fans := s.fans.set f { x with pulses := x.pulses + 1 } })

/-- R55 to R57, R60, R151: the low-speed counter of a RUNNING fan reaches 5 and the fan goes STALLED; the STALLED
phase counter falls from 1 to 0 and the fan goes RETRYING; and the end of a retry is judged on the speed: 200 rpm
or more gives STOPPED, less gives STALLED again with one more attempt, or FAILED after three. Each writes a FAN
record, raises FAN_FAULT where R60 says, ends a running procedure ABORTED_FAN where the new state is faulted, and
notifies the resolver. That the FAN record stands before the PROCEDURE record is the model's choice
(assumption 29). -/
def Obligations.FanStallsRetriesAndIsJudged : Prop :=
  (∀ (s : State) (f : Side) (x : FanRecord), s.fans.get f = x →
      x.state = .running → 0 < x.target → x.speed < 200 → s.settings.nat .dutyMin ≤ x.duty → 4 ≤ x.lowSpeed →
      ∃ t, exec (.fanStall f) s = .next t ∧
        t.fans = s.fans.set f
          { x with
            state := .stalled, duty := 0, phase := 30, lowSpeed := 0, run := 0, shortfall := false,
            shortfallCount := 0 } ∧
        t.runner = endedRunner s .abortedFan ⟨none, none⟩ ∧
        Wrote s t (.fan f .stalled :: endBodies s.runner.procedure .abortedFan) ∧
        Delivered s t (fun l k => byMap s [.fanFault] l k || endGiven s .abortedFan l k) ∧
        (s.isLoading = false → Resolved t) ∧
        t = { s with
          fans := t.fans, runner := t.runner, op := t.op, damper := t.damper, links := t.links, log := t.log }) ∧
  (∀ (s : State) (f : Side) (x : FanRecord), s.fans.get f = x → x.state = .stalled → x.phase = 1 →
      ∃ t, exec (.fanRetryStart f) s = .next t ∧
        t.fans = s.fans.set f { x with state := .retrying, phase := 5, duty := s.settings.nat .startDuty } ∧
        t.runner = endedRunner s .abortedFan ⟨none, none⟩ ∧
        Wrote s t (.fan f .retrying :: endBodies s.runner.procedure .abortedFan) ∧
        Delivered s t (endGiven s .abortedFan) ∧ (s.isLoading = false → Resolved t) ∧
        t = { s with
          fans := t.fans, runner := t.runner, op := t.op, damper := t.damper, links := t.links, log := t.log }) ∧
  (∀ (s : State) (f : Side) (x : FanRecord), s.fans.get f = x → x.state = .retrying → x.phase = 1 →
      ∃ t, exec (.fanRetryEnd f) s = .next t ∧
        (200 ≤ x.speed →
          t.fans = s.fans.set f { x with state := .stopped, duty := 0, phase := 0 } ∧
          t.runner = s.runner ∧ Wrote s t [.fan f .stopped] ∧ Delivered s t (byMap s [.fanFault])) ∧
        (x.speed < 200 → x.attempts < 3 →
          t.fans = s.fans.set f { x with state := .stalled, duty := 0, phase := 30, attempts := x.attempts + 1 } ∧
          t.runner = endedRunner s .abortedFan ⟨none, none⟩ ∧
          Wrote s t (.fan f .stalled :: endBodies s.runner.procedure .abortedFan) ∧
          Delivered s t (endGiven s .abortedFan)) ∧
        (x.speed < 200 → 3 ≤ x.attempts →
          t.fans = s.fans.set f { x with state := .failed, duty := 0, phase := 0 } ∧
          t.runner = endedRunner s .abortedFan ⟨none, none⟩ ∧
          Wrote s t (.fan f .failed :: endBodies s.runner.procedure .abortedFan) ∧
          Delivered s t (fun l k => byMap s [.fanFault] l k || endGiven s .abortedFan l k)) ∧
        (s.isLoading = false → Resolved t) ∧
        t = { s with
          fans := t.fans, runner := t.runner, op := t.op, damper := t.damper, links := t.links, log := t.log })

/-- R48, R65, R136: the third bad reading in a row makes a flow probe, an airstream probe or a filter probe faulted with
its last value held, and the third good one ends the fault; each writes a PROBE record and raises PROBE_FAULT, and
changes nothing else. -/
def Obligations.ProbesFaultAndRecover : Prop :=
  (∀ (s : State) (f : Side) (x : FanRecord), s.fans.get f = x → x.probeCount = 2 →
      (x.probeFault = false → ∃ t, exec (.flowProbeFault f) s = .next t ∧
        t.fans = s.fans.set f
          { x with probeFault := true, probeCount := 0, shortfall := false, shortfallCount := 0 } ∧
        Wrote s t [.probe (.flow f) false] ∧ Delivered s t (byMap s [.probeFault]) ∧
        t = { s with fans := t.fans, links := t.links, log := t.log }) ∧
      (x.probeFault = true → ∀ dp, dp ≤ 5000 → ∃ t, exec (.flowProbeRecover f dp) s = .next t ∧
        t.fans = s.fans.set f
          { x with
            probeFault := false
            probeCount := 0
            flow := min (s.settings.nat (ringKey f) * rootTerm dp / 1000) 1200 } ∧
        Wrote s t [.probe (.flow f) true] ∧ Delivered s t (byMap s [.probeFault]) ∧
        t = { s with fans := t.fans, links := t.links, log := t.log })) ∧
  (∀ (s : State) (n : AirProbe) (p : ProbeRecord), s.frost.probes.get n = p → p.reads = 2 →
      ((∀ held, p.status ≠ .faulted held) → ∃ t, exec (.tempProbeFault n) s = .next t ∧
        t.frost = { s.frost with
          probes := s.frost.probes.set n
            { status := .faulted (match p.status with | .good v => some v | _ => none), reads := 0 } } ∧
        Wrote s t [.probe (.air n) false] ∧ Delivered s t (byMap s [.probeFault]) ∧
        t = { s with frost := t.frost, links := t.links, log := t.log }) ∧
      (∀ held v, p.status = .faulted held → -400 ≤ v → v ≤ 850 → ∃ t, exec (.tempProbeRecover n v) s = .next t ∧
        t.frost = { s.frost with probes := s.frost.probes.set n { status := .good v, reads := 0 } } ∧
        Wrote s t [.probe (.air n) true] ∧ Delivered s t (byMap s [.probeFault]) ∧
        t = { s with frost := t.frost, links := t.links, log := t.log })) ∧
  (∀ (s : State) (f : Side) (x : FilterRecord), s.filters.records.get f = x → x.probeCount = 2 →
      (x.probeFault = false → ∃ t, exec (.filterProbeFault f) s = .next t ∧
        t.filters = { s.filters with
          records := s.filters.records.set f { x with probeFault := true, probeCount := 0 } } ∧
        Wrote s t [.probe (.filter f) false] ∧ Delivered s t (byMap s [.probeFault]) ∧
        t = { s with filters := t.filters, links := t.links, log := t.log }) ∧
      (x.probeFault = true → ∀ dp, dp ≤ 5000 → ∃ t, exec (.filterProbeRecover f dp) s = .next t ∧
        t.filters = { s.filters with
          records := s.filters.records.set f { x with probeFault := false, probeCount := 0, lastGood := some dp } } ∧
        Wrote s t [.probe (.filter f) true] ∧ Delivered s t (byMap s [.probeFault]) ∧
        t = { s with filters := t.filters, links := t.links, log := t.log }))

/-! ### The frost guard -/

/-- R67 to R71, R74 to R77, R80, R85: a frost step in NORMAL, WATCH, PREHEAT or UNBALANCE with T_eha healthy: the gap
count, the rise or fall of F, the stage judged on the new F, and r. `v` is T_eha, `ah` is AH_eta or 800 and `f` the new
F. The pinned count rises where the preheater may run, stands at `preheat_max` and F has risen, and is 0 otherwise. A
stage change raises FROST_STAGE, writes its record, ends a running procedure on entry to UNBALANCE or THAW and gives
the resolver its notice; a step without one writes and raises nothing, and without a change of r recomputes nothing.
That the FROST_STAGE record stands before the PROCEDURE record (assumption 29), and that r moves by its ramp before the
ceiling of `max_unbalance` is applied (assumption 36), are the model's choices. -/
def Obligations.FrostStepMovesTheIndexAndTheStage : Prop :=
  ∀ (s : State) (g : FrostRecord) (v : Int) (ah gap f : Nat) (moved : Int), s.frost.record = g →
    s.isLoading = false → g.Ok →
    g.stage = .normal ∨ g.stage = .watch ∨ g.stage = .preheat ∨ g.stage = .unbalance →
    (s.frost.probes.get .eha).status = .good v →
    ah = (if s.humidity.extract.stale then 800 else (s.humidity.extract.last.map Prod.snd).getD 800) →
    gap = min (g.gap + 1) 720 →
    moved = (if v < s.settings.get .frostThreshold then
        (g.f : Int) + max 1 ((min (s.settings.get .frostThreshold - v) 100).toNat * ah / 8000 : Nat)
      else (g.f : Int) - max 1 ((min (v - s.settings.get .frostThreshold) 100).toNat / 4 : Nat))
      + (if g.stage ≠ .normal ∧ (s.fans.get .extract).shortfall = true then 20 else 0) →
    f = (if s.settings.nat .thawGap * 6 ≤ gap then (min (max moved 0) 10000).toNat
      else min (min (max moved 0) 10000).toNat (s.settings.thresholds.thawOn - 1)) →
    ∃ t, exec .frostStep s = .next t ∧ t.frost.record.f = f ∧ t.frost.record.gap = gap ∧
      (g.stage = .normal →
        t.frost.record.stage = if s.settings.thresholds.watchOn ≤ f then .watch else .normal) ∧
      (g.stage = .watch →
        t.frost.record.stage =
          if f = 0 then .normal
          else if s.settings.thresholds.preheatOn ≤ f then
            (if preheaterUsable s.settings g then .preheat else .unbalance)
          else .watch) ∧
      (g.stage = .preheat →
        t.frost.record.stage =
          if s.settings.thresholds.unbalanceOn ≤ f then .unbalance
          else if f ≤ s.settings.thresholds.preheatOff then .watch
          else if preheaterUsable s.settings g = false then .unbalance
          else if 180 ≤ g.pinned then .unbalance
          else .preheat) ∧
      (g.stage = .unbalance →
        t.frost.record.stage =
          if s.settings.thresholds.thawOn ≤ f ∧ s.settings.nat .thawGap * 6 ≤ gap then .thaw
          else if g.r = 0 ∧ f ≤ s.settings.thresholds.unbalanceExit then
            (if preheaterUsable s.settings g then .preheat else .watch)
          else .unbalance) ∧
      t.frost.record.r =
        (if t.frost.record.stage = .normal ∨ t.frost.record.stage = .watch then 0
         else if t.frost.record.stage = .unbalance ∧ (s.frost.steps + 1) % 6 = 0 then
          (if s.settings.thresholds.unbalanceOn ≤ f then min (g.r + 50) (s.settings.nat .maxUnbalance)
           else if f < s.settings.thresholds.unbalanceDown then min (g.r - 50) (s.settings.nat .maxUnbalance)
           else min g.r (s.settings.nat .maxUnbalance))
         else min g.r (s.settings.nat .maxUnbalance)) ∧
      (∀ may : Bool,
        may = (decide (s.settings.get .preheaterFitted = 1) && !g.fault
          && decide (t.frost.record.stage = .preheat ∨ t.frost.record.stage = .unbalance)
          && decide ((s.fans.get .supply).state = .running)
          && decide (s.settings.nat .preheatMinFlow ≤ (s.fans.get .supply).flow)
          && (s.frost.probes.get .sup).healthy?.isSome) →
        t.frost.record.pinned =
          if may = true ∧ t.frost.record.duty = s.settings.nat .preheatMax ∧ g.f < f then
            (if g.stage ≠ .preheat ∧ t.frost.record.stage = .preheat then 1 else min (g.pinned + 1) 180)
          else 0) ∧
      (t.frost.record.stage = g.stage →
        t.runner = s.runner ∧ t.links = s.links ∧ t.log = s.log ∧
        (t.frost.record.r = g.r → t.op = s.op ∧ t.damper = s.damper) ∧
        (t.frost.record.r ≠ g.r → Resolved t)) ∧
      (t.frost.record.stage ≠ g.stage →
        Resolved t ∧
        (t.frost.record.stage = .watch ∨ t.frost.record.stage = .normal ∨ t.frost.record.stage = .preheat →
          t.runner = s.runner ∧ Wrote s t [.frostStage g.stage t.frost.record.stage f] ∧
          Delivered s t (byMap s [.frostStage])) ∧
        (t.frost.record.stage = .unbalance ∨ t.frost.record.stage = .thaw →
          t.runner = endedRunner s .abortedFrost ⟨none, none⟩ ∧
          Wrote s t (.frostStage g.stage t.frost.record.stage f :: endBodies s.runner.procedure .abortedFrost) ∧
          Delivered s t (fun l k => byMap s [.frostStage] l k || endGiven s .abortedFrost l k))) ∧
      t = { s with
        frost := t.frost, op := t.op, damper := t.damper, runner := t.runner, links := t.links, log := t.log }

/-- R84: a frost step sets the preheater's duty: when the preheater may run on the record the step leaves, the
duty moves towards T_ice + 15 by at most 100 within 0 to `preheat_max`, and otherwise it is 0. -/
def Obligations.FrostStepSetsThePreheaterDuty : Prop :=
  ∀ (s : State) (v : Int), s.isLoading = false → (s.frost.probes.get .eha).status = .good v →
    ∃ t, exec .frostStep s = .next t ∧
      t.frost.steps = s.frost.steps + 1 ∧ (t.frost.heaterOn = true ↔ 0 < t.frost.record.duty) ∧
      ((t.frost.record.duty : Int) =
        if s.settings.get .preheaterFitted = 1 ∧ s.frost.record.fault = false ∧
            (t.frost.record.stage = .preheat ∨ t.frost.record.stage = .unbalance) ∧
            (s.fans.get .supply).state = .running ∧
            s.settings.nat .preheatMinFlow ≤ (s.fans.get .supply).flow ∧
            (s.frost.probes.get .sup).healthy?.isSome = true
        then max 0 (min (max ((s.frost.record.duty : Int)
          + min (max ((s.settings.get .frostThreshold + 15 - v) * 5) (-100)) 100) 0)
          (s.settings.get .preheatMax))
        else 0)

/-- R74, R87, R89: at a frost step without a healthy T_eha a stage other than LOCKOUT and BLIND goes to BLIND
with F held, an interrupted THAW giving BLIND's THAW phase, its record and no THAW_END; and at a frost step in BLIND
with T_eha healthy the stage goes to WATCH with F at `unbalance_on` and r 0. R88: a frost step in BLIND without a
healthy T_eha counts its phase down and sets r, and at the end of a phase passes to the next; it writes and raises
nothing, and the resolver has a notice when the phase or r changes. `cold` says that T_oda is not healthy or is below
−30. That the THAW record stands before the FROST_STAGE record is the model's choice (assumption 29). -/
def Obligations.BlindIsEnteredAndLeft : Prop :=
  ∀ (s : State) (g : FrostRecord) (cold : Bool) (ceiling : Nat), s.frost.record = g → s.isLoading = false →
    (cold = true ↔ ∀ v, (s.frost.probes.get .oda).status = .good v → v < -30) →
    ceiling = s.settings.nat .maxUnbalance →
    ((∀ v, (s.frost.probes.get .eha).status ≠ .good v) → g.stage ≠ .lockout → g.stage ≠ .blind →
      ∃ t, exec .frostStep s = .next t ∧ t.frost.record.stage = .blind ∧ t.frost.record.f = g.f ∧
        t.frost.record.failures = g.failures ∧
        (g.stage = .thaw →
          t.frost.record.blindPhase = some .thaw ∧ t.frost.record.gap = 0 ∧
          t.frost.record.blindCount = max 1 (s.settings.nat .thawMax * 6 - g.elapsed) ∧
          t.frost.record.r = min g.r ceiling) ∧
        (g.stage ≠ .thaw →
          t.frost.record.blindPhase = some .run ∧ t.frost.record.blindCount = 300 ∧
          t.frost.record.r = if cold then ceiling else 0) ∧
        (∀ l, hasKind (t.links.get l).pending .thawEnd = hasKind (s.links.get l).pending .thawEnd) ∧
        Wrote s t ((if g.stage = .thaw then [.thaw .interrupted (g.elapsed * 10)] else [])
          ++ .frostStage g.stage .blind g.f :: endBodies s.runner.procedure .abortedFrost) ∧
        Delivered s t (fun l k => byMap s [.frostStage] l k || endGiven s .abortedFrost l k) ∧
        t.runner = endedRunner s .abortedFrost ⟨none, none⟩ ∧ Resolved t ∧
        t = { s with
          frost := t.frost, runner := t.runner, op := t.op, damper := t.damper, links := t.links,
          log := t.log }) ∧
    ((∀ v, (s.frost.probes.get .eha).status ≠ .good v) → g.stage = .blind →
      ∃ t, exec .frostStep s = .next t ∧
        (∀ phase, g.blindPhase = some phase → ∀ next count ratio,
          (phase = .run → 1 < g.blindCount → next = BlindPhase.run ∧ count = g.blindCount - 1 ∧
            ratio = if cold then ceiling else 0) →
          (phase = .run → g.blindCount ≤ 1 → cold = true →
            next = .thaw ∧ count = 60 ∧ ratio = min g.r ceiling) →
          (phase = .run → g.blindCount ≤ 1 → cold = false → next = .run ∧ count = 300 ∧ ratio = 0) →
          (phase = .thaw → 1 < g.blindCount →
            next = .thaw ∧ count = g.blindCount - 1 ∧ ratio = min g.r ceiling) →
          (phase = .thaw → g.blindCount ≤ 1 →
            next = .run ∧ count = 300 ∧ ratio = if cold then ceiling else 0) →
          t.frost.record =
            { g with
              gap := min (g.gap + 1) 720, blindPhase := some next, blindCount := count, r := ratio, duty := 0,
              pinned := 0 } ∧
          (next = phase → ratio = g.r → t.op = s.op ∧ t.damper = s.damper) ∧
          (next ≠ phase ∨ ratio ≠ g.r → Resolved t)) ∧
        t = { s with frost := t.frost, op := t.op, damper := t.damper }) ∧
    (∀ v, (s.frost.probes.get .eha).status = .good v → g.stage = .blind →
      ∃ t, exec .frostStep s = .next t ∧ t.frost.record.stage = .watch ∧
        t.frost.record.f = s.settings.thresholds.unbalanceOn ∧ t.frost.record.r = 0 ∧
        t.frost.record.blindPhase = none ∧ t.frost.record.blindCount = 0 ∧
        Wrote s t [.frostStage .blind .watch s.settings.thresholds.unbalanceOn] ∧
        Delivered s t (byMap s [.frostStage]) ∧ Resolved t ∧
        t = { s with
          frost := t.frost, op := t.op, damper := t.damper, links := t.links, log := t.log })

/-- R78, R79: the 18th warm step in a row ends a THAW in success: UNBALANCE with F at `unbalance_exit`, the
failures and the gap count 0. A THAW that reaches `thaw_max` without success times out: F becomes `unbalance_on`,
the failures rise by 1, and the stage is UNBALANCE, or LOCKOUT at 3 failures with FROST_LOCKOUT raised. Both raise
THAW_END and FROST_STAGE and write both records. A frost step in THAW moves F and counts, and ends the thaw in the
same two ways at the same counts; a thaw that goes on writes and raises nothing. The model's own are: that the records
of the guard stand before the PROCEDURE record (assumption 29), that a thaw that ends in UNBALANCE at a ramp step has
its r moved at that step (assumption 37), and that the ceiling of r is applied after the ramp (assumption 36). -/
def Obligations.ThawEndsInSuccessOrTimeout : Prop :=
  (∀ (s : State) (g : FrostRecord) (v : Int), s.frost.record = g → g.stage = .thaw →
      (s.frost.probes.get .eha).status = .good v → s.settings.get .thawEnd ≤ v → 17 ≤ g.success →
      ∃ t, exec .thawSuccess s = .next t ∧
        t.frost = { s.frost with
          record :=
            { g with
              stage := .unbalance, f := s.settings.thresholds.unbalanceExit, failures := 0, gap := 0,
              elapsed := g.elapsed + 1, success := g.success + 1 } } ∧
        t.runner = endedRunner s .abortedFrost ⟨none, none⟩ ∧
        Wrote s t ([.thaw .success ((g.elapsed + 1) * 10),
          .frostStage .thaw .unbalance s.settings.thresholds.unbalanceExit]
          ++ endBodies s.runner.procedure .abortedFrost) ∧
        Delivered s t (fun l k => byMap s [.thawEnd, .frostStage] l k || endGiven s .abortedFrost l k) ∧
        (s.isLoading = false → Resolved t) ∧
        t = { s with
          frost := t.frost, runner := t.runner, op := t.op, damper := t.damper, links := t.links, log := t.log }) ∧
  (∀ (s : State) (g : FrostRecord) (v : Int), s.frost.record = g → g.stage = .thaw →
      (s.frost.probes.get .eha).status = .good v →
      v < s.settings.get .thawEnd ∨ g.success < 17 →
      s.settings.nat .thawMax * 6 ≤ g.elapsed + 1 →
      ∃ t, exec .thawTimeout s = .next t ∧
        t.frost.record.stage = (if 2 ≤ g.failures then .lockout else .unbalance) ∧
        t.frost.record.f = s.settings.thresholds.unbalanceOn ∧ t.frost.record.failures = g.failures + 1 ∧
        t.frost.record.gap = 0 ∧ t.frost.record.r = g.r ∧
        Wrote s t ([.thaw .timeout ((g.elapsed + 1) * 10),
          .frostStage .thaw (if 2 ≤ g.failures then .lockout else .unbalance) s.settings.thresholds.unbalanceOn]
          ++ endBodies s.runner.procedure .abortedFrost) ∧
        Delivered s t (fun l k =>
          byMap s (if 2 ≤ g.failures then [.thawEnd, .frostStage, .frostLockout] else [.thawEnd, .frostStage]) l k
            || endGiven s .abortedFrost l k) ∧
        (s.isLoading = false → Resolved t) ∧
        t = { s with
          frost := { s.frost with record := t.frost.record }, runner := t.runner, op := t.op, damper := t.damper,
          links := t.links, log := t.log }) ∧
  (∀ (s : State) (g : FrostRecord) (v : Int) (warm : Nat) (ends : Option ThawOutcome) (stage : Stage),
      s.frost.record = g → g.stage = .thaw → s.isLoading = false →
      (s.frost.probes.get .eha).status = .good v →
      warm = (if s.settings.get .thawEnd ≤ v then g.success + 1 else 0) →
      ends = (if 18 ≤ warm then some .success
        else if s.settings.nat .thawMax * 6 ≤ g.elapsed + 1 then some .timeout else none) →
      stage = (match ends with
        | none => .thaw
        | some .timeout => if 2 ≤ g.failures then .lockout else .unbalance
        | some _ => .unbalance) →
      ∃ t, exec .frostStep s = .next t ∧ t.frost.record.stage = stage ∧
        t.frost.record.elapsed = g.elapsed + 1 ∧ t.frost.record.success = warm ∧
        (ends = none →
          t.frost.record =
            { g with
              gap := min (g.gap + 1) 720, f := indexAfter s v, elapsed := g.elapsed + 1, success := warm,
              r := min g.r (s.settings.nat .maxUnbalance), duty := 0, pinned := 0 } ∧
          t.runner = s.runner ∧ t.links = s.links ∧ t.log = s.log ∧
          (t.frost.record.r = g.r → t.op = s.op ∧ t.damper = s.damper)) ∧
        (∀ o, ends = some o →
          t.frost.record.gap = 0 ∧
          t.frost.record.f =
            (if o = .success then s.settings.thresholds.unbalanceExit else s.settings.thresholds.unbalanceOn) ∧
          t.frost.record.failures = (if o = .success then 0 else g.failures + 1) ∧
          t.frost.record.r =
            min
              (if stage = .unbalance ∧ (s.frost.steps + 1) % 6 = 0 then
                (if s.settings.thresholds.unbalanceOn ≤ t.frost.record.f then g.r + 50
                 else if t.frost.record.f < s.settings.thresholds.unbalanceDown then g.r - 50
                 else g.r)
               else g.r)
              (s.settings.nat .maxUnbalance) ∧
          t.runner = endedRunner s .abortedFrost ⟨none, none⟩ ∧
          Wrote s t ([.thaw o ((g.elapsed + 1) * 10), .frostStage .thaw stage t.frost.record.f]
            ++ endBodies s.runner.procedure .abortedFrost) ∧
          Delivered s t (fun l k =>
            byMap s (if stage = .lockout then [.thawEnd, .frostStage, .frostLockout] else [.thawEnd, .frostStage]) l k
              || endGiven s .abortedFrost l k) ∧
          Resolved t) ∧
        t.frost.steps = s.frost.steps + 1 ∧ t.frost.probes = s.frost.probes ∧ t.frost.truths = s.frost.truths ∧
        t = { s with
          frost := t.frost, op := t.op, damper := t.damper, runner := t.runner, links := t.links, log := t.log })

/-- R80, R81, R83, R88: the gap count reaches `thaw_gap` × 6; the warmth count releases LOCKOUT to NORMAL with F,
r and the failures 0; the BLIND count reaches 0 and the schedule passes on; and the heater is switched off at
the end of the burst. A frost step in LOCKOUT moves F while T_eha is healthy and holds it while it is not, and counts a
T_oda that is healthy and at or above `lockout_release`, or sets the warmth count to 0; at 360 it releases the
LOCKOUT, and short of it it writes and raises nothing. -/
def Obligations.FrostCountsReachTheirEnds : Prop :=
  ∀ (s : State) (g : FrostRecord), s.frost.record = g →
    (g.gap < 720 → g.gap < s.settings.nat .thawGap * 6 → s.settings.nat .thawGap * 6 ≤ g.gap + 1 →
      exec .thawGapElapsed s = .next { s with frost := { s.frost with record := { g with gap := g.gap + 1 } } }) ∧
    (∀ v, g.stage = .lockout → 359 ≤ g.warmth → (s.frost.probes.get .oda).status = .good v →
      s.settings.get .lockoutRelease ≤ v → ∃ t, exec .lockoutRelease s = .next t ∧
        t.frost = { s.frost with
          record := { g with stage := .normal, f := 0, r := 0, failures := 0, warmth := 0 } } ∧
        Wrote s t [.frostStage .lockout .normal 0] ∧ Delivered s t (byMap s [.frostStage]) ∧
        (s.isLoading = false → Resolved t) ∧
        t = { s with frost := t.frost, op := t.op, damper := t.damper, links := t.links, log := t.log }) ∧
    (g.stage = .blind → g.blindCount = 1 → (∀ v, (s.frost.probes.get .eha).status ≠ .good v) →
      ∃ t, exec .blindPhaseEnd s = .next t ∧
        (∀ cold : Prop, (cold ↔ ∀ v, (s.frost.probes.get .oda).status = .good v → v < -30) →
          (g.blindPhase = some .run → cold →
            t.frost.record = { g with blindPhase := some .thaw, blindCount := 60 }) ∧
          (g.blindPhase = some .run → ¬cold →
            t.frost.record = { g with blindPhase := some .run, blindCount := 300, r := 0 }) ∧
          (g.blindPhase = some .thaw → cold →
            t.frost.record =
              { g with blindPhase := some .run, blindCount := 300, r := s.settings.nat .maxUnbalance }) ∧
          (g.blindPhase = some .thaw → ¬cold →
            t.frost.record = { g with blindPhase := some .run, blindCount := 300, r := 0 })) ∧
        t = { s with frost := { s.frost with record := t.frost.record }, op := t.op, damper := t.damper }) ∧
    (g.duty < 1000 → exec .preheaterBurstOff s = .next { s with frost := { s.frost with heaterOn := false } }) ∧
    (∀ (warm : Bool) (f : Nat), s.isLoading = false → g.stage = .lockout →
      (warm = true ↔ ∃ v, (s.frost.probes.get .oda).status = .good v ∧ s.settings.get .lockoutRelease ≤ v) →
      (∀ v, (s.frost.probes.get .eha).status = .good v → f = indexAfter s v) →
      ((∀ v, (s.frost.probes.get .eha).status ≠ .good v) → f = g.f) →
      ∃ t, exec .frostStep s = .next t ∧
        (warm = true → 359 ≤ g.warmth →
          t.frost.record =
            { g with
              stage := .normal, f := 0, r := 0, failures := 0, warmth := 0, gap := min (g.gap + 1) 720, duty := 0,
              pinned := 0 } ∧
          Wrote s t [.frostStage .lockout .normal 0] ∧ Delivered s t (byMap s [.frostStage]) ∧ Resolved t) ∧
        (¬(warm = true ∧ 359 ≤ g.warmth) →
          t.frost.record =
            { g with
              f := f, warmth := if warm then g.warmth + 1 else 0, gap := min (g.gap + 1) 720,
              r := min g.r (s.settings.nat .maxUnbalance), duty := 0, pinned := 0 } ∧
          t.links = s.links ∧ t.log = s.log ∧
          (t.frost.record.r = g.r → t.op = s.op ∧ t.damper = s.damper)) ∧
        t = { s with
          frost := t.frost, op := t.op, damper := t.damper, links := t.links, log := t.log })

/-- R59, R82, R86: CLEAR from SERVICE releases a FAILED fan to STOPPED, takes LOCKOUT to WATCH with F at
`unbalance_on`, and clears a latched preheater fault; a STALLED or RETRYING fan is answered NOTNOW, and what has
nothing to clear IGNORED, with nothing changed. -/
def Obligations.ClearReleasesWhatIsLatched : Prop :=
  ∀ (s : State) (tag : Byte) (f : Side), Ready s .service →
    ((s.fans.get f).state = .failed → ∃ t, exec (.clearFan .service tag f) s = .next t ∧
      (t.fans.get f).state = .stopped ∧ (t.fans.get f).duty = 0 ∧ (t.fans.get f).attempts = 0 ∧
      (∀ g, g ≠ f → t.fans.get g = s.fans.get g) ∧ Wrote s t [.fan f .stopped] ∧
      Replies t .service tag 0x0C#8 .ok [] ∧
      (∀ l, hasKind (s.settings.eventMap.get l) .fanFault = true → hasKind (t.links.get l).pending .fanFault = true) ∧
      Resolved t ∧ t = { s with fans := t.fans, op := t.op, damper := t.damper, links := t.links, log := t.log }) ∧
    ((s.fans.get f).state = .stalled ∨ (s.fans.get f).state = .retrying →
      exec (.clearFan .service tag f) s = .next (onlyReply s .service tag 0x0C#8 .notNow [])) ∧
    ((s.fans.get f).state = .stopped ∨ (s.fans.get f).state = .starting ∨ (s.fans.get f).state = .running →
      exec (.clearFan .service tag f) s = .next (onlyReply s .service tag 0x0C#8 .ignored [])) ∧
    (s.frost.record.stage = .lockout → ∃ t, exec (.clearFrostLockout .service tag) s = .next t ∧
      t.frost = { s.frost with
        record :=
          { s.frost.record with
            stage := .watch, f := s.settings.thresholds.unbalanceOn, r := 0, failures := 0, warmth := 0 } } ∧
      Wrote s t [.frostStage .lockout .watch s.settings.thresholds.unbalanceOn] ∧
      Replies t .service tag 0x0C#8 .ok [] ∧ Resolved t ∧
      t = { s with frost := t.frost, op := t.op, damper := t.damper, links := t.links, log := t.log }) ∧
    (s.frost.record.stage ≠ .lockout →
      exec (.clearFrostLockout .service tag) s = .next (onlyReply s .service tag 0x0C#8 .ignored [])) ∧
    (s.frost.record.fault = true → ∃ t, exec (.clearPreheater .service tag) s = .next t ∧
      t.frost = { s.frost with record := { s.frost.record with fault := false } } ∧
      Replies t .service tag 0x0C#8 .ok [] ∧
      (∀ l, hasKind (s.settings.eventMap.get l) .preheaterFault = true →
        hasKind (t.links.get l).pending .preheaterFault = true) ∧
      t = { s with frost := t.frost, links := t.links }) ∧
    (s.frost.record.fault = false →
      exec (.clearPreheater .service tag) s = .next (onlyReply s .service tag 0x0C#8 .ignored []))

/-! ### The damper -/

/-- R37, R38, R40, R41: a travel second moves an OPENING damper one second towards 90 and a CLOSING one towards 0; at
the end the damper is OPEN or CLOSED, and a damper that was homing ends homing and opens at once when the outcome
asks. At a recompute the bypass opens and closes by its conditions against its earlier outcome, and the damper
turns to follow, keeping its position; a homing damper goes on CLOSING. That a damper which turned at an end (OPENING
at 90, CLOSING at 0) stops there at its next travel second is the model's choice (assumption 17). -/
def Obligations.DamperFollowsTheOutcome : Prop :=
  (∀ (s : State) (d : Damper), s.damper = d → d.Ok →
      (d.state = .opening → d.position < 89 →
        exec .travelSecond s = .next { s with damper := { d with position := d.position + 1 } }) ∧
      (d.state = .opening → 89 ≤ d.position →
        exec .travelSecond s = .next { s with damper := { d with state := .opened, position := 90 } } ∧
        exec .damperTravelEnd s = .next { s with damper := { d with state := .opened, position := 90 } }) ∧
      (d.state = .closing → 1 < d.position →
        exec .travelSecond s = .next { s with damper := { d with position := d.position - 1 } }) ∧
      (d.state = .closing → d.position ≤ 1 →
        exec .travelSecond s = .next { s with damper :=
          { state := (if d.homing = true ∧ s.op.bypassOpen = true then .opening else .closed), position := 0,
            homing := false } } ∧
        exec .damperTravelEnd s = exec .travelSecond s) ∧
      (d.state = .closed ∨ d.state = .opened → exec .travelSecond s = .next s)) ∧
  (∀ s : State, s.isLoading = false →
      ((notice s).op.bypassOpen = true ↔
        (∃ e ∈ s.table.entries, e.want = .bypass) ∧ s.frost.record.stage = .normal ∧
        ∃ oda eta, (s.frost.probes.get .oda).status = .good oda ∧ (s.frost.probes.get .eta).status = .good eta ∧
          (if s.op.bypassOpen then s.settings.get .bypassMinOutdoor - 10 ≤ oda
           else s.settings.get .bypassMinOutdoor ≤ oda ∧ 20 ≤ eta - oda)) ∧
      (notice s).damper.position = s.damper.position ∧ (notice s).damper.homing = s.damper.homing ∧
      (notice s).damper.state =
        (if (notice s).op.bypassOpen then
          (if s.damper.state = .closed ∨ (s.damper.state = .closing ∧ s.damper.homing = false) then .opening
           else s.damper.state)
         else
          (if s.damper.state = .opened ∨ s.damper.state = .opening then .closing else s.damper.state)) ∧
      notice s = { s with op := (notice s).op, damper := (notice s).damper })

/-! ### The minute -/

/-- R14, R120, R137, R138, R166, R175: a minute tick. The minute count rises and the seconds count is 0. Each
filter's age rises, and with the fan RUNNING and the frost guard not holding supply at 0 the running minutes and
the volume rise, the carry keeping the litres. The hour's accumulators take the values as they stand. Every 60th
tick hands the persisted fields to the store. With no entry at its last minute and no BOOSTING zone, the demand
table only counts down, and nothing else changes. That the carry is 0 whenever the volume stands at its limit after a
running minute is read from the rule (assumption 25), and that the fields handed over hold the tick's own counts is the
model's choice (assumption 34). -/
def Obligations.MinuteTickCountsAMinute : Prop :=
  ∀ (s : State) (held : Prop),
    (held ↔ s.frost.record.stage = .thaw ∨ s.frost.record.stage = .lockout ∨
      (s.frost.record.stage = .blind ∧ s.frost.record.blindPhase = some .thaw)) →
    ∃ t, exec .minuteTick s = .next t ∧
      t.time = { s.time with minutes := s.time.minutes + 1#32, seconds := 0 } ∧
      (∀ f x y, s.filters.records.get f = x → t.filters.records.get f = y →
        (s.isLoading = true → y = x) ∧
        (s.isLoading = false →
          y.kept.age = min (x.kept.age + 1) 9999999 ∧
          ((s.fans.get f).state ≠ .running ∨ (f = .supply ∧ held) →
            y = { x with kept := { x.kept with age := y.kept.age } }) ∧
          ((s.fans.get f).state = .running → (f = .supply → ¬held) →
            y.kept.running = min (x.kept.running + 1) 9999999 ∧
            y.kept.volume = min (x.kept.volume + (x.carry + (s.fans.get f).flow * 6) / 1000) 9999999 ∧
            y.carry =
              (if y.kept.volume = 9999999 then 0 else (x.carry + (s.fans.get f).flow * 6) % 1000)))) ∧
      (s.isLoading = false → s.filters.hourTicks = 59 →
        t.filters.hourTicks = 0 ∧
        t.store =
          { s.store with
            persisted := ⟨t.filters.records.supply.kept, t.filters.records.extract.kept⟩
            changed := true
            urgent := true }) ∧
      (s.isLoading = true ∨ s.filters.hourTicks < 59 → t.store = s.store) ∧
      ((∀ e ∈ s.table.entries, ∀ n, e.remaining = some n → 1 < n) →
        (s.isLoading = false → s.log.hourly.ticks < 59 →
          t.log.hourly.ticks = s.log.hourly.ticks + 1 ∧
          t.log.hourly.sumW = s.log.hourly.sumW + s.op.w ∧
          t.log.hourly.sumSupply = s.log.hourly.sumSupply + (s.fans.get .supply).flow ∧
          t.log.hourly.sumExtract = s.log.hourly.sumExtract + (s.fans.get .extract).flow ∧
          t.log.hourly.maxF = max s.log.hourly.maxF s.frost.record.f ∧
          t.log.hourly.notNormal =
            s.log.hourly.notNormal + (if s.frost.record.stage = .normal then 0 else 1)) ∧
        (∀ n z, s.humidity.zones.get n = z → z.state = .boosting →
          z.boostTimer + 1 < s.settings.nat (.zone n .maxBoost) →
          t.humidity.zones.get n = { z with boostTimer := z.boostTimer + 1 }) ∧
        ((∀ n, (s.humidity.zones.get n).state ≠ .boosting) →
          t = { s with
            time := t.time, filters := t.filters, store := t.store, log := t.log,
            links := t.links,
            table :=
              { s.table with
                entries := s.table.entries.map fun e => { e with remaining := e.remaining.map (· - 1) } } } ∧
          (s.isLoading = true ∨ s.log.hourly.ticks < 59 →
            t.links = s.links ∧ t.log = { s.log with hourly := t.log.hourly })))

/-- R14, R15, R122: the entries at their last minute are removed and the others counted down. A link's handles join
its expired-handle list, of which the last 4 are kept, and DEMAND_EXPIRED is added to its set by address. An
expired entry of a RECOVERING zone takes the zone to QUIET, or to STALE with its flag set. The resolver is
notified once. -/
def Obligations.ExpiredEntriesAreReported : Prop :=
  ∀ (s : State) (last : List Entry), last = s.table.entries.filter (fun e => e.remaining == some 1) →
    last ≠ [] → (∀ e ∈ s.table.entries, ∀ n, e.remaining = some n → 1 ≤ n) →
    ((∀ e ∈ last, ∃ l, e.source = .link l) → (∀ l, (s.links.get l).expired.length ≤ 4) →
      ∃ t, exec .entryExpiry s = .next t ∧
        t.table =
          { s.table with
            entries := (s.table.entries.filter fun e => !(e.remaining == some 1)).map fun e =>
              { e with remaining := e.remaining.map (· - 1) } } ∧
        (∀ l hs, hs = (last.filter fun e => e.source == .link l).map (fun e => e.slot.val * 16 + e.gen.val) →
          (t.links.get l).expired =
            ((s.links.get l).expired ++ hs).drop (((s.links.get l).expired ++ hs).length - 4) ∧
          (t.links.get l).state = (s.links.get l).state ∧ (t.links.get l).frame = (s.links.get l).frame ∧
          (t.links.get l).reply = (s.links.get l).reply ∧
          ∀ k, hasKind (t.links.get l).pending k =
              (hasKind (s.links.get l).pending k || decide (k = .demandExpired ∧ hs ≠ [])) ∧
            hasKind (t.links.get l).addressed k =
              (hasKind (s.links.get l).addressed k || decide (k = .demandExpired ∧ hs ≠ []))) ∧
        (s.isLoading = false → Resolved t) ∧
        t = { s with table := t.table, links := t.links, op := t.op, damper := t.damper }) ∧
    (∀ e n z, last = [e] → e.source = .zone n → s.humidity.zones.get n = z → z.state = .recovering →
      ∃ t, exec .entryExpiry s = .next t ∧
        t.table =
          { s.table with
            entries := (s.table.entries.filter fun e => !(e.remaining == some 1)).map fun e =>
              { e with remaining := e.remaining.map (· - 1) } } ∧
        t.humidity = { s.humidity with
          zones := s.humidity.zones.set n
            { z with state := if z.stale then .stale else .quiet, boostTimer := 0 } } ∧
        Wrote s t [.zone n (if z.stale then .stale else .quiet) (z.last.map Sample.ah) .expired] ∧
        Delivered s t (byMap s [.zoneState]) ∧
        (s.isLoading = false → Resolved t) ∧
        t = { s with
          table := t.table, humidity := t.humidity, links := t.links, log := t.log, op := t.op,
          damper := t.damper })

/-- R138, R175: the tick that brings the tick count to 60 writes the HOURLY record of the accumulators with that
tick's values, each mean with its remainder dropped, and returns them to 0 and absent; and the 60th minute tick
since the load, or since the handover before, hands the persisted fields of both filter records to the store. That
the row of the handover hands them over as they stand is the model's choice (assumption 34). -/
def Obligations.HourEndsInARecordAndAHandover : Prop :=
  ∀ s : State, s.isLoading = false →
    (∀ range, s.log.hourly.ticks = 59 →
      range = (match (s.frost.probes.get .oda).status, s.log.hourly.oda with
        | .good v, none => some (v, v)
        | .good v, some (lo, hi) => some (min lo v, max hi v)
        | _, held => held) →
      ∃ t, exec .hourlyRecord s = .next t ∧
        Wrote s t
          [.hourly ((s.log.hourly.sumW + s.op.w) / 60)
            ((s.log.hourly.sumSupply + (s.fans.get .supply).flow) / 60)
            ((s.log.hourly.sumExtract + (s.fans.get .extract).flow) / 60) range
            (max s.log.hourly.maxF s.frost.record.f)
            (s.log.hourly.notNormal + (if s.frost.record.stage = .normal then 0 else 1))] ∧
        t.log.hourly = Hourly.reset ∧ Delivered s t (byMap s []) ∧
        t = { s with log := t.log, links := t.links }) ∧
    (s.filters.hourTicks = 59 →
      exec .filterFieldsHandover s = .next { s with
        filters := { s.filters with hourTicks := 0 }
        store :=
          { s.store with
            persisted := ⟨s.filters.records.supply.kept, s.filters.records.extract.kept⟩
            changed := true
            urgent := true } })

/-! ### The humidity monitor -/

/-- R119, R120, R124 to R126, R129: the boost time limit re-baselines a BOOSTING zone to QUIET and removes its
entry. The third failed sample in a row makes a zone's sensor stale: QUIET goes STALE, BOOSTING goes RECOVERING
with its entry re-timed to `zone_n_overrun`, RECOVERING stays; SENSOR_STALE is raised and a PROBE record written.
So it does for the extract sensor, and an ON dry guard then turns OFF. That the PROBE record stands before the ZONE
record, and that a zone with no last sample keeps its baseline, is the model's choice (assumptions 29 and 24). -/
def Obligations.SensorsGoStaleAndZonesRebaseline : Prop :=
  ∀ s : State,
    (∀ n z, s.humidity.zones.get n = z → z.state = .boosting →
      s.settings.nat (.zone n .maxBoost) ≤ z.boostTimer + 1 → s.table.isLive (zoneSlot n) = true →
      ∃ t, exec (.boostRebaseline n) s = .next t ∧
        t.humidity = { s.humidity with
          zones := s.humidity.zones.set n
            { z with
              state := .quiet, boostTimer := 0, lowCount := 0
              baseline := match z.last with | some x => some x.ah | none => z.baseline } } ∧
        t.table = { s.table with entries := s.table.entries.filter fun e => !(e.slot == zoneSlot n) } ∧
        Wrote s t [.zone n .quiet (z.last.map Sample.ah) .rebaselined] ∧
        Delivered s t (byMap s [.zoneState]) ∧ (s.isLoading = false → Resolved t) ∧
        t = { s with
          humidity := t.humidity, table := t.table, links := t.links, log := t.log, op := t.op,
          damper := t.damper }) ∧
    (∀ n z, s.humidity.zones.get n = z → z.zoneType ≠ .unused → z.failures = 2 →
      ∃ t, exec (.sensorStale (.zone n)) s = .next t ∧
        (z.state = .quiet →
          t.humidity = { s.humidity with
            zones := s.humidity.zones.set n { z with state := .stale, failures := 3, stale := true } } ∧
          t.table = s.table ∧
          Wrote s t [.probe (.sensor (.zone n)) false, .zone n .stale (z.last.map Sample.ah) .silent] ∧
          Delivered s t (byMap s [.sensorStale, .zoneState])) ∧
        (z.state = .boosting → s.table.isLive (zoneSlot n) = true →
          t.humidity = { s.humidity with
            zones := s.humidity.zones.set n
              { z with state := .recovering, failures := 3, stale := true, lowCount := 0 } } ∧
          t.table =
            { s.table with
              entries := s.table.entries.map fun e =>
                if e.slot = zoneSlot n then
                  { e with remaining := some (min (max (s.settings.nat (.zone n .overrun)) 1) 1440) }
                else e } ∧
          Wrote s t [.probe (.sensor (.zone n)) false, .zone n .recovering (z.last.map Sample.ah) .lost] ∧
          Delivered s t (byMap s [.sensorStale, .zoneState]) ∧ (s.isLoading = false → Resolved t)) ∧
        (z.state = .recovering →
          t.humidity = { s.humidity with
            zones := s.humidity.zones.set n { z with failures := 3, stale := true } } ∧
          t.table = s.table ∧ Wrote s t [.probe (.sensor (.zone n)) false] ∧
          Delivered s t (byMap s [.sensorStale])) ∧
        t = { s with
          humidity := t.humidity, table := t.table, links := t.links, log := t.log, op := t.op,
          damper := t.damper }) ∧
    (s.humidity.extract.failures = 2 →
      ∃ t, exec (.sensorStale .extract) s = .next t ∧
        t.humidity = { s.humidity with
          extract := { s.humidity.extract with failures := 3, stale := true }
          dryPlaced := none } ∧
        (s.humidity.dryPlaced = none → t.table = s.table) ∧
        (∀ v, s.humidity.dryPlaced = some v →
          t.table = { s.table with entries := s.table.entries.filter fun e => !(e.slot == drySlot) }) ∧
        Wrote s t [.probe (.sensor .extract) false] ∧ Delivered s t (byMap s [.sensorStale]) ∧
        t = { s with
          humidity := t.humidity, table := t.table, links := t.links, log := t.log, op := t.op,
          damper := t.damper })

/-- R97, R111, R112, R115 to R118: a good sample of a typed zone, taken at the eighth reply byte of its scanner
transaction. It replaces the last sample, the failure count is 0 and the stale flag clear. `ah` is its absolute
humidity and `base` the baseline, or `ah` when there is none. QUIET boosts on the rise or on 85 % and otherwise
tracks; BOOSTING settles on two settling samples in a row; RECOVERING returns to BOOSTING; STALE takes a new
baseline and is judged as QUIET. R124, R125: each change of state writes its ZONE record with its cause, and
ZONE_STATE is raised once; a sensor that was stale raises SENSOR_STALE and writes its PROBE record, which stands
before the ZONE records by the model's choice (assumption 29). `told` says what the event writes and raises. -/
def Obligations.ZonesJudgeTheirSamples : Prop :=
  ∀ (s : State) (n : Zone) (z : ZoneRecord) (req : BusRequest) (start a d0 d1 d2 d3 crc : Byte)
    (rh ah base : Nat) (v : Int) (told : State → List (ZoneState × ZoneCause) → Prop),
    s.bus.transaction =
      some { originator := .scanner (.zone n), request := req, phase := .awaiting,
             reply := [start, a, 0x00#8, d0, d1, d2, d3] } →
    crc8 [a, 0x00#8, d0, d1, d2, d3] = crc → a.toNat = req.address →
    rh = d0.toNat * 256 + d1.toNat → v = (d2 ++ d3 : Half).toInt → rh ≤ 1000 → -400 ≤ v → v ≤ 850 →
    ah = rh * satDensity v / 1000 →
    s.settings.Ok → s.humidity.zones.get n = z → z.zoneType ≠ .unused → base = z.baseline.getD ah →
    (∀ t changes, told t changes ↔
      Wrote s t ((if z.stale then [.probe (.sensor (.zone n)) true] else [])
        ++ changes.map fun c => .zone n c.1 (some ah) c.2) ∧
      Delivered s t (byMap s
        ((if z.stale then [.sensorStale] else []) ++ if changes = [] then [] else [.zoneState]))) →
    ∃ t, exec (.busReply crc) s = .next t ∧
      (∀ m, m ≠ n → t.humidity.zones.get m = s.humidity.zones.get m) ∧
      t.humidity = { s.humidity with zones := t.humidity.zones } ∧
      t.table.entries.filter (fun e => !(e.slot == zoneSlot n))
        = s.table.entries.filter (fun e => !(e.slot == zoneSlot n)) ∧
      t = { s with
        bus := t.bus, humidity := t.humidity, table := t.table, links := t.links, log := t.log, op := t.op,
        damper := t.damper } ∧
      ∀ y, t.humidity.zones.get n = y →
      (z.state ≠ .unused →
        y.last = some { rh := rh, t := v, ah := ah } ∧ y.failures = 0 ∧ y.stale = false ∧
          y.zoneType = z.zoneType) ∧
      (z.state = .quiet → (ah : Int) - base < s.settings.get (.zone n .boostOn) → rh < 850 →
        y.state = .quiet ∧ y.baseline = some ((base : Int) + ((ah : Int) - base).tdiv 32).toNat ∧ told t []) ∧
      (z.state = .quiet → s.settings.get (.zone n .boostOn) ≤ (ah : Int) - base ∨ 850 ≤ rh →
        y.state = .boosting ∧ y.baseline = some base ∧ y.lowCount = 0 ∧ y.boostTimer = 0 ∧
        told t [(.boosting, if s.settings.get (.zone n .boostOn) ≤ (ah : Int) - base then .rise else .rhHigh)] ∧
        ∃ e ∈ t.table.entries, e.slot = zoneSlot n ∧ e.source = .zone n ∧ e.remaining = none ∧
          e.want = .raise (s.settings.nat (.zone n .boostLevel))) ∧
      (z.state = .boosting → (ah : Int) - base ≤ s.settings.get (.zone n .boostOff) → rh < 850 →
        y.baseline = z.baseline ∧ y.boostTimer = z.boostTimer ∧
        (z.lowCount = 0 → y.state = .boosting ∧ y.lowCount = 1 ∧ told t []) ∧
        (z.lowCount = 1 → y.state = .recovering ∧ y.lowCount = 0 ∧ told t [(.recovering, .settled)] ∧
          ∀ e ∈ t.table.entries, e.slot = zoneSlot n →
            e.remaining = some (s.settings.nat (.zone n .overrun)))) ∧
      (z.state = .boosting → s.settings.get (.zone n .boostOff) < (ah : Int) - base ∨ 850 ≤ rh →
        y.state = .boosting ∧ y.lowCount = 0 ∧ y.baseline = z.baseline ∧ y.boostTimer = z.boostTimer ∧
        told t []) ∧
      (z.state = .recovering → s.settings.get (.zone n .boostOn) ≤ (ah : Int) - base ∨ 850 ≤ rh →
        y.state = .boosting ∧ y.lowCount = 0 ∧ y.baseline = z.baseline ∧ y.boostTimer = z.boostTimer ∧
        told t [(.boosting, .resumed)] ∧
        ∀ e ∈ t.table.entries, e.slot = zoneSlot n → e.remaining = none) ∧
      (z.state = .recovering → (ah : Int) - base < s.settings.get (.zone n .boostOn) → rh < 850 →
        y.state = .recovering ∧ y.baseline = z.baseline ∧ t.table = s.table ∧ told t []) ∧
      (z.state = .stale → y.baseline = some ah ∧
        (rh < 850 → y.state = .quiet ∧ told t [(.quiet, .fresh)]) ∧
        (850 ≤ rh → y.state = .boosting ∧ told t [(.quiet, .fresh), (.boosting, .rhHigh)]))

/-- R126, R127, R129, R130: a good sample of the extract sensor replaces RH_eta and AH_eta, and the dry guard then
decides: OFF turns ON below `dry_on` with T_oda healthy and below 0, placing its SETBACK, standing, newest, in slot 15; ON turns OFF
at `dry_off`, or without a healthy T_oda below +20, and its entry is removed; ON with another `dry_level` places
its entry again; and otherwise neither the guard nor the table changes. A sensor that was stale raises SENSOR_STALE and
writes its PROBE record. -/
def Obligations.DryGuardDecidesAtTheExtractSample : Prop :=
  ∀ (s : State) (req : BusRequest) (start a d0 d1 d2 d3 crc : Byte) (rh : Nat) (v : Int) (oda : Option Int)
    (placed : DemandTable),
    s.bus.transaction =
      some { originator := .scanner .extract, request := req, phase := .awaiting,
             reply := [start, a, 0x00#8, d0, d1, d2, d3] } →
    crc8 [a, 0x00#8, d0, d1, d2, d3] = crc → a.toNat = req.address →
    rh = d0.toNat * 256 + d1.toNat → v = (d2 ++ d3 : Half).toInt → rh ≤ 1000 → -400 ≤ v → v ≤ 850 →
    s.settings.Ok →
    oda = (match (s.frost.probes.get .oda).status with | .good o => some o | _ => none) →
    placed =
      { tags := s.table.tags.set 15 (s.table.tags.get drySlot + 1)
        entries := (s.table.entries.filter fun e => !(e.slot == drySlot)) ++
          [{ slot := drySlot, gen := s.table.tags.get drySlot + 1, source := .dryGuard,
             want := .setback (s.settings.nat .dryLevel), remaining := none, posted := s.time.stamp }] } →
    ∃ t, exec (.busReply crc) s = .next t ∧
      t.humidity.zones = s.humidity.zones ∧
      t.humidity.extract = { last := some (rh, rh * satDensity v / 1000), failures := 0, stale := false } ∧
      (s.humidity.dryPlaced = none → ∀ o, oda = some o → rh < s.settings.nat .dryOn → o < 0 →
        t.humidity.dryPlaced = some (s.settings.nat .dryLevel) ∧ t.table = placed) ∧
      (s.humidity.dryPlaced = none →
        oda = none ∨ s.settings.nat .dryOn ≤ rh ∨ (∃ o, oda = some o ∧ 0 ≤ o) →
        t.humidity.dryPlaced = none ∧ t.table = s.table) ∧
      (∀ level, s.humidity.dryPlaced = some level →
        oda = none ∨ s.settings.nat .dryOff ≤ rh ∨ (∃ o, oda = some o ∧ 20 ≤ o) →
        t.humidity.dryPlaced = none ∧
        t.table = { s.table with entries := s.table.entries.filter fun e => !(e.slot == drySlot) }) ∧
      (∀ level o, s.humidity.dryPlaced = some level → oda = some o → o < 20 → rh < s.settings.nat .dryOff →
        (s.settings.nat .dryLevel = level → t.humidity.dryPlaced = some level ∧ t.table = s.table) ∧
        (s.settings.nat .dryLevel ≠ level →
          t.humidity.dryPlaced = some (s.settings.nat .dryLevel) ∧ t.table = placed)) ∧
      Wrote s t (if s.humidity.extract.stale then [.probe (.sensor .extract) true] else []) ∧
      Delivered s t (byMap s (if s.humidity.extract.stale then [.sensorStale] else [])) ∧
      t = { s with
        bus := t.bus, humidity := t.humidity, table := t.table, links := t.links, log := t.log, op := t.op,
        damper := t.damper }

/-! ### The filter monitor and the procedure -/

/-- R139 to R144: a filter step judges each filter whose probe is good, and passes over one whose probe is faulted.
`made` says that the pressure computation is made, `d` is the normalised drop and `ds` the smoothed drop it gives;
the loading, the missing counter, the life used and the state follow. A changed state raises FILTER_STATE, writes
its FILTER record and notifies the resolver. -/
def Obligations.FilterStepJudgesEachFilter : Prop :=
  ∀ (s : State), s.isLoading = false →
    ∃ t, exec .filterStep s = .next t ∧
      (∀ f x y fan, s.filters.records.get f = x → t.filters.records.get f = y → s.fans.get f = fan →
        (x.probeFault = true ∨ x.lastGood = none → y = x) ∧
        (∀ dp, x.probeFault = false → x.lastGood = some dp →
          ∀ (made : Bool) (d ds : Nat),
          made = (decide (fan.state = .running) && decide (200 ≤ fan.flow) && !fan.probeFault
            && !(decide (f = .supply) && decide (s.frost.record.stage = .thaw))) →
          d = min (dp * s.settings.nat .qRef * s.settings.nat .qRef / (fan.flow * fan.flow)) 5000 →
          ds = (match x.smoothed with
            | none => d
            | some before => ((before : Int) + ((d : Int) - before).tdiv 16).toNat) →
          (made = false → y.smoothed = x.smoothed ∧ y.loading = x.loading ∧ y.missing = x.missing) ∧
          (made = true →
            y.smoothed = some ds ∧
            (x.kept.clean = none → y.loading = 0 ∧ y.missing = x.missing) ∧
            (∀ clean, x.kept.clean = some clean →
              (y.loading : Int) =
                min (max ((((ds : Int) - clean) * 100).tdiv
                  ((clean * s.settings.nat .endFactor / 10 : Nat) - (clean : Int))) 0) 100 ∧
              y.missing =
                (if ds < clean * 4 / 10 then min (x.missing + 1) 10
                 else if ds < clean * 6 / 10 then x.missing else 0))) ∧
          y.lifeUsed =
            min 100 (max y.loading
              (max (x.kept.volume * 100 / s.settings.nat .lifeVolume)
                (x.kept.age * 100 / (s.settings.nat .maxAge * 1440)))) ∧
          y.state =
            (if 10 ≤ y.missing then .missing
             else if fan.shortfall = true ∧ 80 ≤ y.loading then .blocked
             else if 100 ≤ y.lifeUsed then .overdue
             else if s.settings.nat .dueLevel ≤ y.lifeUsed then .due
             else if 50 ≤ y.lifeUsed then .loading
             else .clean) ∧
          y.kept = x.kept ∧ y.carry = x.carry ∧ y.probeFault = x.probeFault ∧ y.probeCount = x.probeCount ∧
          y.lastGood = x.lastGood)) ∧
      t.filters.steps = s.filters.steps + 1 ∧ t.filters.hourTicks = s.filters.hourTicks ∧
      (∀ moved : Side → Bool,
        (∀ f, moved f = decide ((t.filters.records.get f).state ≠ (s.filters.records.get f).state)) →
        Wrote s t (([Side.supply, Side.extract].filter moved).map fun f =>
          .filter f (t.filters.records.get f).state (t.filters.records.get f).lifeUsed
            (t.filters.records.get f).kept) ∧
        Delivered s t (byMap s (if moved .supply || moved .extract then [.filterState] else [])) ∧
        (moved .supply = true ∨ moved .extract = true → Resolved t)) ∧
      t = { s with filters := t.filters, op := t.op, damper := t.damper, links := t.links, log := t.log }

/-- R146, R154: START is checked in order: the selection, the runner, the frost stage, the fans, and the probes of
the selected sides; one that passes begins SETTLING for the link and notifies the resolver, and one that is refused
changes nothing. ABORT from the owner ends the procedure with ABORTED_REQUEST, from another link it is answered
NOTOWNER, and with none running NOENTRY. -/
def Obligations.ProcedureStartsAndIsAborted : Prop :=
  ∀ (s : State) (l : Link) (tag : Byte), Ready s l →
    (∀ code : Byte, 2 < code.toNat →
      exec (.start l tag code) s = .next (onlyReply s l tag 0x09#8 .bad [])) ∧
    (∀ (code : Byte) (sel : Selection) (bad : Side → Bool), code.toNat = selectionCode sel →
      (∀ f, bad f = ((s.fans.get f).probeFault || (s.filters.records.get f).probeFault
        || (s.filters.records.get f).lastGood.isNone)) →
      (s.runner.procedure.isRunning = true →
        exec (.start l tag code) s = .next (onlyReply s l tag 0x09#8 .busy [])) ∧
      (s.runner.procedure.isRunning = false →
        (s.frost.record.stage ≠ .normal ∧ s.frost.record.stage ≠ .watch ∧ s.frost.record.stage ≠ .preheat) ∨
        (∃ f, (s.fans.get f).state = .stalled ∨ (s.fans.get f).state = .retrying ∨
          (s.fans.get f).state = .failed) ∨
        (∃ f, sel.has f = true ∧ bad f = true) →
        exec (.start l tag code) s = .next (onlyReply s l tag 0x09#8 .notNow [])) ∧
      (s.runner.procedure.isRunning = false →
        (s.frost.record.stage = .normal ∨ s.frost.record.stage = .watch ∨ s.frost.record.stage = .preheat) →
        (∀ f, (s.fans.get f).state = .stopped ∨ (s.fans.get f).state = .starting ∨
          (s.fans.get f).state = .running) →
        (∀ f, sel.has f = true → bad f = false) →
        ∃ t, exec (.start l tag code) s = .next t ∧
          t.runner = { s.runner with procedure := .settling l sel 0 } ∧
          t.op.s = s.settings.nat .qRef ∧ t.op.e = s.settings.nat .qRef ∧ Resolved t ∧
          Replies t l tag 0x09#8 .ok [] ∧ othersKept s t l ∧ Given s t (fun _ _ => false) ∧
          t = { s with runner := t.runner, op := t.op, damper := t.damper, links := t.links })) ∧
    (s.runner.procedure = .idle →
      exec (.abort l tag) s = .next (onlyReply s l tag 0x0A#8 .noEntry [])) ∧
    (∀ owner sel, s.runner.procedure.running? = some (owner, sel) →
      (owner ≠ l → exec (.abort l tag) s = .next (onlyReply s l tag 0x0A#8 .notOwner [])) ∧
      (owner = l → ∃ t, exec (.abort l tag) s = .next t ∧
        t.runner = endedRunner s .abortedRequest ⟨none, none⟩ ∧ t.runner.procedure = .idle ∧
        Wrote s t [.procedure .abortedRequest sel l] ∧ Replies t l tag 0x0A#8 .ok [] ∧
        Given s t (endGiven s .abortedRequest) ∧ Resolved t ∧
        t = { s with
          runner := t.runner, op := t.op, damper := t.damper, links := t.links, log := t.log }))

/-- R145, R147 to R150, R153: a procedure second. SETTLING counts to 90 and is then checked; MEASURING counts, checks
and samples at every tenth second; and at 60 the selected filters take the mean of their six samples, at least 10,
as clean reference, with their counters at 0, the store takes the persisted fields, and the procedure ends DONE:
each selected filter whose state changed raises FILTER_STATE and writes its FILTER record, SUPPLY before EXTRACT, and
the PROCEDURE record and PROCEDURE_END follow.
A flow outside `q_ref` by more than a tenth ends it FAILED_FLOW, a faulted probe FAILED_PROBE. `out` and `bad` say
so of a side, and `drop` is its normalised drop. -/
def Obligations.ProcedureSecondsCheckSampleAndCommit : Prop :=
  ∀ (s : State) (o : Link) (sel : Selection) (out bad : Side → Bool) (drop : Side → Nat),
    (∀ f, out f = !(decide (s.settings.nat .qRef - s.settings.nat .qRef / 10 ≤ (s.fans.get f).flow)
      && decide ((s.fans.get f).flow ≤ s.settings.nat .qRef + s.settings.nat .qRef / 10))) →
    (∀ f, bad f = ((s.fans.get f).probeFault || (s.filters.records.get f).probeFault
      || (s.filters.records.get f).lastGood.isNone)) →
    (∀ f, drop f = min ((s.filters.records.get f).lastGood.getD 0 * s.settings.nat .qRef * s.settings.nat .qRef
      / ((s.fans.get f).flow * (s.fans.get f).flow)) 5000) →
    (∀ n, s.runner.procedure = .settling o sel n → n < 89 →
      exec .procedureSecond s =
        .next { s with runner := { s.runner with procedure := .settling o sel (n + 1) } }) ∧
    (s.runner.procedure = .settling o sel 89 →
      exec .flowCheck s = exec .procedureSecond s ∧
      ∃ t, exec .procedureSecond s = .next t ∧
        ((∃ f, sel.has f = true ∧ out f = true) →
          t.runner = endedRunner s .failedFlow ⟨none, none⟩ ∧ Wrote s t [.procedure .failedFlow sel o] ∧
          Delivered s t (endGiven s .failedFlow)) ∧
        ((∀ f, sel.has f = true → out f = false) → (∃ f, sel.has f = true ∧ bad f = true) →
          t.runner = endedRunner s .failedProbe ⟨none, none⟩ ∧ Wrote s t [.procedure .failedProbe sel o] ∧
          Delivered s t (endGiven s .failedProbe)) ∧
        ((∀ f, sel.has f = true → out f = false ∧ bad f = false) →
          t.runner = { s.runner with procedure := .measuring o sel 0 ⟨[], []⟩ } ∧ t.links = s.links ∧
          t.log = s.log) ∧
        (s.isLoading = false → Resolved t) ∧
        t = { s with
          runner := t.runner, op := t.op, damper := t.damper, links := t.links, log := t.log }) ∧
    (∀ n taken, s.runner.procedure = .measuring o sel n taken → (n + 1) % 10 ≠ 0 →
      exec .procedureSecond s =
        .next { s with runner := { s.runner with procedure := .measuring o sel (n + 1) taken } }) ∧
    (∀ n taken, s.runner.procedure = .measuring o sel n taken → (n + 1) % 10 = 0 →
      exec .procedureSample s = exec .procedureSecond s ∧
      ((∀ f, sel.has f = true → out f = false ∧ bad f = false) →
        ∀ new : PerSide (List Nat),
          (∀ f, new.get f = if sel.has f then taken.get f ++ [drop f] else taken.get f) →
          (n + 1 < 60 →
            exec .procedureSecond s =
              .next { s with runner := { s.runner with procedure := .measuring o sel (n + 1) new } }) ∧
          (n + 1 = 60 →
            ∃ t, exec .procedureSecond s = .next t ∧
              (∀ f, sel.has f = false → t.filters.records.get f = s.filters.records.get f) ∧
              (∀ f y, sel.has f = true → t.filters.records.get f = y →
                y.kept =
                  { clean := some (max ((new.get f).sum / 6) 10), volume := 0, running := 0, age := 0,
                    changes := min ((s.filters.records.get f).kept.changes + 1) 65535 } ∧
                y.smoothed = some (max ((new.get f).sum / 6) 10) ∧ y.loading = 0 ∧ y.carry = 0 ∧
                y.missing = 0 ∧ y.lifeUsed = 0 ∧ (s.settings.Ok → y.state = .clean)) ∧
              t.store =
                { s.store with
                  persisted := ⟨t.filters.records.supply.kept, t.filters.records.extract.kept⟩
                  changed := true
                  urgent := true } ∧
              t.runner = endedRunner s .done
                ⟨if sel.has .supply then some (max (new.supply.sum / 6) 10) else none,
                 if sel.has .extract then some (max (new.extract.sum / 6) 10) else none⟩ ∧
              (∀ moved : Side → Bool,
                (∀ f, moved f = (sel.has f
                  && decide ((t.filters.records.get f).state ≠ (s.filters.records.get f).state))) →
                Wrote s t ((([Side.supply, Side.extract].filter moved).map fun f =>
                  .filter f (t.filters.records.get f).state (t.filters.records.get f).lifeUsed
                    (t.filters.records.get f).kept) ++ [.procedure .done sel o]) ∧
                Delivered s t (fun l k =>
                  byMap s (if moved .supply || moved .extract then [.filterState] else []) l k
                    || endGiven s .done l k)) ∧
              (s.isLoading = false → Resolved t) ∧
              t = { s with
                filters := t.filters, store := t.store, runner := t.runner, op := t.op, damper := t.damper,
                links := t.links, log := t.log })) ∧
      ((∃ f, sel.has f = true ∧ (out f = true ∨ bad f = true)) →
        ∃ t r, exec .procedureSecond s = .next t ∧
          (r = .failedFlow ∨ r = .failedProbe) ∧
          ((∀ f, sel.has f = true → out f = false) → r = .failedProbe) ∧
          ((∀ f, sel.has f = true → bad f = false) → r = .failedFlow) ∧
          t.runner = endedRunner s r ⟨none, none⟩ ∧ Wrote s t [.procedure r sel o] ∧
          Delivered s t (endGiven s r) ∧ t.filters = s.filters))

/-! ### The sensor bus -/

/-- R95, R96, R98 to R100: a scan round adds each typed zone's sensor and the extract sensor, in order, unless it
waits already, and on an idle bus with no one waiting the first begins its SAMPLE at its own address. The end of a
request opens the window, and in it the bytes from the start byte on are taken, the eighth as BUS_REPLY. -/
def Obligations.ScanRoundsAndReplyBytesAreTaken : Prop :=
  ∀ (s : State) (round : List Sensor),
    round = (if (s.humidity.zones.get .z1).zoneType = .unused then [] else [.zone .z1])
      ++ (if (s.humidity.zones.get .z2).zoneType = .unused then [] else [.zone .z2])
      ++ (if (s.humidity.zones.get .z3).zoneType = .unused then [] else [.zone .z3])
      ++ (if (s.humidity.zones.get .z4).zoneType = .unused then [] else [.zone .z4]) ++ [.extract] →
    (s.isLoading = true → exec .scanRound s = .next s) ∧
    (∀ x, s.isLoading = false → s.bus.transaction = some x →
      exec .scanRound s = .next { s with bus :=
        { s.bus with
          scanQueue := s.bus.scanQueue ++ round.filter fun n => decide (n ∉ s.bus.scanQueue)
          roundCount := 0 } }) ∧
    (∀ n rest, s.isLoading = false → s.bus.transaction = none → s.bus.scanQueue = [] → s.bus.passQueue = [] →
      round = n :: rest →
      exec .scanRound s = .next { s with bus :=
        { s.bus with
          scanQueue := rest
          roundCount := 0
          transaction := some
            { originator := .scanner n
              request :=
                { address := s.settings.nat (match n with | .zone z => .zone z .address | .extract => .extractAddress)
                  command := .sample
                  register := 0 }
              phase := .sending
              reply := [] } } }) ∧
    (∀ x, s.bus.transaction = some x → x.phase = .sending →
      exec .requestSent s =
        .next { s with bus := { s.bus with transaction := some { x with phase := .awaiting } } } ∧
      ∀ b, exec (.busReplyByte b) s = .next s) ∧
    (s.bus.transaction = none → ∀ b, exec (.busReplyByte b) s = .next s) ∧
    (∀ x b, s.bus.transaction = some x → x.phase = .awaiting →
      (x.reply = [] → b ≠ 0x69#8 → exec (.busReplyByte b) s = .next s) ∧
      (x.reply = [] ∧ b = 0x69#8 ∨ (1 ≤ x.reply.length ∧ x.reply.length < 7) →
        exec (.busReplyByte b) s =
          .next { s with bus := { s.bus with transaction := some { x with reply := x.reply ++ [b] } } }) ∧
      (x.reply.length = 7 → exec (.busReplyByte b) s = exec (.busReply b) s))

/-- R97, R101, R105 to R107, R119: the three ends of a transaction: the eighth byte, a framing error after the start
byte, and the end of the window. A pass-through's outcome is stored DONE and PROBE_READY is raised to its link
alone, or is dropped when it is marked for discard. A scanner's failed outcome raises its zone's failure count, and
its end raises the credit; the third in a row makes the sensor stale, as SENSOR_STALE does. R126: a failed outcome of the
extract sensor raises its count and holds its values, and the dry guard decides on them as they stand. R100, R107: the
end is followed by a grant decision: entries of UNUSED zones before the one selected are dropped; a waiting pass-through
starts when the scanner queue holds no entry but such, or when the credit is at `scan_quota`; and otherwise the oldest
scanner entry of a typed zone or of the extract sensor starts. `credit` is the credit the grant reads. -/
def Obligations.TransactionsEndInTheirOutcome : Prop :=
  ∀ (s : State) (x : Transaction) (c : Instr) (o : BusOutcome),
    s.bus.transaction = some x → x.phase = .awaiting →
    (c = .busReplyTimeout ∧ o = .timeout) ∨ (c = .busFramingError ∧ x.reply ≠ [] ∧ o = .corrupt) ∨
      (∃ start a st d0 d1 d2 d3 crc, c = .busReply crc ∧ x.reply = [start, a, st, d0, d1, d2, d3] ∧
        o = if crc8 [a, st, d0, d1, d2, d3] = crc then
              (if a.toNat = x.request.address then .ok ⟨a, st, d0, d1, d2, d3⟩
               else .wrongAddress ⟨a, st, d0, d1, d2, d3⟩)
            else .corrupt) →
    ∃ t, exec c s = .next t ∧
      (s.bus.scanQueue = [] → s.bus.passQueue = [] → t.bus.transaction = none) ∧
      (∀ l req, x.originator = .passThrough l → s.bus.pass.get l = .active req false →
        t.bus.pass.get l = .done req o ∧
        Delivered s t (fun m k => decide (m = l ∧ k = .probeReady)) ∧
        hasKind (t.links.get l).addressed .probeReady = true ∧
        t = { s with bus := t.bus, links := t.links }) ∧
      (∀ l req, x.originator = .passThrough l → s.bus.pass.get l = .active req true → l ∉ s.bus.passQueue →
        t.bus.pass.get l = .idle ∧ t = { s with bus := t.bus }) ∧
      (∀ n, x.originator = .scanner n → s.bus.scanQueue = [] → s.bus.passQueue = [] →
        t.bus =
          { s.bus with
            transaction := none, credit := min (s.bus.credit + 1) (s.settings.nat .scanQuota) } ∧
        (∀ z y, n = .zone z → s.humidity.zones.get z = y → y.zoneType ≠ .unused → y.failures < 2 →
          (∀ d, o ≠ .ok d) ∨ (∃ d, o = .ok d ∧ d.status ≠ 0x00#8) →
          t = { s with
            bus := t.bus
            humidity :=
              { s.humidity with
                zones := s.humidity.zones.set z { y with failures := y.failures + 1 } } }) ∧
        (∀ z y, n = .zone z → s.humidity.zones.get z = y → y.zoneType = .unused → t = { s with bus := t.bus }) ∧
        ((∀ d, o ≠ .ok d) ∨ (∃ d, o = .ok d ∧ d.status ≠ 0x00#8) →
          (∀ z, n = .zone z → (s.humidity.zones.get z).zoneType ≠ .unused → (s.humidity.zones.get z).failures = 2 →
            exec (.sensorStale n) { s with bus := t.bus } = .next t) ∧
          (n = .extract → s.humidity.extract.failures = 2 →
            exec (.sensorStale n) { s with bus := t.bus } = .next t) ∧
          (∀ e, n = .extract → s.humidity.extract = e → e.failures ≠ 2 → e.stale = false →
            t.humidity.extract =
              { e with failures := if e.failures < 2 then e.failures + 1 else e.failures } ∧
            t.humidity.zones = s.humidity.zones ∧ t.links = s.links ∧ t.log = s.log ∧
            ∀ (oda : Option Int) (placed : DemandTable),
              oda = (match (s.frost.probes.get .oda).status with | .good v => some v | _ => none) →
              placed =
                { tags := s.table.tags.set 15 (s.table.tags.get drySlot + 1)
                  entries := (s.table.entries.filter fun e => !(e.slot == drySlot)) ++
                    [{ slot := drySlot, gen := s.table.tags.get drySlot + 1, source := .dryGuard,
                       want := .setback (min (s.settings.nat .dryLevel) 1200), remaining := none,
                       posted := s.time.stamp }] } →
              (s.humidity.dryPlaced = none →
                (∃ rh ah v, e.last = some (rh, ah) ∧ rh < s.settings.nat .dryOn ∧ oda = some v ∧ v < 0) →
                t.humidity.dryPlaced = some (s.settings.nat .dryLevel) ∧ t.table = placed) ∧
              (s.humidity.dryPlaced = none →
                ¬(∃ rh ah v, e.last = some (rh, ah) ∧ rh < s.settings.nat .dryOn ∧ oda = some v ∧ v < 0) →
                t.humidity.dryPlaced = none ∧ t.table = s.table) ∧
              (∀ level, s.humidity.dryPlaced = some level →
                ∀ off : Prop,
                (off ↔ (∃ rh ah, e.last = some (rh, ah) ∧ s.settings.nat .dryOff ≤ rh) ∨ oda = none ∨
                  ∃ v, oda = some v ∧ 20 ≤ v) →
                (off → t.humidity.dryPlaced = none ∧
                  t.table = { s.table with entries := s.table.entries.filter fun e => !(e.slot == drySlot) }) ∧
                (¬off → s.settings.nat .dryLevel = level → t.humidity.dryPlaced = some level ∧ t.table = s.table) ∧
                (¬off → s.settings.nat .dryLevel ≠ level →
                  t.humidity.dryPlaced = some (s.settings.nat .dryLevel) ∧ t.table = placed))))) ∧
      ∀ (credit : Nat) (unused : Sensor → Bool) (dropped later : List Sensor),
        credit = (match x.originator with
          | .scanner _ => min (s.bus.credit + 1) (s.settings.nat .scanQuota)
          | .passThrough _ => s.bus.credit) →
        (∀ n, unused n = true ↔ ∃ z, n = .zone z ∧ (s.humidity.zones.get z).zoneType = .unused) →
        s.bus.scanQueue = dropped ++ later → (∀ n ∈ dropped, unused n = true) →
        (∀ n ∈ later.head?, unused n = false) →
        (∀ l queue req, s.bus.passQueue = l :: queue → s.bus.pass.get l = .queued req →
          x.originator ≠ .passThrough l →
          (later = [] ∨ s.settings.nat .scanQuota ≤ credit →
            t.bus.transaction = some
              { originator := .passThrough l, request := req, phase := .sending, reply := [] } ∧
            t.bus.pass.get l = .active req false ∧ t.bus.passQueue = queue ∧ t.bus.credit = 0 ∧
            t.bus.scanQueue = if s.settings.nat .scanQuota ≤ credit then s.bus.scanQueue else [])) ∧
        (∀ n rest, later = n :: rest → s.bus.passQueue = [] ∨ credit < s.settings.nat .scanQuota →
          t.bus.transaction = some
            { originator := .scanner n
              request :=
                { address := s.settings.nat (match n with | .zone z => .zone z .address | .extract => .extractAddress)
                  command := .sample
                  register := 0 }
              phase := .sending
              reply := [] } ∧
          t.bus.scanQueue = rest ∧ t.bus.passQueue = s.bus.passQueue ∧ t.bus.credit = credit) ∧
        (later = [] → s.bus.passQueue = [] →
          t.bus.transaction = none ∧ t.bus.scanQueue = [] ∧ t.bus.credit = credit)

/-- R103, R104, R107: PROBE from SERVICE is answered BAD on values outside its ranges, PENDING from IDLE or DONE with
the link at the end of the queue, or at once in flight on an idle bus, and BUSY from QUEUED or ACTIVE. FETCH is
answered by the pass-through record's state, and a DONE record is given once and becomes IDLE. -/
def Obligations.ProbeAndFetchFollowTheRecord : Prop :=
  ∀ (s : State) (tag : Byte) (p : PassRecord), Ready s .service → s.bus.pass.get .service = p →
    (∀ a c r : Byte, a.toNat < 1 ∨ 14 < a.toNat ∨ (c ≠ 0x01#8 ∧ c ≠ 0x02#8) ∨ (c = 0x02#8 ∧ 31 < r.toNat) →
      exec (.probe .service tag a c r) s = .next (onlyReply s .service tag 0x0E#8 .bad [])) ∧
    (∀ (a c r : Byte) (req : BusRequest), 1 ≤ a.toNat → a.toNat ≤ 14 →
      (c = 0x01#8 ∧ req = { address := a.toNat, command := .sample, register := 0 }) ∨
        (c = 0x02#8 ∧ r.toNat ≤ 31 ∧ req = { address := a.toNat, command := .readReg, register := r.toNat }) →
      ((∃ q, p = .queued q) ∨ (∃ q m, p = .active q m) →
        exec (.probe .service tag a c r) s = .next (onlyReply s .service tag 0x0E#8 .busy [])) ∧
      (p = .idle ∨ (∃ q o, p = .done q o) →
        (∀ x, s.bus.transaction = some x →
          exec (.probe .service tag a c r) s =
            .next (onlyReply
              { s with bus :=
                { s.bus with
                  passQueue := s.bus.passQueue ++ [.service], pass := s.bus.pass.set .service (.queued req) } }
              .service tag 0x0E#8 .pending [])) ∧
        (s.bus.transaction = none → s.bus.scanQueue = [] → s.bus.passQueue = [] →
          exec (.probe .service tag a c r) s =
            .next (onlyReply
              { s with bus :=
                { s.bus with
                  pass := s.bus.pass.set .service (.active req false)
                  credit := 0
                  transaction := some
                    { originator := .passThrough .service, request := req, phase := .sending, reply := [] } } }
              .service tag 0x0E#8 .pending [])))) ∧
    (p = .idle → exec (.fetch .service tag) s = .next (onlyReply s .service tag 0x0F#8 .noEntry [])) ∧
    (∀ q, p = .queued q → exec (.fetch .service tag) s = .next (onlyReply s .service tag 0x0F#8 .pending [])) ∧
    (∀ q m, p = .active q m →
      exec (.fetch .service tag) s =
        .next (onlyReply s .service tag 0x0F#8 (if m then .noEntry else .pending) [])) ∧
    (∀ q o, p = .done q o →
      ∃ bytes, exec (.fetch .service tag) s =
          .next (onlyReply { s with bus := { s.bus with pass := s.bus.pass.set .service .idle } }
            .service tag 0x0F#8 .ok bytes) ∧
        bytes.take 3 = [BitVec.ofNat 8 q.address, BitVec.ofNat 8 (busCommandCode q.command),
          BitVec.ofNat 8 q.register] ∧
        bytes.drop 3 = (match o with
          | .ok d => [0x00#8, d.address, d.status, d.d0, d.d1, d.d2, d.d3]
          | .timeout => [0x01#8, 0xFF#8, 0xFF#8, 0x00#8, 0x00#8, 0x00#8, 0x00#8]
          | .corrupt => [0x02#8, 0xFF#8, 0xFF#8, 0x00#8, 0x00#8, 0x00#8, 0x00#8]
          | .wrongAddress d => [0x03#8, d.address, d.status, d.d0, d.d1, d.d2, d.d3]))

/-! ### The links -/

/-- R157, R158, R169: what a byte, a gap, a bad byte, the end of a reply and the end of a break do to a link: a start
byte begins a frame, a length outside 2 to 50, a framing error, a gap or a bad CRC discards it, the bytes between are
taken, and nothing is taken while a request is served, a reply sent or the line broken. -/
def Obligations.LinksReceiveByTheirTable : Prop :=
  ∀ (s : State) (l : Link) (r : LinkRecord), s.links.get l = r →
    (r.state = .listening →
      exec (.linkByteReceived l 0xA5#8) s =
        .next { s with links := s.links.set l { r with state := .receiving, frame := [0xA5#8] } } ∧
      ∀ b, b ≠ 0xA5#8 → exec (.linkByteReceived l b) s = .next s) ∧
    (∀ a b, r.state = .receiving → r.frame = [a] →
      (2 ≤ b.toNat ∧ b.toNat ≤ 50 →
        exec (.linkByteReceived l b) s = .next { s with links := s.links.set l { r with frame := [a, b] } }) ∧
      (b.toNat < 2 ∨ 50 < b.toNat →
        exec (.linkByteReceived l b) s =
          .next { s with links := s.links.set l { r with state := .listening, frame := [] } } ∧
        exec (.frameDiscarded l (.byte b)) s = exec (.linkByteReceived l b) s)) ∧
    (∀ a len rest b, r.state = .receiving → r.frame = a :: len :: rest →
      (rest.length < len.toNat →
        exec (.linkByteReceived l b) s =
          .next { s with links := s.links.set l { r with frame := a :: len :: rest ++ [b] } }) ∧
      (rest.length = len.toNat → 2 ≤ rest.length → crc8 (len :: rest) ≠ b →
        exec (.linkByteReceived l b) s =
          .next { s with links := s.links.set l { r with state := .listening, frame := [] } } ∧
        exec (.frameDiscarded l (.byte b)) s = exec (.linkByteReceived l b) s)) ∧
    (r.state = .receiving →
      exec (.frameGapTimeout l) s =
        .next { s with links := s.links.set l { r with state := .listening, frame := [] } } ∧
      exec (.frameDiscarded l .framingError) s = exec (.frameGapTimeout l) s) ∧
    (r.state = .serving ∨ r.state = .replying ∨ r.state = .inBreak →
      ∀ b, exec (.linkByteReceived l b) s = .next s) ∧
    (r.state = .replying →
      exec (.replySent l) s =
        .next { s with links := s.links.set l { r with state := .listening, reply := none } }) ∧
    (r.state = .inBreak →
      exec (.replySent l) s = .next { s with links := s.links.set l { r with reply := none } } ∧
      exec (.breakEnd l) s = .next { s with links := s.links.set l { r with state := .listening } })

/-- R22, R108, R151, R169, R170, R177: a link reset removes the link's entries, aborts a procedure the link owns,
clears its pass-through record or marks it for discard, empties its pending set and expired-handle list and releases
its attention line, releases the source role it holds, returns the read cursor to the mark for SERVICE, and leaves the
link in BREAK with its reply going on. `owned` says that the link owns the procedure, and `full` that its PROCEDURE
record raises LOG_ALMOST_FULL. Another link receives PROCEDURE_END and LOG_ALMOST_FULL as the event map gives them, and
nothing else of it changes. The resolver has its notice when an entry is removed or the procedure ends, and without
either the operating point and the damper stay. -/
def Obligations.LinkResetClearsTheLinksState : Prop :=
  ∀ (s : State) (l : Link) (owned full : Bool) (mapped : Link → EventKind → Bool),
    (owned = true ↔ ∃ sel, s.runner.procedure.running? = some (l, sel)) →
    full = (owned && s.log.armed && decide (s.settings.nat .logAlmostFull ≤
      if s.log.write - s.log.mark < 512 then s.log.write + 1 - s.log.mark else s.log.write - s.log.mark)) →
    mapped = (fun m k => hasKind (s.settings.eventMap.get m) k) →
    ∃ t, exec (.linkReset l) s = .next t ∧
    t.table = { s.table with entries := s.table.entries.filter fun e => !(e.source == .link l) } ∧
    t.links.get l =
      { s.links.get l with
        state := .inBreak, frame := [], pending := 0#14, addressed := 0#14, expired := [], attention := false } ∧
    (∀ m, m ≠ l →
      t.links.get m =
        { s.links.get m with
          pending := (t.links.get m).pending
          attention := (s.links.get m).attention || (owned && mapped m .procedureEnd)
            || (full && mapped m .logAlmostFull) } ∧
      ∀ k, hasKind (t.links.get m).pending k =
        (hasKind (s.links.get m).pending k || (owned && mapped m k && decide (k = .procedureEnd))
          || (full && mapped m k && decide (k = .logAlmostFull)))) ∧
    t.time = { s.time with source := if s.time.source = some l then none else s.time.source } ∧
    (∀ sel, s.runner.procedure.running? = some (l, sel) →
      t.runner = endedRunner s .abortedLink ⟨none, none⟩ ∧ Wrote s t [.procedure .abortedLink sel l] ∧
      t.log.hourly = s.log.hourly ∧ t.log.armed = (s.log.armed && !full)) ∧
    ((∀ sel, s.runner.procedure.running? ≠ some (l, sel)) →
      t.runner = s.runner ∧
      t.log = { s.log with cursor := if l = .service then s.log.mark else s.log.cursor }) ∧
    (l = .service → t.log.cursor = t.log.mark) ∧
    (∀ p, s.bus.pass.get l = p →
      (p = .idle → t.bus = s.bus) ∧
      (∀ q, p = .queued q →
        t.bus =
          { s.bus with
            passQueue := s.bus.passQueue.filter fun m => !(m == l), pass := s.bus.pass.set l .idle }) ∧
      (∀ q m, p = .active q m → t.bus = { s.bus with pass := s.bus.pass.set l (.active q true) }) ∧
      (∀ q o, p = .done q o → t.bus = { s.bus with pass := s.bus.pass.set l .idle })) ∧
    (s.isLoading = false → owned = true ∨ (∃ e ∈ s.table.entries, e.source = .link l) →
      Resolved t ∧ t.damper = s.damper.command t.op.bypassOpen) ∧
    (s.isLoading = true ∨ (owned = false ∧ ∀ e ∈ s.table.entries, e.source ≠ .link l) →
      t.op = s.op ∧ t.damper = s.damper) ∧
    t = { s with
      table := t.table, links := t.links, time := t.time, runner := t.runner, log := t.log, bus := t.bus,
      op := t.op, damper := t.damper }

/-- R13, R154, R161, R164, R178, R181, R187, R189, R190: the reading requests. STATUS, LIST, PROCEDURE, GET and RECENT
change nothing beyond their reply: STATUS carries its 118 bytes, field by field as the table of R190 lays them out; LIST
the count, and up to six entries of twelve bytes; PROCEDURE the phase and the last outcome record; GET the value as
stored, a threshold or a group whole, or BAD on an unknown code; RECENT up to eight of the newest records that are not
HOURLY. EVENTS carries the pending set and the expired handles, and empties both and releases the attention line. The
byte 1 of a flag that is set, and the samples byte of PROCEDURE, are the model's choice (assumption 21). -/
def Obligations.ReadingRequestsReply : Prop :=
  ∀ (s : State) (l : Link) (tag : Byte), Ready s l →
    (∀ (fan : FanRecord → List Byte) (probe : ProbeRecord → List Byte) (filter : FilterRecord → List Byte)
        (zone : ZoneRecord → List Byte) (bits : Bool → Bool → Nat),
      (∀ b c, bits b c = (if b then 1 else 0) + (if c then 2 else 0)) →
      (∀ x, fan x = BitVec.ofNat 8 (fanStateCode x.state) :: be16 x.target ++ be16 x.duty ++ be16 x.flow
        ++ be16 x.speed ++ [BitVec.ofNat 8 (bandCode x.band), BitVec.ofNat 8 (bits x.shortfall x.probeFault),
          BitVec.ofNat 8 x.attempts]) →
      (∀ p, probe p = match p.status with
        | .noValue => 0x00#8 :: be16 0x8000
        | .good v => 0x01#8 :: be16 (BitVec.ofInt 16 v).toNat
        | .faulted none => 0x02#8 :: be16 0x8000
        | .faulted (some v) => 0x02#8 :: be16 (BitVec.ofInt 16 v).toNat) →
      (∀ x, filter x = [BitVec.ofNat 8 (filterStateCode x.state), BitVec.ofNat 8 x.lifeUsed,
        BitVec.ofNat 8 x.loading, if x.probeFault then 0x01#8 else 0x00#8]) →
      (∀ z, zone z = [BitVec.ofNat 8 (zoneTypeCode z.zoneType), BitVec.ofNat 8 (zoneStateCode z.state),
        if z.stale then 0x01#8 else 0x00#8] ++ be16? z.baseline ++ be16? (z.last.map Sample.rh)
        ++ be16? (z.last.map Sample.ah)) →
      ∃ p, exec (.status l tag) s = .next (onlyReply s l tag 0x01#8 .ok p) ∧ p.length = 118 ∧
        p = be16 s.op.w ++ be16 s.op.b ++ be16 s.op.s ++ be16 s.op.e ++ be16 s.op.flags.mask
          ++ [match s.op.contributing with | some h => BitVec.ofNat 8 h | none => 0xFF#8,
            BitVec.ofNat 8 (bits s.op.bypassOpen s.op.contributing.isSome),
            BitVec.ofNat 8 (damperCode s.damper.state), BitVec.ofNat 8 s.damper.position]
          ++ fan s.fans.supply ++ fan s.fans.extract
          ++ BitVec.ofNat 8 (stageCode s.frost.record.stage) :: be16 s.frost.record.f ++ be16 s.frost.record.r
          ++ [BitVec.ofNat 8 s.frost.record.failures,
            BitVec.ofNat 8 (bits (decide (s.settings.nat .thawGap * 6 ≤ s.frost.record.gap)) s.frost.record.fault),
            match s.frost.record.blindPhase with | none => 0xFF#8 | some .run => 0x00#8 | some .thaw => 0x01#8]
          ++ be16 s.frost.record.duty
          ++ probe s.frost.probes.oda ++ probe s.frost.probes.sup ++ probe s.frost.probes.eta
          ++ probe s.frost.probes.eha
          ++ filter s.filters.records.supply ++ filter s.filters.records.extract
          ++ zone s.humidity.zones.z1 ++ zone s.humidity.zones.z2 ++ zone s.humidity.zones.z3
          ++ zone s.humidity.zones.z4
          ++ be16? (s.humidity.extract.last.map Prod.fst) ++ be16? (s.humidity.extract.last.map Prod.snd)
          ++ [if s.humidity.extract.stale then 0x01#8 else 0x00#8,
            if s.humidity.dryPlaced.isSome then 0x01#8 else 0x00#8,
            BitVec.ofNat 8 (storeStateCode s.store.state)]
          ++ be32 s.time.minutes.toNat
          ++ [BitVec.ofNat 8 ((if s.time.synced then 0 else 1)
            + match s.time.source with | none => 0 | some .panel => 2 | some .heating => 4 | some .service => 6)]
          ++ be16 (s.links.get l).pending.toNat) ∧
    (∃ t, exec (.events l tag) s = .next t ∧
      (∃ p, Replies t l tag 0x02#8 .ok p ∧
        p = BitVec.ofNat 8 ((s.links.get l).pending.toNat / 256) :: BitVec.ofNat 8 (s.links.get l).pending.toNat
          :: BitVec.ofNat 8 (s.links.get l).expired.length
          :: (s.links.get l).expired.map (BitVec.ofNat 8)) ∧
      (t.links.get l).pending = 0#14 ∧ (t.links.get l).addressed = 0#14 ∧ (t.links.get l).expired = [] ∧
      (t.links.get l).attention = false ∧ othersKept s t l ∧ t = { s with links := t.links }) ∧
    (∀ start : Byte, ∃ p, exec (.list l tag start) s = .next (onlyReply s l tag 0x05#8 .ok p) ∧
      p.take 2 = [BitVec.ofNat 8 s.table.entries.length,
        BitVec.ofNat 8 (min 6 (s.table.entries.length - start.toNat))] ∧
      p.length = 2 + 12 * min 6 (s.table.entries.length - start.toNat) ∧
      ∀ i e, i < 6 → s.table.entries[start.toNat + i]? = some e →
        (p.drop (2 + 12 * i)).take 12 =
          [BitVec.ofNat 8 (e.slot.val * 16 + e.gen.val), BitVec.ofNat 8 (sourceCode e.source),
            BitVec.ofNat 8 (wantCode e.want), if e.posted.unsynced then 1#8 else 0#8]
          ++ be16? e.want.level? ++ be16? e.remaining ++ be32 e.posted.minutes.toNat) ∧
    (∃ p, exec (.procedure l tag) s = .next (onlyReply s l tag 0x0B#8 .ok p) ∧ p.length = 17 ∧
      (s.runner.procedure = .idle → p.take 5 = [0x00#8, 0xFF#8, 0xFF#8, 0xFF#8, 0xFF#8]) ∧
      (∀ o sel n, s.runner.procedure = .settling o sel n →
        p.take 5 = [0x01#8, BitVec.ofNat 8 (linkCode o), BitVec.ofNat 8 (selectionCode sel), BitVec.ofNat 8 n,
          0x00#8]) ∧
      (∀ o sel n taken, s.runner.procedure = .measuring o sel n taken →
        p.take 5 = [0x02#8, BitVec.ofNat 8 (linkCode o), BitVec.ofNat 8 (selectionCode sel), BitVec.ofNat 8 n,
          BitVec.ofNat 8 (max taken.supply.length taken.extract.length)]) ∧
      ∀ x, s.runner.last = x →
        p.drop 5 =
          [BitVec.ofNat 8 (outcomeCode x.outcome),
            match x.selection with | some sel => BitVec.ofNat 8 (selectionCode sel) | none => 0xFF#8,
            match x.owner with | some o => BitVec.ofNat 8 (linkCode o) | none => 0xFF#8]
          ++ (match x.stamp with
            | some st => be32 st.minutes.toNat ++ [if st.unsynced then 0x01#8 else 0x00#8]
            | none => [0x00#8, 0x00#8, 0x00#8, 0x00#8, 0xFF#8])
          ++ be16? x.references.supply ++ be16? x.references.extract) ∧
    (∀ k : Key, ∃ p, exec (.getKey l tag (BitVec.ofNat 8 (keyCode k))) s =
        .next (onlyReply s l tag 0x06#8 .ok p) ∧
      p = be32 (BitVec.ofInt 32 (s.settings.get k)).toNat) ∧
    (∀ code : Byte, code = 0#8 ∨ (70 < code.toNat ∧ code ≠ 0xF0#8 ∧ code ≠ 0xF1#8) →
      exec (.getKey l tag code) s = .next (onlyReply s l tag 0x06#8 .bad [])) ∧
    (∀ (values : List Nat),
      values = [s.settings.thresholds.watchOn, s.settings.thresholds.preheatOff, s.settings.thresholds.preheatOn,
        s.settings.thresholds.unbalanceExit, s.settings.thresholds.unbalanceDown,
        s.settings.thresholds.unbalanceOn, s.settings.thresholds.thawOn] →
      (∀ i v, values[i]? = some v →
        exec (.getKey l tag (BitVec.ofNat 8 (64 + i))) s = .next (onlyReply s l tag 0x06#8 .ok (be32 v))) ∧
      exec (.getKey l tag 0xF0#8) s = .next (onlyReply s l tag 0x06#8 .ok (values.flatMap be16))) ∧
    (∃ p, exec (.getKey l tag 0xF1#8) s = .next (onlyReply s l tag 0x06#8 .ok p) ∧ p.length = 14 ∧
      ∀ k, p[kindIndex k]? = some (BitVec.ofNat 8
        ((if hasKind s.settings.eventMap.panel k then 1 else 0)
          + (if hasKind s.settings.eventMap.heating k then 2 else 0)
          + (if hasKind s.settings.eventMap.service k then 4 else 0)))) ∧
    (∀ n : Byte, ∃ p count, exec (.recent l tag n) s = .next (onlyReply s l tag 0x13#8 .ok p) ∧
      count = min (min (max n.toNat 1) 8) (s.log.ring.filter fun r => !r.isHourly).length ∧
      p = BitVec.ofNat 8 count ::
        ((s.log.ring.filter fun r => !r.isHourly).reverse.take count).flatMap LogRecord.bytes)

/-- R2, R3, R8 to R11: POST is checked in order: the kind, the quota of 5, the pool; an accepted one takes the lowest
free shared slot, advances its tag and joins the posting order with its clamped values, and the reply carries the
handle, the stored values and CLAMPED, whose byte 1 when set is the model's choice (assumption 21). WITHDRAW removes
the link's own entry that the handle names; it answers NOTOWNER on another's entry and NOENTRY on a handle that names
none. -/
def Obligations.PostAndWithdrawKeepTheTable : Prop :=
  ∀ (s : State) (l : Link) (tag : Byte), Ready s l →
    (∀ kind level duration, 2 < kind.toNat →
      exec (.post l tag kind level duration) s = .next (onlyReply s l tag 0x03#8 .bad [])) ∧
    (∀ kind level duration, kind.toNat ≤ 2 → 5 ≤ s.table.holding l →
      exec (.post l tag kind level duration) s = .next (onlyReply s l tag 0x03#8 .quota [])) ∧
    (∀ kind level duration, kind.toNat ≤ 2 → s.table.holding l < 5 →
      (∀ slot : Fin 16, slot.val ≤ 10 → s.table.isLive slot = true) →
      exec (.post l tag kind level duration) s = .next (onlyReply s l tag 0x03#8 .full [])) ∧
    (∀ (kind : Byte) (level duration : Half) (slot : Fin 16) (w : Want) (remaining : Option Nat) (e : Entry),
      s.table.holding l < 5 → slot.val ≤ 10 → s.table.isLive slot = false →
      (∀ lower : Fin 16, lower < slot → s.table.isLive lower = true) →
      (kind = 0x00#8 ∧ w = .raise (min level.toNat 1200)) ∨
        (kind = 0x01#8 ∧ w = .setback (min level.toNat 1200)) ∨ (kind = 0x02#8 ∧ w = .bypass) →
      remaining = (if duration.toNat = 0 then none else some (min duration.toNat 1440)) →
      e =
        { slot := slot, gen := s.table.tags.get slot + 1, source := .link l, want := w,
          remaining := remaining, posted := { minutes := s.time.minutes, unsynced := !s.time.synced } } →
      ∃ t, exec (.post l tag kind level duration) s = .next t ∧
        t.table =
          { tags := s.table.tags.set slot.val (s.table.tags.get slot + 1) slot.isLt
            entries := s.table.entries ++ [e] } ∧
        Replies t l tag 0x03#8 .ok
          (BitVec.ofNat 8 (slot.val * 16 + e.gen.val) ::
            (be16 (if w = .bypass then 0xFFFF else min level.toNat 1200) ++ be16 (min duration.toNat 1440) ++
              [if (w ≠ .bypass ∧ 1200 < level.toNat) ∨ 1440 < duration.toNat then 1#8 else 0#8])) ∧
        othersKept s t l ∧ Given s t (fun _ _ => false) ∧ Resolved t ∧
        t = { s with table := t.table, op := t.op, damper := t.damper, links := t.links }) ∧
    (∀ handle : Byte, (∀ e ∈ s.table.entries, e.slot.val * 16 + e.gen.val ≠ handle.toNat) →
      exec (.withdraw l tag handle) s = .next (onlyReply s l tag 0x04#8 .noEntry [])) ∧
    (∀ (handle : Byte) (e : Entry), s.table.Ok → e ∈ s.table.entries →
      e.slot.val * 16 + e.gen.val = handle.toNat →
      (e.source ≠ .link l →
        exec (.withdraw l tag handle) s = .next (onlyReply s l tag 0x04#8 .notOwner [])) ∧
      (e.source = .link l → ∃ t, exec (.withdraw l tag handle) s = .next t ∧
        t.table = { s.table with entries := s.table.entries.filter fun x => !(x.slot == e.slot) } ∧
        Replies t l tag 0x04#8 .ok [] ∧ othersKept s t l ∧ Given s t (fun _ _ => false) ∧ Resolved t ∧
        t = { s with table := t.table, op := t.op, damper := t.damper, links := t.links }))

/-- R173, R176, R177, R179: LOG_READ gives the records from the cursor on, up to the count clamped to 1 to 8, oldest
first, moves the cursor past them and resets the overrun count, which its reply carries; LOG_RELEASE moves the mark
by its count, clamped to what has been read, and arms LOG_ALMOST_FULL again below `log_almost_full` - 32; LOG_REWIND
sets the cursor to the mark. -/
def Obligations.LogRequestsMoveThePositions : Prop :=
  ∀ (s : State) (tag : Byte) (g : Log), Ready s .service → s.log = g → g.Ok →
    (∀ n : Byte, ∀ count, count = min (min (max n.toNat 1) 8) (g.write - g.cursor) →
      ∃ records : List LogRecord, records.length = count ∧
        (∀ i, i < count → records[i]? = g.ring[g.cursor + i - (g.write - g.ring.length)]?) ∧
        exec (.logRead .service tag n) s =
          .next (onlyReply { s with log := { g with cursor := g.cursor + count, overrun := 0 } }
            .service tag 0x10#8 .ok
            (be16 (g.write - (g.cursor + count)) ++ be16 g.overrun ++ [BitVec.ofNat 8 count]
              ++ records.flatMap LogRecord.bytes))) ∧
    (∀ n : Byte, ∀ count, count = min n.toNat (g.cursor - g.mark) →
      exec (.logRelease .service tag n) s =
        .next (onlyReply
          { s with log :=
            { g with
              mark := g.mark + count
              armed := g.armed || decide (g.write - (g.mark + count) + 32 < s.settings.nat .logAlmostFull) } }
          .service tag 0x11#8 .ok
          (BitVec.ofNat 8 count :: be16 (g.write - (g.mark + count))))) ∧
    exec (.logRewind .service tag) s =
      .next (onlyReply { s with log := { g with cursor := g.mark } } .service tag 0x12#8 .ok
        (be16 (g.write - g.mark))) ∧
    ∀ r : LogRecord, r.bytes.length = 20

/-! ### The settings -/

/-- R72, R106, R114, R123, R182, R184: SET is answered BAD on a code that names no key, and so on that of a single
threshold or of a group. SET on a key: BAD on a value outside an enumerated key's list, DENIED for a service
key from another link, BUSY for the keys a running procedure holds; otherwise the value is clamped to its range and
then against its related keys, and the reply carries it. A value already held changes nothing. One that differs is
stored with its SETTING record, the image marked changed and the resolver notified; a stored `scan_quota` limits the
credit; and a zone's new type brings its default boost level and a zone record to match. The signed keys
(assumption 14), the lower bound before the upper (assumption 15), the order of the records and of what follows them
(assumption 20) and the byte 1 of CLAMPED (assumption 21) are the model's choice. -/
def Obligations.SetClampsAndStores : Prop :=
  (∀ (s : State) (l : Link) (tag code : Byte) (w : Word), Ready s l → code = 0#8 ∨ 63 < code.toNat →
    exec (.setKey l tag code w) s = .next (onlyReply s l tag 0x07#8 .bad [])) ∧
  ∀ (s : State) (l : Link) (tag : Byte) (k : Key) (w : Word) (v stored : Int), Ready s l →
    v = (if k = .frostThreshold ∨ k = .bypassMinOutdoor ∨ k = .thawEnd ∨ k = .lockoutRelease then w.toInt
      else (w.toNat : Int)) →
    stored = clampToRelated s.settings k (min (max v (keyRange k).1) (keyRange k).2) →
    ∀ (c : Instr) (listed mayWrite held : Bool), c = .setKey l tag (BitVec.ofNat 8 (keyCode k)) w →
      listed = (!enumeratedKey k || (decide ((keyRange k).1 ≤ v) && decide (v ≤ (keyRange k).2))) →
      mayWrite = (occupantKey k || decide (l = .service)) →
      held = ((decide (k = .qRef) || decide (k = .ringKSupply) || decide (k = .ringKExtract))
        && s.runner.procedure.isRunning) →
      (listed = false → exec c s = .next (onlyReply s l tag 0x07#8 .bad [])) ∧
      (listed = true → mayWrite = false → exec c s = .next (onlyReply s l tag 0x07#8 .denied [])) ∧
      (listed = true → mayWrite = true → held = true →
        exec c s = .next (onlyReply s l tag 0x07#8 .busy [])) ∧
      (listed = true → mayWrite = true → held = false →
        ∃ t, exec c s = .next t ∧
          Replies t l tag 0x07#8 .ok
            (be32 (BitVec.ofInt 32 stored).toNat ++ [if stored = v then 0#8 else 1#8]) ∧
          (stored = s.settings.get k → t = { s with links := t.links } ∧ othersKept s t l) ∧
          (stored ≠ s.settings.get k →
            t.settings.get k = stored ∧
            (∀ j, j ≠ k → (∀ z, k = .zone z .zoneType → j ≠ .zone z .boostLevel) →
              t.settings.get j = s.settings.get j) ∧
            t.settings.thresholds = s.settings.thresholds ∧ t.settings.eventMap = s.settings.eventMap ∧
            t.store = { s.store with settings := t.settings, changed := true, quiet := 0 } ∧
            (∃ more, s.log.write + 1 ≤ t.log.write ∧
              Wrote s t (.setting (BitVec.ofNat 8 (keyCode k)) (BitVec.ofInt 32 stored) (some l) :: more)) ∧
            Resolved t ∧
            t.bus =
              { s.bus with
                credit := if k = .scanQuota then min s.bus.credit stored.toNat else s.bus.credit } ∧
            (∀ z, k = .zone z .zoneType → ∀ ty, ty = zoneTypeOf stored →
              (ty ≠ .unused → t.settings.get (.zone z .boostLevel) = defaultBoostLevel ty) ∧
              ((s.humidity.zones.get z).zoneType = .unused → ty ≠ .unused →
                t.humidity.zones.get z = { ZoneRecord.reset with zoneType := ty, state := .quiet }) ∧
              ((s.humidity.zones.get z).zoneType ≠ .unused → ty = .unused →
                t.humidity.zones.get z = ZoneRecord.reset ∧ t.table.isLive (zoneSlot z) = false)) ∧
            ((∀ z, k ≠ .zone z .zoneType) → t.humidity = s.humidity ∧ t.table = s.table) ∧
            t = { s with
              store := t.store, log := t.log, links := t.links, op := t.op, damper := t.damper, bus := t.bus,
              humidity := t.humidity, table := t.table }))

/-- R72, R165, R182: SET_GROUP from SERVICE. Thresholds that rise strictly from at least 1 to at most 9000 are stored,
and others answered BAD. An event map that gives DEMAND_EXPIRED or PROBE_READY to no link replaces the map, and every
pending set keeps only what the new map gives its link or what was addressed to it; another is answered BAD. An
accepted group is stored with one SETTING record, whose value the manual leaves open (assumption 3), marks the image
changed and notifies the resolver. That bits 3 to 7 of a map byte are disregarded (assumption 16), and that the record's
key code byte is the code of the group (assumption 38), are the model's choices. -/
def Obligations.SetGroupStoresOrRefuses : Prop :=
  ∀ (s : State) (tag : Byte), Ready s .service →
    (∀ (v : Vector Half 7) (rising : Bool),
      rising = (decide (1 ≤ v[0].toNat) && decide (v[0].toNat < v[1].toNat) && decide (v[1].toNat < v[2].toNat)
        && decide (v[2].toNat < v[3].toNat) && decide (v[3].toNat < v[4].toNat)
        && decide (v[4].toNat < v[5].toNat) && decide (v[5].toNat < v[6].toNat)
        && decide (v[6].toNat ≤ 9000)) →
      (rising = false →
        exec (.setGroupFrostThresholds .service tag v) s =
          .next (onlyReply s .service tag 0x08#8 .bad [])) ∧
      (rising = true → ∃ t w, exec (.setGroupFrostThresholds .service tag v) s = .next t ∧
        t.store =
          { s.store with
            settings :=
              { s.settings with
                thresholds :=
                  { watchOn := v[0].toNat, preheatOff := v[1].toNat, preheatOn := v[2].toNat,
                    unbalanceExit := v[3].toNat, unbalanceDown := v[4].toNat, unbalanceOn := v[5].toNat,
                    thawOn := v[6].toNat } }
            changed := true
            quiet := 0 } ∧
        Wrote s t [.setting 0xF0#8 w (some .service)] ∧ Replies t .service tag 0x08#8 .ok [] ∧
        Given s t (fun _ _ => false) ∧ Resolved t ∧
        t = { s with
          store := t.store, log := t.log, links := t.links, op := t.op, damper := t.damper,
          freeCount := s.freeCount + 1 })) ∧
    (∀ (v : Vector Byte 14) (byAddress : Bool),
      byAddress = (decide (v[12].toNat % 8 = 0) && decide (v[13].toNat % 8 = 0)) →
      (byAddress = false →
        exec (.setGroupEventMap .service tag v) s = .next (onlyReply s .service tag 0x08#8 .bad [])) ∧
      (byAddress = true → ∃ t w, exec (.setGroupEventMap .service tag v) s = .next t ∧
        (∀ l k, hasKind (t.settings.eventMap.get l) k =
          (v.toList.getD (kindIndex k) 0#8).getLsbD (linkCode l)) ∧
        t.settings.values = s.settings.values ∧ t.settings.thresholds = s.settings.thresholds ∧
        t.store = { s.store with settings := t.settings, changed := true, quiet := 0 } ∧
        (∀ l k, k ≠ .logAlmostFull → hasKind (t.links.get l).pending k =
          (hasKind (s.links.get l).pending k &&
            ((v.toList.getD (kindIndex k) 0#8).getLsbD (linkCode l) ||
              hasKind (s.links.get l).addressed k))) ∧
        Wrote s t [.setting 0xF1#8 w (some .service)] ∧ Replies t .service tag 0x08#8 .ok [] ∧ Resolved t ∧
        t = { s with
          store := t.store, log := t.log, links := t.links, op := t.op, damper := t.damper,
          freeCount := s.freeCount + 1 }))

/-- R167: TIME from a link while no link, or that link, is the source sets the count and makes the link the source, and
writes a TIME record of the old stamp and the new count when the count differs or was unsynced; from any other link
it changes nothing and is answered IGNORED with the stamp as it stands. That the TIME record's own stamp is the new
one (assumption 32), that the reply's stamp is the value sent (assumption 33) and the byte 1 of the mark
(assumption 21) are the model's choice. -/
def Obligations.TimeIsSetByItsSource : Prop :=
  ∀ (s : State) (l : Link) (tag : Byte) (count : Word), Ready s l →
    (s.time.source = none ∨ s.time.source = some l →
      ∃ t, exec (.time l tag count) s = .next t ∧
        t.time = { s.time with minutes := count, synced := true, source := some l } ∧
        Replies t l tag 0x0D#8 .ok (be32 count.toNat ++ [0x00#8]) ∧
        (count = s.time.minutes → s.time.synced = true → t.log = s.log ∧ othersKept s t l) ∧
        (count ≠ s.time.minutes ∨ s.time.synced = false →
          t.log.write = s.log.write + 1 ∧
          t.log.ring.getLast? = some
            { stamp := { minutes := count, unsynced := false }
              body := .time { minutes := s.time.minutes, unsynced := !s.time.synced } count }) ∧
        Given s t (fun _ _ => false) ∧ t = { s with time := t.time, log := t.log, links := t.links }) ∧
    (∀ m, s.time.source = some m → m ≠ l →
      exec (.time l tag count) s =
        .next (onlyReply s l tag 0x0D#8 .ignored
          (be32 s.time.minutes.toNat ++ [if s.time.synced then 0x00#8 else 0x01#8])))

/-! ### Every request, and every row that waits for its crossing -/

/-- R157 to R160: a request is taken from a link that waits for a frame, or that has received the beginning of that
very frame; during the load it is answered WAIT; a service request from PANEL or HEATING is answered DENIED; a frame
of an unknown kind is answered BAD; none of these changes anything beyond the reply. A CLEAR of an unknown target and a
SET_GROUP of an unknown group, which no row spells, are answered BAD to SERVICE when the bytes of their frame come.
A link that serves, replies, is in BREAK or is receiving another frame disregards it (assumption 6). -/
def Obligations.RequestsAreCheckedBeforeTheirOwner : Prop :=
  (∀ (c : Instr) (s : State) (l : Link) (tag : Byte) (r : Request), requestOf c = some (l, tag, r) →
    ((s.links.get l).state = .listening ∨
        ((s.links.get l).state = .receiving ∧ ∃ rest, (s.links.get l).frame ++ rest =
          frameBytes tag r.kind r.payload) →
      (s.isLoading = true → exec c s = .next (onlyReply s l tag r.kind .wait [])) ∧
      (s.isLoading = false → l ≠ .service →
        (r.kind = 0x08#8 ∨ r.kind = 0x0C#8 ∨ r.kind = 0x0E#8 ∨ r.kind = 0x0F#8 ∨ r.kind = 0x10#8 ∨
          r.kind = 0x11#8 ∨ r.kind = 0x12#8) →
        exec c s = .next (onlyReply s l tag r.kind .denied []))) ∧
    ((s.links.get l).state = .serving ∨ (s.links.get l).state = .replying ∨ (s.links.get l).state = .inBreak ∨
        ((s.links.get l).state = .receiving ∧ ∀ rest, (s.links.get l).frame ++ rest ≠
          frameBytes tag r.kind r.payload) →
      exec c s = .next s)) ∧
  (∀ (s : State) (l : Link) (tag kind : Byte) (payload : List Byte), payload.length ≤ 48 →
    kind = 0x00#8 ∨ 0x13 < kind.toNat → (s.links.get l).state = .listening →
    exec (.unknownRequestKind l tag kind payload) s =
      .next (onlyReply s l tag kind (if s.isLoading then .wait else .bad) [])) ∧
  ∀ (s : State) (l : Link) (tag : Byte), (s.links.get l).state = .listening →
    ∀ code : ResultCode,
    code = (if s.isLoading then .wait else if l = .service then .bad else .denied) →
    (∀ target : Byte, 3 < target.toNat →
      receiveAll l (frameBytes tag 0x0C#8 [target]) s = .next (onlyReply s l tag 0x0C#8 code [])) ∧
    ∀ (group : Byte) (values : List Byte), group ≠ 0xF0#8 → group ≠ 0xF1#8 → values.length = 14 →
      receiveAll l (frameBytes tag 0x08#8 (group :: values)) s = .next (onlyReply s l tag 0x08#8 code [])

/-- The rows that name the moment a count or a condition is reached act at that moment alone: on a state where it is
not reached they change nothing. That such a row is taken on the state as it stands is the model's choice
(assumption 1). -/
def Obligations.CrossingRowsWaitForTheirMoment : Prop :=
  ∀ (s : State),
    (∀ f x, s.fans.get f = x →
      (x.state ≠ .starting ∨ x.phase ≠ 1 ∨ x.target = 0 → exec (.fanRunningEntry f) s = .next s) ∧
      (x.state ≠ .running ∨ x.lowSpeed < 4 ∨ 200 ≤ x.speed → exec (.fanStall f) s = .next s) ∧
      (x.state ≠ .stalled ∨ x.phase ≠ 1 → exec (.fanRetryStart f) s = .next s) ∧
      (x.state ≠ .retrying ∨ x.phase ≠ 1 → exec (.fanRetryEnd f) s = .next s) ∧
      (x.shortfall = true ∨ x.shortfallCount < 59 → exec (.shortfallSet f) s = .next s) ∧
      (x.shortfall = false ∨ x.shortfallCount < 9 → exec (.shortfallCleared f) s = .next s) ∧
      (x.state ≠ .running ∨ x.run ≠ 59 → exec (.attemptCountReset f) s = .next s) ∧
      (x.probeFault = true ∨ x.probeCount ≠ 2 → exec (.flowProbeFault f) s = .next s) ∧
      (x.probeFault = false ∨ x.probeCount ≠ 2 → ∀ dp, exec (.flowProbeRecover f dp) s = .next s)) ∧
    (∀ f x, s.filters.records.get f = x →
      (x.probeFault = true ∨ x.probeCount ≠ 2 → exec (.filterProbeFault f) s = .next s) ∧
      (x.probeFault = false ∨ x.probeCount ≠ 2 → ∀ dp, exec (.filterProbeRecover f dp) s = .next s)) ∧
    (s.frost.record.stage ≠ .thaw ∨ s.frost.record.success < 17 → exec .thawSuccess s = .next s) ∧
    (s.frost.record.stage ≠ .thaw ∨ s.frost.record.elapsed + 1 < s.settings.nat .thawMax * 6 →
      exec .thawTimeout s = .next s) ∧
    (s.settings.nat .thawGap * 6 ≤ s.frost.record.gap ∨ s.frost.record.gap + 1 < s.settings.nat .thawGap * 6 →
      exec .thawGapElapsed s = .next s) ∧
    (s.frost.record.stage ≠ .lockout ∨ s.frost.record.warmth < 359 → exec .lockoutRelease s = .next s) ∧
    (s.frost.record.stage ≠ .blind ∨ s.frost.record.blindCount ≠ 1 → exec .blindPhaseEnd s = .next s) ∧
    ((∀ e ∈ s.table.entries, ∀ n, e.remaining = some n → 1 < n) → exec .entryExpiry s = .next s) ∧
    (s.log.hourly.ticks ≠ 59 → exec .hourlyRecord s = .next s) ∧
    (s.filters.hourTicks ≠ 59 → exec .filterFieldsHandover s = .next s) ∧
    (∀ n, (s.humidity.zones.get n).state ≠ .boosting → exec (.boostRebaseline n) s = .next s) ∧
    (∀ n, (s.humidity.zones.get n).failures ≠ 2 → exec (.sensorStale (.zone n)) s = .next s) ∧
    (s.runner.procedure = .idle →
      exec .procedureSecond s = .next s ∧ exec .flowCheck s = .next s ∧ exec .procedureSample s = .next s) ∧
    (s.store.writing = false → ∀ acked bytes, exec (.imageWriteEnd acked bytes) s = .next s) ∧
    (s.store.changed = false → exec .writeBehindStart s = .next s) ∧
    (s.isLoading = false → ∀ r, exec (.loadEnd r) s = .next s)

end
end

