-- ==== Sys2Proof/Laws/State.lean ====
section
/-! SUPPORT. What each plain update of the state leaves as it was: one lemma for each field of `State` and
each update, true by definition. -/

namespace Sys2Proof.Machine

@[simp] theorem raiseTo_pending (s : State) (k : EventKind) (dest : Option Link) : (raiseTo s k dest).pending = s.pending := rfl
@[simp] theorem raiseTo_store (s : State) (k : EventKind) (dest : Option Link) : (raiseTo s k dest).store = s.store := rfl
@[simp] theorem raiseTo_table (s : State) (k : EventKind) (dest : Option Link) : (raiseTo s k dest).table = s.table := rfl
@[simp] theorem raiseTo_op (s : State) (k : EventKind) (dest : Option Link) : (raiseTo s k dest).op = s.op := rfl
@[simp] theorem raiseTo_damper (s : State) (k : EventKind) (dest : Option Link) : (raiseTo s k dest).damper = s.damper := rfl
@[simp] theorem raiseTo_fans (s : State) (k : EventKind) (dest : Option Link) : (raiseTo s k dest).fans = s.fans := rfl
@[simp] theorem raiseTo_frost (s : State) (k : EventKind) (dest : Option Link) : (raiseTo s k dest).frost = s.frost := rfl
@[simp] theorem raiseTo_bus (s : State) (k : EventKind) (dest : Option Link) : (raiseTo s k dest).bus = s.bus := rfl
@[simp] theorem raiseTo_humidity (s : State) (k : EventKind) (dest : Option Link) : (raiseTo s k dest).humidity = s.humidity := rfl
@[simp] theorem raiseTo_filters (s : State) (k : EventKind) (dest : Option Link) : (raiseTo s k dest).filters = s.filters := rfl
@[simp] theorem raiseTo_runner (s : State) (k : EventKind) (dest : Option Link) : (raiseTo s k dest).runner = s.runner := rfl
@[simp] theorem raiseTo_time (s : State) (k : EventKind) (dest : Option Link) : (raiseTo s k dest).time = s.time := rfl
@[simp] theorem raiseTo_log (s : State) (k : EventKind) (dest : Option Link) : (raiseTo s k dest).log = s.log := rfl
@[simp] theorem raiseTo_freeCount (s : State) (k : EventKind) (dest : Option Link) : (raiseTo s k dest).freeCount = s.freeCount := rfl

@[simp] theorem raise_pending (s : State) (k : EventKind) : (raise s k).pending = s.pending := rfl
@[simp] theorem raise_store (s : State) (k : EventKind) : (raise s k).store = s.store := rfl
@[simp] theorem raise_table (s : State) (k : EventKind) : (raise s k).table = s.table := rfl
@[simp] theorem raise_op (s : State) (k : EventKind) : (raise s k).op = s.op := rfl
@[simp] theorem raise_damper (s : State) (k : EventKind) : (raise s k).damper = s.damper := rfl
@[simp] theorem raise_fans (s : State) (k : EventKind) : (raise s k).fans = s.fans := rfl
@[simp] theorem raise_frost (s : State) (k : EventKind) : (raise s k).frost = s.frost := rfl
@[simp] theorem raise_bus (s : State) (k : EventKind) : (raise s k).bus = s.bus := rfl
@[simp] theorem raise_humidity (s : State) (k : EventKind) : (raise s k).humidity = s.humidity := rfl
@[simp] theorem raise_filters (s : State) (k : EventKind) : (raise s k).filters = s.filters := rfl
@[simp] theorem raise_runner (s : State) (k : EventKind) : (raise s k).runner = s.runner := rfl
@[simp] theorem raise_time (s : State) (k : EventKind) : (raise s k).time = s.time := rfl
@[simp] theorem raise_log (s : State) (k : EventKind) : (raise s k).log = s.log := rfl
@[simp] theorem raise_freeCount (s : State) (k : EventKind) : (raise s k).freeCount = s.freeCount := rfl

@[simp] theorem writeLog_pending (s : State) (b : LogBody) : (writeLog s b).pending = s.pending := rfl
@[simp] theorem writeLog_store (s : State) (b : LogBody) : (writeLog s b).store = s.store := rfl
@[simp] theorem writeLog_table (s : State) (b : LogBody) : (writeLog s b).table = s.table := rfl
@[simp] theorem writeLog_op (s : State) (b : LogBody) : (writeLog s b).op = s.op := rfl
@[simp] theorem writeLog_damper (s : State) (b : LogBody) : (writeLog s b).damper = s.damper := rfl
@[simp] theorem writeLog_fans (s : State) (b : LogBody) : (writeLog s b).fans = s.fans := rfl
@[simp] theorem writeLog_frost (s : State) (b : LogBody) : (writeLog s b).frost = s.frost := rfl
@[simp] theorem writeLog_bus (s : State) (b : LogBody) : (writeLog s b).bus = s.bus := rfl
@[simp] theorem writeLog_humidity (s : State) (b : LogBody) : (writeLog s b).humidity = s.humidity := rfl
@[simp] theorem writeLog_filters (s : State) (b : LogBody) : (writeLog s b).filters = s.filters := rfl
@[simp] theorem writeLog_runner (s : State) (b : LogBody) : (writeLog s b).runner = s.runner := rfl
@[simp] theorem writeLog_time (s : State) (b : LogBody) : (writeLog s b).time = s.time := rfl
@[simp] theorem writeLog_freeCount (s : State) (b : LogBody) : (writeLog s b).freeCount = s.freeCount := rfl

@[simp] theorem recompute_pending (s : State) : (recompute s).pending = s.pending := rfl
@[simp] theorem recompute_store (s : State) : (recompute s).store = s.store := rfl
@[simp] theorem recompute_table (s : State) : (recompute s).table = s.table := rfl
@[simp] theorem recompute_fans (s : State) : (recompute s).fans = s.fans := rfl
@[simp] theorem recompute_frost (s : State) : (recompute s).frost = s.frost := rfl
@[simp] theorem recompute_bus (s : State) : (recompute s).bus = s.bus := rfl
@[simp] theorem recompute_humidity (s : State) : (recompute s).humidity = s.humidity := rfl
@[simp] theorem recompute_filters (s : State) : (recompute s).filters = s.filters := rfl
@[simp] theorem recompute_runner (s : State) : (recompute s).runner = s.runner := rfl
@[simp] theorem recompute_links (s : State) : (recompute s).links = s.links := rfl
@[simp] theorem recompute_time (s : State) : (recompute s).time = s.time := rfl
@[simp] theorem recompute_log (s : State) : (recompute s).log = s.log := rfl
@[simp] theorem recompute_freeCount (s : State) : (recompute s).freeCount = s.freeCount := rfl

@[simp] theorem notice_pending (s : State) : (notice s).pending = s.pending := rfl
@[simp] theorem notice_store (s : State) : (notice s).store = s.store := rfl
@[simp] theorem notice_table (s : State) : (notice s).table = s.table := rfl
@[simp] theorem notice_fans (s : State) : (notice s).fans = s.fans := rfl
@[simp] theorem notice_frost (s : State) : (notice s).frost = s.frost := rfl
@[simp] theorem notice_bus (s : State) : (notice s).bus = s.bus := rfl
@[simp] theorem notice_humidity (s : State) : (notice s).humidity = s.humidity := rfl
@[simp] theorem notice_filters (s : State) : (notice s).filters = s.filters := rfl
@[simp] theorem notice_runner (s : State) : (notice s).runner = s.runner := rfl
@[simp] theorem notice_links (s : State) : (notice s).links = s.links := rfl
@[simp] theorem notice_time (s : State) : (notice s).time = s.time := rfl
@[simp] theorem notice_log (s : State) : (notice s).log = s.log := rfl
@[simp] theorem notice_freeCount (s : State) : (notice s).freeCount = s.freeCount := rfl

@[simp] theorem reportProbe_pending (s : State) (n : ProbeName) (r : Bool) : (reportProbe s n r).pending = s.pending := rfl
@[simp] theorem reportProbe_store (s : State) (n : ProbeName) (r : Bool) : (reportProbe s n r).store = s.store := rfl
@[simp] theorem reportProbe_table (s : State) (n : ProbeName) (r : Bool) : (reportProbe s n r).table = s.table := rfl
@[simp] theorem reportProbe_op (s : State) (n : ProbeName) (r : Bool) : (reportProbe s n r).op = s.op := rfl
@[simp] theorem reportProbe_damper (s : State) (n : ProbeName) (r : Bool) : (reportProbe s n r).damper = s.damper := rfl
@[simp] theorem reportProbe_fans (s : State) (n : ProbeName) (r : Bool) : (reportProbe s n r).fans = s.fans := rfl
@[simp] theorem reportProbe_frost (s : State) (n : ProbeName) (r : Bool) : (reportProbe s n r).frost = s.frost := rfl
@[simp] theorem reportProbe_bus (s : State) (n : ProbeName) (r : Bool) : (reportProbe s n r).bus = s.bus := rfl
@[simp] theorem reportProbe_humidity (s : State) (n : ProbeName) (r : Bool) : (reportProbe s n r).humidity = s.humidity := rfl
@[simp] theorem reportProbe_filters (s : State) (n : ProbeName) (r : Bool) : (reportProbe s n r).filters = s.filters := rfl
@[simp] theorem reportProbe_runner (s : State) (n : ProbeName) (r : Bool) : (reportProbe s n r).runner = s.runner := rfl
@[simp] theorem reportProbe_time (s : State) (n : ProbeName) (r : Bool) : (reportProbe s n r).time = s.time := rfl
@[simp] theorem reportProbe_freeCount (s : State) (n : ProbeName) (r : Bool) : (reportProbe s n r).freeCount = s.freeCount := rfl

@[simp] theorem setFrost_pending (s : State) (g : FrostRecord) : (setFrost s g).pending = s.pending := rfl
@[simp] theorem setFrost_store (s : State) (g : FrostRecord) : (setFrost s g).store = s.store := rfl
@[simp] theorem setFrost_table (s : State) (g : FrostRecord) : (setFrost s g).table = s.table := rfl
@[simp] theorem setFrost_op (s : State) (g : FrostRecord) : (setFrost s g).op = s.op := rfl
@[simp] theorem setFrost_damper (s : State) (g : FrostRecord) : (setFrost s g).damper = s.damper := rfl
@[simp] theorem setFrost_fans (s : State) (g : FrostRecord) : (setFrost s g).fans = s.fans := rfl
@[simp] theorem setFrost_bus (s : State) (g : FrostRecord) : (setFrost s g).bus = s.bus := rfl
@[simp] theorem setFrost_humidity (s : State) (g : FrostRecord) : (setFrost s g).humidity = s.humidity := rfl
@[simp] theorem setFrost_filters (s : State) (g : FrostRecord) : (setFrost s g).filters = s.filters := rfl
@[simp] theorem setFrost_runner (s : State) (g : FrostRecord) : (setFrost s g).runner = s.runner := rfl
@[simp] theorem setFrost_links (s : State) (g : FrostRecord) : (setFrost s g).links = s.links := rfl
@[simp] theorem setFrost_time (s : State) (g : FrostRecord) : (setFrost s g).time = s.time := rfl
@[simp] theorem setFrost_log (s : State) (g : FrostRecord) : (setFrost s g).log = s.log := rfl
@[simp] theorem setFrost_freeCount (s : State) (g : FrostRecord) : (setFrost s g).freeCount = s.freeCount := rfl

@[simp] theorem setFilter_pending (s : State) (f : Side) (x : FilterRecord) : (setFilter s f x).pending = s.pending := rfl
@[simp] theorem setFilter_store (s : State) (f : Side) (x : FilterRecord) : (setFilter s f x).store = s.store := rfl
@[simp] theorem setFilter_table (s : State) (f : Side) (x : FilterRecord) : (setFilter s f x).table = s.table := rfl
@[simp] theorem setFilter_op (s : State) (f : Side) (x : FilterRecord) : (setFilter s f x).op = s.op := rfl
@[simp] theorem setFilter_damper (s : State) (f : Side) (x : FilterRecord) : (setFilter s f x).damper = s.damper := rfl
@[simp] theorem setFilter_fans (s : State) (f : Side) (x : FilterRecord) : (setFilter s f x).fans = s.fans := rfl
@[simp] theorem setFilter_frost (s : State) (f : Side) (x : FilterRecord) : (setFilter s f x).frost = s.frost := rfl
@[simp] theorem setFilter_bus (s : State) (f : Side) (x : FilterRecord) : (setFilter s f x).bus = s.bus := rfl
@[simp] theorem setFilter_humidity (s : State) (f : Side) (x : FilterRecord) : (setFilter s f x).humidity = s.humidity := rfl
@[simp] theorem setFilter_runner (s : State) (f : Side) (x : FilterRecord) : (setFilter s f x).runner = s.runner := rfl
@[simp] theorem setFilter_links (s : State) (f : Side) (x : FilterRecord) : (setFilter s f x).links = s.links := rfl
@[simp] theorem setFilter_time (s : State) (f : Side) (x : FilterRecord) : (setFilter s f x).time = s.time := rfl
@[simp] theorem setFilter_log (s : State) (f : Side) (x : FilterRecord) : (setFilter s f x).log = s.log := rfl
@[simp] theorem setFilter_freeCount (s : State) (f : Side) (x : FilterRecord) : (setFilter s f x).freeCount = s.freeCount := rfl

@[simp] theorem setProcedure_pending (s : State) (p : Procedure) : (setProcedure s p).pending = s.pending := rfl
@[simp] theorem setProcedure_store (s : State) (p : Procedure) : (setProcedure s p).store = s.store := rfl
@[simp] theorem setProcedure_table (s : State) (p : Procedure) : (setProcedure s p).table = s.table := rfl
@[simp] theorem setProcedure_op (s : State) (p : Procedure) : (setProcedure s p).op = s.op := rfl
@[simp] theorem setProcedure_damper (s : State) (p : Procedure) : (setProcedure s p).damper = s.damper := rfl
@[simp] theorem setProcedure_fans (s : State) (p : Procedure) : (setProcedure s p).fans = s.fans := rfl
@[simp] theorem setProcedure_frost (s : State) (p : Procedure) : (setProcedure s p).frost = s.frost := rfl
@[simp] theorem setProcedure_bus (s : State) (p : Procedure) : (setProcedure s p).bus = s.bus := rfl
@[simp] theorem setProcedure_humidity (s : State) (p : Procedure) : (setProcedure s p).humidity = s.humidity := rfl
@[simp] theorem setProcedure_filters (s : State) (p : Procedure) : (setProcedure s p).filters = s.filters := rfl
@[simp] theorem setProcedure_links (s : State) (p : Procedure) : (setProcedure s p).links = s.links := rfl
@[simp] theorem setProcedure_time (s : State) (p : Procedure) : (setProcedure s p).time = s.time := rfl
@[simp] theorem setProcedure_log (s : State) (p : Procedure) : (setProcedure s p).log = s.log := rfl
@[simp] theorem setProcedure_freeCount (s : State) (p : Procedure) : (setProcedure s p).freeCount = s.freeCount := rfl

@[simp] theorem startProcedure_pending (s : State) (l : Link) (sel : Selection) : (startProcedure s l sel).pending = s.pending := rfl
@[simp] theorem startProcedure_store (s : State) (l : Link) (sel : Selection) : (startProcedure s l sel).store = s.store := rfl
@[simp] theorem startProcedure_table (s : State) (l : Link) (sel : Selection) : (startProcedure s l sel).table = s.table := rfl
@[simp] theorem startProcedure_fans (s : State) (l : Link) (sel : Selection) : (startProcedure s l sel).fans = s.fans := rfl
@[simp] theorem startProcedure_frost (s : State) (l : Link) (sel : Selection) : (startProcedure s l sel).frost = s.frost := rfl
@[simp] theorem startProcedure_bus (s : State) (l : Link) (sel : Selection) : (startProcedure s l sel).bus = s.bus := rfl
@[simp] theorem startProcedure_humidity (s : State) (l : Link) (sel : Selection) : (startProcedure s l sel).humidity = s.humidity := rfl
@[simp] theorem startProcedure_filters (s : State) (l : Link) (sel : Selection) : (startProcedure s l sel).filters = s.filters := rfl
@[simp] theorem startProcedure_links (s : State) (l : Link) (sel : Selection) : (startProcedure s l sel).links = s.links := rfl
@[simp] theorem startProcedure_time (s : State) (l : Link) (sel : Selection) : (startProcedure s l sel).time = s.time := rfl
@[simp] theorem startProcedure_log (s : State) (l : Link) (sel : Selection) : (startProcedure s l sel).log = s.log := rfl
@[simp] theorem startProcedure_freeCount (s : State) (l : Link) (sel : Selection) : (startProcedure s l sel).freeCount = s.freeCount := rfl

@[simp] theorem handOverFields_pending (s : State) : (handOverFields s).pending = s.pending := rfl
@[simp] theorem handOverFields_table (s : State) : (handOverFields s).table = s.table := rfl
@[simp] theorem handOverFields_op (s : State) : (handOverFields s).op = s.op := rfl
@[simp] theorem handOverFields_damper (s : State) : (handOverFields s).damper = s.damper := rfl
@[simp] theorem handOverFields_fans (s : State) : (handOverFields s).fans = s.fans := rfl
@[simp] theorem handOverFields_frost (s : State) : (handOverFields s).frost = s.frost := rfl
@[simp] theorem handOverFields_bus (s : State) : (handOverFields s).bus = s.bus := rfl
@[simp] theorem handOverFields_humidity (s : State) : (handOverFields s).humidity = s.humidity := rfl
@[simp] theorem handOverFields_filters (s : State) : (handOverFields s).filters = s.filters := rfl
@[simp] theorem handOverFields_runner (s : State) : (handOverFields s).runner = s.runner := rfl
@[simp] theorem handOverFields_links (s : State) : (handOverFields s).links = s.links := rfl
@[simp] theorem handOverFields_time (s : State) : (handOverFields s).time = s.time := rfl
@[simp] theorem handOverFields_log (s : State) : (handOverFields s).log = s.log := rfl
@[simp] theorem handOverFields_freeCount (s : State) : (handOverFields s).freeCount = s.freeCount := rfl

@[simp] theorem setBus_pending (s : State) (b : Bus) : (setBus s b).pending = s.pending := rfl
@[simp] theorem setBus_store (s : State) (b : Bus) : (setBus s b).store = s.store := rfl
@[simp] theorem setBus_table (s : State) (b : Bus) : (setBus s b).table = s.table := rfl
@[simp] theorem setBus_op (s : State) (b : Bus) : (setBus s b).op = s.op := rfl
@[simp] theorem setBus_damper (s : State) (b : Bus) : (setBus s b).damper = s.damper := rfl
@[simp] theorem setBus_fans (s : State) (b : Bus) : (setBus s b).fans = s.fans := rfl
@[simp] theorem setBus_frost (s : State) (b : Bus) : (setBus s b).frost = s.frost := rfl
@[simp] theorem setBus_humidity (s : State) (b : Bus) : (setBus s b).humidity = s.humidity := rfl
@[simp] theorem setBus_filters (s : State) (b : Bus) : (setBus s b).filters = s.filters := rfl
@[simp] theorem setBus_runner (s : State) (b : Bus) : (setBus s b).runner = s.runner := rfl
@[simp] theorem setBus_links (s : State) (b : Bus) : (setBus s b).links = s.links := rfl
@[simp] theorem setBus_time (s : State) (b : Bus) : (setBus s b).time = s.time := rfl
@[simp] theorem setBus_log (s : State) (b : Bus) : (setBus s b).log = s.log := rfl
@[simp] theorem setBus_freeCount (s : State) (b : Bus) : (setBus s b).freeCount = s.freeCount := rfl

@[simp] theorem setReply_pending (s : State) (x : Transaction) (reply : List Byte) : (setReply s x reply).pending = s.pending := rfl
@[simp] theorem setReply_store (s : State) (x : Transaction) (reply : List Byte) : (setReply s x reply).store = s.store := rfl
@[simp] theorem setReply_table (s : State) (x : Transaction) (reply : List Byte) : (setReply s x reply).table = s.table := rfl
@[simp] theorem setReply_op (s : State) (x : Transaction) (reply : List Byte) : (setReply s x reply).op = s.op := rfl
@[simp] theorem setReply_damper (s : State) (x : Transaction) (reply : List Byte) : (setReply s x reply).damper = s.damper := rfl
@[simp] theorem setReply_fans (s : State) (x : Transaction) (reply : List Byte) : (setReply s x reply).fans = s.fans := rfl
@[simp] theorem setReply_frost (s : State) (x : Transaction) (reply : List Byte) : (setReply s x reply).frost = s.frost := rfl
@[simp] theorem setReply_humidity (s : State) (x : Transaction) (reply : List Byte) : (setReply s x reply).humidity = s.humidity := rfl
@[simp] theorem setReply_filters (s : State) (x : Transaction) (reply : List Byte) : (setReply s x reply).filters = s.filters := rfl
@[simp] theorem setReply_runner (s : State) (x : Transaction) (reply : List Byte) : (setReply s x reply).runner = s.runner := rfl
@[simp] theorem setReply_links (s : State) (x : Transaction) (reply : List Byte) : (setReply s x reply).links = s.links := rfl
@[simp] theorem setReply_time (s : State) (x : Transaction) (reply : List Byte) : (setReply s x reply).time = s.time := rfl
@[simp] theorem setReply_log (s : State) (x : Transaction) (reply : List Byte) : (setReply s x reply).log = s.log := rfl
@[simp] theorem setReply_freeCount (s : State) (x : Transaction) (reply : List Byte) : (setReply s x reply).freeCount = s.freeCount := rfl

@[simp] theorem grant_pending (s : State) : (grant s).pending = s.pending := rfl
@[simp] theorem grant_store (s : State) : (grant s).store = s.store := rfl
@[simp] theorem grant_table (s : State) : (grant s).table = s.table := rfl
@[simp] theorem grant_op (s : State) : (grant s).op = s.op := rfl
@[simp] theorem grant_damper (s : State) : (grant s).damper = s.damper := rfl
@[simp] theorem grant_fans (s : State) : (grant s).fans = s.fans := rfl
@[simp] theorem grant_frost (s : State) : (grant s).frost = s.frost := rfl
@[simp] theorem grant_humidity (s : State) : (grant s).humidity = s.humidity := rfl
@[simp] theorem grant_filters (s : State) : (grant s).filters = s.filters := rfl
@[simp] theorem grant_runner (s : State) : (grant s).runner = s.runner := rfl
@[simp] theorem grant_links (s : State) : (grant s).links = s.links := rfl
@[simp] theorem grant_time (s : State) : (grant s).time = s.time := rfl
@[simp] theorem grant_log (s : State) : (grant s).log = s.log := rfl
@[simp] theorem grant_freeCount (s : State) : (grant s).freeCount = s.freeCount := rfl

@[simp] theorem setHourly_pending (s : State) (h : Hourly) : (setHourly s h).pending = s.pending := rfl
@[simp] theorem setHourly_store (s : State) (h : Hourly) : (setHourly s h).store = s.store := rfl
@[simp] theorem setHourly_table (s : State) (h : Hourly) : (setHourly s h).table = s.table := rfl
@[simp] theorem setHourly_op (s : State) (h : Hourly) : (setHourly s h).op = s.op := rfl
@[simp] theorem setHourly_damper (s : State) (h : Hourly) : (setHourly s h).damper = s.damper := rfl
@[simp] theorem setHourly_fans (s : State) (h : Hourly) : (setHourly s h).fans = s.fans := rfl
@[simp] theorem setHourly_frost (s : State) (h : Hourly) : (setHourly s h).frost = s.frost := rfl
@[simp] theorem setHourly_bus (s : State) (h : Hourly) : (setHourly s h).bus = s.bus := rfl
@[simp] theorem setHourly_humidity (s : State) (h : Hourly) : (setHourly s h).humidity = s.humidity := rfl
@[simp] theorem setHourly_filters (s : State) (h : Hourly) : (setHourly s h).filters = s.filters := rfl
@[simp] theorem setHourly_runner (s : State) (h : Hourly) : (setHourly s h).runner = s.runner := rfl
@[simp] theorem setHourly_links (s : State) (h : Hourly) : (setHourly s h).links = s.links := rfl
@[simp] theorem setHourly_time (s : State) (h : Hourly) : (setHourly s h).time = s.time := rfl
@[simp] theorem setHourly_freeCount (s : State) (h : Hourly) : (setHourly s h).freeCount = s.freeCount := rfl

@[simp] theorem setLog_pending (s : State) (g : Log) : (setLog s g).pending = s.pending := rfl
@[simp] theorem setLog_store (s : State) (g : Log) : (setLog s g).store = s.store := rfl
@[simp] theorem setLog_table (s : State) (g : Log) : (setLog s g).table = s.table := rfl
@[simp] theorem setLog_op (s : State) (g : Log) : (setLog s g).op = s.op := rfl
@[simp] theorem setLog_damper (s : State) (g : Log) : (setLog s g).damper = s.damper := rfl
@[simp] theorem setLog_fans (s : State) (g : Log) : (setLog s g).fans = s.fans := rfl
@[simp] theorem setLog_frost (s : State) (g : Log) : (setLog s g).frost = s.frost := rfl
@[simp] theorem setLog_bus (s : State) (g : Log) : (setLog s g).bus = s.bus := rfl
@[simp] theorem setLog_humidity (s : State) (g : Log) : (setLog s g).humidity = s.humidity := rfl
@[simp] theorem setLog_filters (s : State) (g : Log) : (setLog s g).filters = s.filters := rfl
@[simp] theorem setLog_runner (s : State) (g : Log) : (setLog s g).runner = s.runner := rfl
@[simp] theorem setLog_links (s : State) (g : Log) : (setLog s g).links = s.links := rfl
@[simp] theorem setLog_time (s : State) (g : Log) : (setLog s g).time = s.time := rfl
@[simp] theorem setLog_freeCount (s : State) (g : Log) : (setLog s g).freeCount = s.freeCount := rfl

@[simp] theorem setLink_pending (s : State) (l : Link) (r : LinkRecord) : (setLink s l r).pending = s.pending := rfl
@[simp] theorem setLink_store (s : State) (l : Link) (r : LinkRecord) : (setLink s l r).store = s.store := rfl
@[simp] theorem setLink_table (s : State) (l : Link) (r : LinkRecord) : (setLink s l r).table = s.table := rfl
@[simp] theorem setLink_op (s : State) (l : Link) (r : LinkRecord) : (setLink s l r).op = s.op := rfl
@[simp] theorem setLink_damper (s : State) (l : Link) (r : LinkRecord) : (setLink s l r).damper = s.damper := rfl
@[simp] theorem setLink_fans (s : State) (l : Link) (r : LinkRecord) : (setLink s l r).fans = s.fans := rfl
@[simp] theorem setLink_frost (s : State) (l : Link) (r : LinkRecord) : (setLink s l r).frost = s.frost := rfl
@[simp] theorem setLink_bus (s : State) (l : Link) (r : LinkRecord) : (setLink s l r).bus = s.bus := rfl
@[simp] theorem setLink_humidity (s : State) (l : Link) (r : LinkRecord) : (setLink s l r).humidity = s.humidity := rfl
@[simp] theorem setLink_filters (s : State) (l : Link) (r : LinkRecord) : (setLink s l r).filters = s.filters := rfl
@[simp] theorem setLink_runner (s : State) (l : Link) (r : LinkRecord) : (setLink s l r).runner = s.runner := rfl
@[simp] theorem setLink_time (s : State) (l : Link) (r : LinkRecord) : (setLink s l r).time = s.time := rfl
@[simp] theorem setLink_log (s : State) (l : Link) (r : LinkRecord) : (setLink s l r).log = s.log := rfl
@[simp] theorem setLink_freeCount (s : State) (l : Link) (r : LinkRecord) : (setLink s l r).freeCount = s.freeCount := rfl

@[simp] theorem storeTable_pending (s : State) (t : Settings) : (storeTable s t).pending = s.pending := rfl
@[simp] theorem storeTable_table (s : State) (t : Settings) : (storeTable s t).table = s.table := rfl
@[simp] theorem storeTable_op (s : State) (t : Settings) : (storeTable s t).op = s.op := rfl
@[simp] theorem storeTable_damper (s : State) (t : Settings) : (storeTable s t).damper = s.damper := rfl
@[simp] theorem storeTable_fans (s : State) (t : Settings) : (storeTable s t).fans = s.fans := rfl
@[simp] theorem storeTable_frost (s : State) (t : Settings) : (storeTable s t).frost = s.frost := rfl
@[simp] theorem storeTable_bus (s : State) (t : Settings) : (storeTable s t).bus = s.bus := rfl
@[simp] theorem storeTable_humidity (s : State) (t : Settings) : (storeTable s t).humidity = s.humidity := rfl
@[simp] theorem storeTable_filters (s : State) (t : Settings) : (storeTable s t).filters = s.filters := rfl
@[simp] theorem storeTable_runner (s : State) (t : Settings) : (storeTable s t).runner = s.runner := rfl
@[simp] theorem storeTable_links (s : State) (t : Settings) : (storeTable s t).links = s.links := rfl
@[simp] theorem storeTable_time (s : State) (t : Settings) : (storeTable s t).time = s.time := rfl
@[simp] theorem storeTable_log (s : State) (t : Settings) : (storeTable s t).log = s.log := rfl
@[simp] theorem storeTable_freeCount (s : State) (t : Settings) : (storeTable s t).freeCount = s.freeCount := rfl

@[simp] theorem prunePending_pending (s : State) : (prunePending s).pending = s.pending := rfl
@[simp] theorem prunePending_store (s : State) : (prunePending s).store = s.store := rfl
@[simp] theorem prunePending_table (s : State) : (prunePending s).table = s.table := rfl
@[simp] theorem prunePending_op (s : State) : (prunePending s).op = s.op := rfl
@[simp] theorem prunePending_damper (s : State) : (prunePending s).damper = s.damper := rfl
@[simp] theorem prunePending_fans (s : State) : (prunePending s).fans = s.fans := rfl
@[simp] theorem prunePending_frost (s : State) : (prunePending s).frost = s.frost := rfl
@[simp] theorem prunePending_bus (s : State) : (prunePending s).bus = s.bus := rfl
@[simp] theorem prunePending_humidity (s : State) : (prunePending s).humidity = s.humidity := rfl
@[simp] theorem prunePending_filters (s : State) : (prunePending s).filters = s.filters := rfl
@[simp] theorem prunePending_runner (s : State) : (prunePending s).runner = s.runner := rfl
@[simp] theorem prunePending_time (s : State) : (prunePending s).time = s.time := rfl
@[simp] theorem prunePending_log (s : State) : (prunePending s).log = s.log := rfl
@[simp] theorem prunePending_freeCount (s : State) : (prunePending s).freeCount = s.freeCount := rfl

@[simp] theorem groupStored_pending (s : State) (c : Byte) (l : Link) : (groupStored s c l).pending = s.pending := rfl
@[simp] theorem groupStored_store (s : State) (c : Byte) (l : Link) : (groupStored s c l).store = s.store := rfl
@[simp] theorem groupStored_table (s : State) (c : Byte) (l : Link) : (groupStored s c l).table = s.table := rfl
@[simp] theorem groupStored_fans (s : State) (c : Byte) (l : Link) : (groupStored s c l).fans = s.fans := rfl
@[simp] theorem groupStored_frost (s : State) (c : Byte) (l : Link) : (groupStored s c l).frost = s.frost := rfl
@[simp] theorem groupStored_bus (s : State) (c : Byte) (l : Link) : (groupStored s c l).bus = s.bus := rfl
@[simp] theorem groupStored_humidity (s : State) (c : Byte) (l : Link) : (groupStored s c l).humidity = s.humidity := rfl
@[simp] theorem groupStored_filters (s : State) (c : Byte) (l : Link) : (groupStored s c l).filters = s.filters := rfl
@[simp] theorem groupStored_runner (s : State) (c : Byte) (l : Link) : (groupStored s c l).runner = s.runner := rfl
@[simp] theorem groupStored_time (s : State) (c : Byte) (l : Link) : (groupStored s c l).time = s.time := rfl

@[simp] theorem emptyPending_pending (s : State) (l : Link) : (emptyPending s l).pending = s.pending := rfl
@[simp] theorem emptyPending_store (s : State) (l : Link) : (emptyPending s l).store = s.store := rfl
@[simp] theorem emptyPending_table (s : State) (l : Link) : (emptyPending s l).table = s.table := rfl
@[simp] theorem emptyPending_op (s : State) (l : Link) : (emptyPending s l).op = s.op := rfl
@[simp] theorem emptyPending_damper (s : State) (l : Link) : (emptyPending s l).damper = s.damper := rfl
@[simp] theorem emptyPending_fans (s : State) (l : Link) : (emptyPending s l).fans = s.fans := rfl
@[simp] theorem emptyPending_frost (s : State) (l : Link) : (emptyPending s l).frost = s.frost := rfl
@[simp] theorem emptyPending_bus (s : State) (l : Link) : (emptyPending s l).bus = s.bus := rfl
@[simp] theorem emptyPending_humidity (s : State) (l : Link) : (emptyPending s l).humidity = s.humidity := rfl
@[simp] theorem emptyPending_filters (s : State) (l : Link) : (emptyPending s l).filters = s.filters := rfl
@[simp] theorem emptyPending_runner (s : State) (l : Link) : (emptyPending s l).runner = s.runner := rfl
@[simp] theorem emptyPending_time (s : State) (l : Link) : (emptyPending s l).time = s.time := rfl
@[simp] theorem emptyPending_log (s : State) (l : Link) : (emptyPending s l).log = s.log := rfl
@[simp] theorem emptyPending_freeCount (s : State) (l : Link) : (emptyPending s l).freeCount = s.freeCount := rfl

@[simp] theorem handExpired_pending (s : State) (l : Link) (h : Nat) : (handExpired s l h).pending = s.pending := rfl
@[simp] theorem handExpired_store (s : State) (l : Link) (h : Nat) : (handExpired s l h).store = s.store := rfl
@[simp] theorem handExpired_table (s : State) (l : Link) (h : Nat) : (handExpired s l h).table = s.table := rfl
@[simp] theorem handExpired_op (s : State) (l : Link) (h : Nat) : (handExpired s l h).op = s.op := rfl
@[simp] theorem handExpired_damper (s : State) (l : Link) (h : Nat) : (handExpired s l h).damper = s.damper := rfl
@[simp] theorem handExpired_fans (s : State) (l : Link) (h : Nat) : (handExpired s l h).fans = s.fans := rfl
@[simp] theorem handExpired_frost (s : State) (l : Link) (h : Nat) : (handExpired s l h).frost = s.frost := rfl
@[simp] theorem handExpired_bus (s : State) (l : Link) (h : Nat) : (handExpired s l h).bus = s.bus := rfl
@[simp] theorem handExpired_humidity (s : State) (l : Link) (h : Nat) : (handExpired s l h).humidity = s.humidity := rfl
@[simp] theorem handExpired_filters (s : State) (l : Link) (h : Nat) : (handExpired s l h).filters = s.filters := rfl
@[simp] theorem handExpired_runner (s : State) (l : Link) (h : Nat) : (handExpired s l h).runner = s.runner := rfl
@[simp] theorem handExpired_time (s : State) (l : Link) (h : Nat) : (handExpired s l h).time = s.time := rfl
@[simp] theorem handExpired_log (s : State) (l : Link) (h : Nat) : (handExpired s l h).log = s.log := rfl
@[simp] theorem handExpired_freeCount (s : State) (l : Link) (h : Nat) : (handExpired s l h).freeCount = s.freeCount := rfl

@[simp] theorem placePost_pending (s : State) (l : Link) (slot : Fin 16) (want : Want) (d : Half) : (placePost s l slot want d).pending = s.pending := rfl
@[simp] theorem placePost_store (s : State) (l : Link) (slot : Fin 16) (want : Want) (d : Half) : (placePost s l slot want d).store = s.store := rfl
@[simp] theorem placePost_fans (s : State) (l : Link) (slot : Fin 16) (want : Want) (d : Half) : (placePost s l slot want d).fans = s.fans := rfl
@[simp] theorem placePost_frost (s : State) (l : Link) (slot : Fin 16) (want : Want) (d : Half) : (placePost s l slot want d).frost = s.frost := rfl
@[simp] theorem placePost_bus (s : State) (l : Link) (slot : Fin 16) (want : Want) (d : Half) : (placePost s l slot want d).bus = s.bus := rfl
@[simp] theorem placePost_humidity (s : State) (l : Link) (slot : Fin 16) (want : Want) (d : Half) : (placePost s l slot want d).humidity = s.humidity := rfl
@[simp] theorem placePost_filters (s : State) (l : Link) (slot : Fin 16) (want : Want) (d : Half) : (placePost s l slot want d).filters = s.filters := rfl
@[simp] theorem placePost_runner (s : State) (l : Link) (slot : Fin 16) (want : Want) (d : Half) : (placePost s l slot want d).runner = s.runner := rfl
@[simp] theorem placePost_links (s : State) (l : Link) (slot : Fin 16) (want : Want) (d : Half) : (placePost s l slot want d).links = s.links := rfl
@[simp] theorem placePost_time (s : State) (l : Link) (slot : Fin 16) (want : Want) (d : Half) : (placePost s l slot want d).time = s.time := rfl
@[simp] theorem placePost_log (s : State) (l : Link) (slot : Fin 16) (want : Want) (d : Half) : (placePost s l slot want d).log = s.log := rfl
@[simp] theorem placePost_freeCount (s : State) (l : Link) (slot : Fin 16) (want : Want) (d : Half) : (placePost s l slot want d).freeCount = s.freeCount := rfl

@[simp] theorem queuePass_pending (s : State) (l : Link) (req : BusRequest) : (queuePass s l req).pending = s.pending := rfl
@[simp] theorem queuePass_store (s : State) (l : Link) (req : BusRequest) : (queuePass s l req).store = s.store := rfl
@[simp] theorem queuePass_table (s : State) (l : Link) (req : BusRequest) : (queuePass s l req).table = s.table := rfl
@[simp] theorem queuePass_op (s : State) (l : Link) (req : BusRequest) : (queuePass s l req).op = s.op := rfl
@[simp] theorem queuePass_damper (s : State) (l : Link) (req : BusRequest) : (queuePass s l req).damper = s.damper := rfl
@[simp] theorem queuePass_fans (s : State) (l : Link) (req : BusRequest) : (queuePass s l req).fans = s.fans := rfl
@[simp] theorem queuePass_frost (s : State) (l : Link) (req : BusRequest) : (queuePass s l req).frost = s.frost := rfl
@[simp] theorem queuePass_humidity (s : State) (l : Link) (req : BusRequest) : (queuePass s l req).humidity = s.humidity := rfl
@[simp] theorem queuePass_filters (s : State) (l : Link) (req : BusRequest) : (queuePass s l req).filters = s.filters := rfl
@[simp] theorem queuePass_runner (s : State) (l : Link) (req : BusRequest) : (queuePass s l req).runner = s.runner := rfl
@[simp] theorem queuePass_links (s : State) (l : Link) (req : BusRequest) : (queuePass s l req).links = s.links := rfl
@[simp] theorem queuePass_time (s : State) (l : Link) (req : BusRequest) : (queuePass s l req).time = s.time := rfl
@[simp] theorem queuePass_log (s : State) (l : Link) (req : BusRequest) : (queuePass s l req).log = s.log := rfl
@[simp] theorem queuePass_freeCount (s : State) (l : Link) (req : BusRequest) : (queuePass s l req).freeCount = s.freeCount := rfl

@[simp] theorem interlock_pending (s : State) : (interlock s).pending = s.pending := rfl
@[simp] theorem interlock_store (s : State) : (interlock s).store = s.store := rfl
@[simp] theorem interlock_table (s : State) : (interlock s).table = s.table := rfl
@[simp] theorem interlock_op (s : State) : (interlock s).op = s.op := rfl
@[simp] theorem interlock_damper (s : State) : (interlock s).damper = s.damper := rfl
@[simp] theorem interlock_fans (s : State) : (interlock s).fans = s.fans := rfl
@[simp] theorem interlock_bus (s : State) : (interlock s).bus = s.bus := rfl
@[simp] theorem interlock_humidity (s : State) : (interlock s).humidity = s.humidity := rfl
@[simp] theorem interlock_filters (s : State) : (interlock s).filters = s.filters := rfl
@[simp] theorem interlock_runner (s : State) : (interlock s).runner = s.runner := rfl
@[simp] theorem interlock_links (s : State) : (interlock s).links = s.links := rfl
@[simp] theorem interlock_time (s : State) : (interlock s).time = s.time := rfl
@[simp] theorem interlock_log (s : State) : (interlock s).log = s.log := rfl
@[simp] theorem interlock_freeCount (s : State) : (interlock s).freeCount = s.freeCount := rfl

@[simp] theorem placeInternal_pending (s : State) (slot : Fin 16) (source : Source) (want : Want) (r : Option Nat) : (placeInternal s slot source want r).pending = s.pending := rfl
@[simp] theorem placeInternal_store (s : State) (slot : Fin 16) (source : Source) (want : Want) (r : Option Nat) : (placeInternal s slot source want r).store = s.store := rfl
@[simp] theorem placeInternal_fans (s : State) (slot : Fin 16) (source : Source) (want : Want) (r : Option Nat) : (placeInternal s slot source want r).fans = s.fans := rfl
@[simp] theorem placeInternal_frost (s : State) (slot : Fin 16) (source : Source) (want : Want) (r : Option Nat) : (placeInternal s slot source want r).frost = s.frost := rfl
@[simp] theorem placeInternal_bus (s : State) (slot : Fin 16) (source : Source) (want : Want) (r : Option Nat) : (placeInternal s slot source want r).bus = s.bus := rfl
@[simp] theorem placeInternal_humidity (s : State) (slot : Fin 16) (source : Source) (want : Want) (r : Option Nat) : (placeInternal s slot source want r).humidity = s.humidity := rfl
@[simp] theorem placeInternal_filters (s : State) (slot : Fin 16) (source : Source) (want : Want) (r : Option Nat) : (placeInternal s slot source want r).filters = s.filters := rfl
@[simp] theorem placeInternal_runner (s : State) (slot : Fin 16) (source : Source) (want : Want) (r : Option Nat) : (placeInternal s slot source want r).runner = s.runner := rfl
@[simp] theorem placeInternal_links (s : State) (slot : Fin 16) (source : Source) (want : Want) (r : Option Nat) : (placeInternal s slot source want r).links = s.links := rfl
@[simp] theorem placeInternal_time (s : State) (slot : Fin 16) (source : Source) (want : Want) (r : Option Nat) : (placeInternal s slot source want r).time = s.time := rfl
@[simp] theorem placeInternal_log (s : State) (slot : Fin 16) (source : Source) (want : Want) (r : Option Nat) : (placeInternal s slot source want r).log = s.log := rfl
@[simp] theorem placeInternal_freeCount (s : State) (slot : Fin 16) (source : Source) (want : Want) (r : Option Nat) : (placeInternal s slot source want r).freeCount = s.freeCount := rfl

@[simp] theorem setUpZones_pending (s : State) : (setUpZones s).pending = s.pending := rfl
@[simp] theorem setUpZones_store (s : State) : (setUpZones s).store = s.store := rfl
@[simp] theorem setUpZones_table (s : State) : (setUpZones s).table = s.table := rfl
@[simp] theorem setUpZones_op (s : State) : (setUpZones s).op = s.op := rfl
@[simp] theorem setUpZones_damper (s : State) : (setUpZones s).damper = s.damper := rfl
@[simp] theorem setUpZones_fans (s : State) : (setUpZones s).fans = s.fans := rfl
@[simp] theorem setUpZones_frost (s : State) : (setUpZones s).frost = s.frost := rfl
@[simp] theorem setUpZones_bus (s : State) : (setUpZones s).bus = s.bus := rfl
@[simp] theorem setUpZones_filters (s : State) : (setUpZones s).filters = s.filters := rfl
@[simp] theorem setUpZones_runner (s : State) : (setUpZones s).runner = s.runner := rfl
@[simp] theorem setUpZones_links (s : State) : (setUpZones s).links = s.links := rfl
@[simp] theorem setUpZones_time (s : State) : (setUpZones s).time = s.time := rfl
@[simp] theorem setUpZones_log (s : State) : (setUpZones s).log = s.log := rfl
@[simp] theorem setUpZones_freeCount (s : State) : (setUpZones s).freeCount = s.freeCount := rfl

@[simp] theorem startCounts_pending (s : State) : (startCounts s).pending = s.pending := rfl
@[simp] theorem startCounts_store (s : State) : (startCounts s).store = s.store := rfl
@[simp] theorem startCounts_table (s : State) : (startCounts s).table = s.table := rfl
@[simp] theorem startCounts_op (s : State) : (startCounts s).op = s.op := rfl
@[simp] theorem startCounts_damper (s : State) : (startCounts s).damper = s.damper := rfl
@[simp] theorem startCounts_fans (s : State) : (startCounts s).fans = s.fans := rfl
@[simp] theorem startCounts_bus (s : State) : (startCounts s).bus = s.bus := rfl
@[simp] theorem startCounts_humidity (s : State) : (startCounts s).humidity = s.humidity := rfl
@[simp] theorem startCounts_runner (s : State) : (startCounts s).runner = s.runner := rfl
@[simp] theorem startCounts_links (s : State) : (startCounts s).links = s.links := rfl
@[simp] theorem startCounts_time (s : State) : (startCounts s).time = s.time := rfl
@[simp] theorem startCounts_log (s : State) : (startCounts s).log = s.log := rfl
@[simp] theorem startCounts_freeCount (s : State) : (startCounts s).freeCount = s.freeCount := rfl

@[simp] theorem fillFilters_pending (s : State) (x : Loaded) : (fillFilters s x).pending = s.pending := rfl
@[simp] theorem fillFilters_store (s : State) (x : Loaded) : (fillFilters s x).store = s.store := rfl
@[simp] theorem fillFilters_table (s : State) (x : Loaded) : (fillFilters s x).table = s.table := rfl
@[simp] theorem fillFilters_op (s : State) (x : Loaded) : (fillFilters s x).op = s.op := rfl
@[simp] theorem fillFilters_damper (s : State) (x : Loaded) : (fillFilters s x).damper = s.damper := rfl
@[simp] theorem fillFilters_fans (s : State) (x : Loaded) : (fillFilters s x).fans = s.fans := rfl
@[simp] theorem fillFilters_frost (s : State) (x : Loaded) : (fillFilters s x).frost = s.frost := rfl
@[simp] theorem fillFilters_bus (s : State) (x : Loaded) : (fillFilters s x).bus = s.bus := rfl
@[simp] theorem fillFilters_humidity (s : State) (x : Loaded) : (fillFilters s x).humidity = s.humidity := rfl
@[simp] theorem fillFilters_runner (s : State) (x : Loaded) : (fillFilters s x).runner = s.runner := rfl
@[simp] theorem fillFilters_links (s : State) (x : Loaded) : (fillFilters s x).links = s.links := rfl
@[simp] theorem fillFilters_time (s : State) (x : Loaded) : (fillFilters s x).time = s.time := rfl
@[simp] theorem fillFilters_freeCount (s : State) (x : Loaded) : (fillFilters s x).freeCount = s.freeCount := rfl

end Sys2Proof.Machine
end

