-- ==== Sys2Proof/Laws/Frames.lean ====
section
/-! SUPPORT. What each operation of the blocks leaves as it was: one lemma for each field of `State` that the
operation never writes. -/

namespace Sys2Proof.Machine

@[simp] theorem finishProcedure_pending (s : State) (o : ProcedureOutcome) (r : PerSide (Option Nat)) : (finishProcedure s o r).pending = s.pending := by unfold finishProcedure; (try dsimp only); (repeat' split) <;> simp
@[simp] theorem finishProcedure_store (s : State) (o : ProcedureOutcome) (r : PerSide (Option Nat)) : (finishProcedure s o r).store = s.store := by unfold finishProcedure; (try dsimp only); (repeat' split) <;> simp
@[simp] theorem finishProcedure_table (s : State) (o : ProcedureOutcome) (r : PerSide (Option Nat)) : (finishProcedure s o r).table = s.table := by unfold finishProcedure; (try dsimp only); (repeat' split) <;> simp
@[simp] theorem finishProcedure_fans (s : State) (o : ProcedureOutcome) (r : PerSide (Option Nat)) : (finishProcedure s o r).fans = s.fans := by unfold finishProcedure; (try dsimp only); (repeat' split) <;> simp
@[simp] theorem finishProcedure_frost (s : State) (o : ProcedureOutcome) (r : PerSide (Option Nat)) : (finishProcedure s o r).frost = s.frost := by unfold finishProcedure; (try dsimp only); (repeat' split) <;> simp
@[simp] theorem finishProcedure_bus (s : State) (o : ProcedureOutcome) (r : PerSide (Option Nat)) : (finishProcedure s o r).bus = s.bus := by unfold finishProcedure; (try dsimp only); (repeat' split) <;> simp
@[simp] theorem finishProcedure_humidity (s : State) (o : ProcedureOutcome) (r : PerSide (Option Nat)) : (finishProcedure s o r).humidity = s.humidity := by unfold finishProcedure; (try dsimp only); (repeat' split) <;> simp
@[simp] theorem finishProcedure_filters (s : State) (o : ProcedureOutcome) (r : PerSide (Option Nat)) : (finishProcedure s o r).filters = s.filters := by unfold finishProcedure; (try dsimp only); (repeat' split) <;> simp
@[simp] theorem finishProcedure_time (s : State) (o : ProcedureOutcome) (r : PerSide (Option Nat)) : (finishProcedure s o r).time = s.time := by unfold finishProcedure; (try dsimp only); (repeat' split) <;> simp
@[simp] theorem finishProcedure_freeCount (s : State) (o : ProcedureOutcome) (r : PerSide (Option Nat)) : (finishProcedure s o r).freeCount = s.freeCount := by unfold finishProcedure; (try dsimp only); (repeat' split) <;> simp

@[simp] theorem abortProcedure_pending (s : State) (o : ProcedureOutcome) : (abortProcedure s o).pending = s.pending := by unfold abortProcedure; (try dsimp only); (repeat' split) <;> simp
@[simp] theorem abortProcedure_store (s : State) (o : ProcedureOutcome) : (abortProcedure s o).store = s.store := by unfold abortProcedure; (try dsimp only); (repeat' split) <;> simp
@[simp] theorem abortProcedure_table (s : State) (o : ProcedureOutcome) : (abortProcedure s o).table = s.table := by unfold abortProcedure; (try dsimp only); (repeat' split) <;> simp
@[simp] theorem abortProcedure_fans (s : State) (o : ProcedureOutcome) : (abortProcedure s o).fans = s.fans := by unfold abortProcedure; (try dsimp only); (repeat' split) <;> simp
@[simp] theorem abortProcedure_frost (s : State) (o : ProcedureOutcome) : (abortProcedure s o).frost = s.frost := by unfold abortProcedure; (try dsimp only); (repeat' split) <;> simp
@[simp] theorem abortProcedure_bus (s : State) (o : ProcedureOutcome) : (abortProcedure s o).bus = s.bus := by unfold abortProcedure; (try dsimp only); (repeat' split) <;> simp
@[simp] theorem abortProcedure_humidity (s : State) (o : ProcedureOutcome) : (abortProcedure s o).humidity = s.humidity := by unfold abortProcedure; (try dsimp only); (repeat' split) <;> simp
@[simp] theorem abortProcedure_filters (s : State) (o : ProcedureOutcome) : (abortProcedure s o).filters = s.filters := by unfold abortProcedure; (try dsimp only); (repeat' split) <;> simp
@[simp] theorem abortProcedure_time (s : State) (o : ProcedureOutcome) : (abortProcedure s o).time = s.time := by unfold abortProcedure; (try dsimp only); (repeat' split) <;> simp
@[simp] theorem abortProcedure_freeCount (s : State) (o : ProcedureOutcome) : (abortProcedure s o).freeCount = s.freeCount := by unfold abortProcedure; (try dsimp only); (repeat' split) <;> simp

@[simp] theorem tellStage_pending (s : State) (g : Stage) : (tellStage s g).pending = s.pending := by unfold tellStage; (try dsimp only); (repeat' split) <;> simp
@[simp] theorem tellStage_store (s : State) (g : Stage) : (tellStage s g).store = s.store := by unfold tellStage; (try dsimp only); (repeat' split) <;> simp
@[simp] theorem tellStage_table (s : State) (g : Stage) : (tellStage s g).table = s.table := by unfold tellStage; (try dsimp only); (repeat' split) <;> simp
@[simp] theorem tellStage_fans (s : State) (g : Stage) : (tellStage s g).fans = s.fans := by unfold tellStage; (try dsimp only); (repeat' split) <;> simp
@[simp] theorem tellStage_frost (s : State) (g : Stage) : (tellStage s g).frost = s.frost := by unfold tellStage; (try dsimp only); (repeat' split) <;> simp
@[simp] theorem tellStage_bus (s : State) (g : Stage) : (tellStage s g).bus = s.bus := by unfold tellStage; (try dsimp only); (repeat' split) <;> simp
@[simp] theorem tellStage_humidity (s : State) (g : Stage) : (tellStage s g).humidity = s.humidity := by unfold tellStage; (try dsimp only); (repeat' split) <;> simp
@[simp] theorem tellStage_filters (s : State) (g : Stage) : (tellStage s g).filters = s.filters := by unfold tellStage; (try dsimp only); (repeat' split) <;> simp
@[simp] theorem tellStage_time (s : State) (g : Stage) : (tellStage s g).time = s.time := by unfold tellStage; (try dsimp only); (repeat' split) <;> simp
@[simp] theorem tellStage_freeCount (s : State) (g : Stage) : (tellStage s g).freeCount = s.freeCount := by unfold tellStage; (try dsimp only); (repeat' split) <;> simp

@[simp] theorem tellFan_pending (s : State) (x : FanState) : (tellFan s x).pending = s.pending := by unfold tellFan; (try dsimp only); (repeat' split) <;> simp
@[simp] theorem tellFan_store (s : State) (x : FanState) : (tellFan s x).store = s.store := by unfold tellFan; (try dsimp only); (repeat' split) <;> simp
@[simp] theorem tellFan_table (s : State) (x : FanState) : (tellFan s x).table = s.table := by unfold tellFan; (try dsimp only); (repeat' split) <;> simp
@[simp] theorem tellFan_fans (s : State) (x : FanState) : (tellFan s x).fans = s.fans := by unfold tellFan; (try dsimp only); (repeat' split) <;> simp
@[simp] theorem tellFan_frost (s : State) (x : FanState) : (tellFan s x).frost = s.frost := by unfold tellFan; (try dsimp only); (repeat' split) <;> simp
@[simp] theorem tellFan_bus (s : State) (x : FanState) : (tellFan s x).bus = s.bus := by unfold tellFan; (try dsimp only); (repeat' split) <;> simp
@[simp] theorem tellFan_humidity (s : State) (x : FanState) : (tellFan s x).humidity = s.humidity := by unfold tellFan; (try dsimp only); (repeat' split) <;> simp
@[simp] theorem tellFan_filters (s : State) (x : FanState) : (tellFan s x).filters = s.filters := by unfold tellFan; (try dsimp only); (repeat' split) <;> simp
@[simp] theorem tellFan_time (s : State) (x : FanState) : (tellFan s x).time = s.time := by unfold tellFan; (try dsimp only); (repeat' split) <;> simp
@[simp] theorem tellFan_freeCount (s : State) (x : FanState) : (tellFan s x).freeCount = s.freeCount := by unfold tellFan; (try dsimp only); (repeat' split) <;> simp

@[simp] theorem fanChanged_pending (s : State) (f : Side) (a b : FanState) : (fanChanged s f a b).pending = s.pending := by unfold fanChanged; (try dsimp only); (repeat' split) <;> simp
@[simp] theorem fanChanged_store (s : State) (f : Side) (a b : FanState) : (fanChanged s f a b).store = s.store := by unfold fanChanged; (try dsimp only); (repeat' split) <;> simp
@[simp] theorem fanChanged_table (s : State) (f : Side) (a b : FanState) : (fanChanged s f a b).table = s.table := by unfold fanChanged; (try dsimp only); (repeat' split) <;> simp
@[simp] theorem fanChanged_fans (s : State) (f : Side) (a b : FanState) : (fanChanged s f a b).fans = s.fans := by unfold fanChanged; (try dsimp only); (repeat' split) <;> simp
@[simp] theorem fanChanged_frost (s : State) (f : Side) (a b : FanState) : (fanChanged s f a b).frost = s.frost := by unfold fanChanged; (try dsimp only); (repeat' split) <;> simp
@[simp] theorem fanChanged_bus (s : State) (f : Side) (a b : FanState) : (fanChanged s f a b).bus = s.bus := by unfold fanChanged; (try dsimp only); (repeat' split) <;> simp
@[simp] theorem fanChanged_humidity (s : State) (f : Side) (a b : FanState) : (fanChanged s f a b).humidity = s.humidity := by unfold fanChanged; (try dsimp only); (repeat' split) <;> simp
@[simp] theorem fanChanged_filters (s : State) (f : Side) (a b : FanState) : (fanChanged s f a b).filters = s.filters := by unfold fanChanged; (try dsimp only); (repeat' split) <;> simp
@[simp] theorem fanChanged_time (s : State) (f : Side) (a b : FanState) : (fanChanged s f a b).time = s.time := by unfold fanChanged; (try dsimp only); (repeat' split) <;> simp
@[simp] theorem fanChanged_freeCount (s : State) (f : Side) (a b : FanState) : (fanChanged s f a b).freeCount = s.freeCount := by unfold fanChanged; (try dsimp only); (repeat' split) <;> simp

@[simp] theorem handFan_pending (s : State) (f : Side) (x : FanRecord) : (handFan s f x).pending = s.pending := by unfold handFan; (try dsimp only); (repeat' split) <;> simp
@[simp] theorem handFan_store (s : State) (f : Side) (x : FanRecord) : (handFan s f x).store = s.store := by unfold handFan; (try dsimp only); (repeat' split) <;> simp
@[simp] theorem handFan_table (s : State) (f : Side) (x : FanRecord) : (handFan s f x).table = s.table := by unfold handFan; (try dsimp only); (repeat' split) <;> simp
@[simp] theorem handFan_frost (s : State) (f : Side) (x : FanRecord) : (handFan s f x).frost = s.frost := by unfold handFan; (try dsimp only); (repeat' split) <;> simp
@[simp] theorem handFan_bus (s : State) (f : Side) (x : FanRecord) : (handFan s f x).bus = s.bus := by unfold handFan; (try dsimp only); (repeat' split) <;> simp
@[simp] theorem handFan_humidity (s : State) (f : Side) (x : FanRecord) : (handFan s f x).humidity = s.humidity := by unfold handFan; (try dsimp only); (repeat' split) <;> simp
@[simp] theorem handFan_filters (s : State) (f : Side) (x : FanRecord) : (handFan s f x).filters = s.filters := by unfold handFan; (try dsimp only); (repeat' split) <;> simp
@[simp] theorem handFan_time (s : State) (f : Side) (x : FanRecord) : (handFan s f x).time = s.time := by unfold handFan; (try dsimp only); (repeat' split) <;> simp
@[simp] theorem handFan_freeCount (s : State) (f : Side) (x : FanRecord) : (handFan s f x).freeCount = s.freeCount := by unfold handFan; (try dsimp only); (repeat' split) <;> simp

@[simp] theorem fanStep_pending (s : State) (f : Side) (target : Nat) (c : Conversion) : (fanStep s f target c).pending = s.pending := by unfold fanStep; (try dsimp only); (repeat' split) <;> simp
@[simp] theorem fanStep_store (s : State) (f : Side) (target : Nat) (c : Conversion) : (fanStep s f target c).store = s.store := by unfold fanStep; (try dsimp only); (repeat' split) <;> simp
@[simp] theorem fanStep_table (s : State) (f : Side) (target : Nat) (c : Conversion) : (fanStep s f target c).table = s.table := by unfold fanStep; (try dsimp only); (repeat' split) <;> simp
@[simp] theorem fanStep_frost (s : State) (f : Side) (target : Nat) (c : Conversion) : (fanStep s f target c).frost = s.frost := by unfold fanStep; (try dsimp only); (repeat' split) <;> simp
@[simp] theorem fanStep_bus (s : State) (f : Side) (target : Nat) (c : Conversion) : (fanStep s f target c).bus = s.bus := by unfold fanStep; (try dsimp only); (repeat' split) <;> simp
@[simp] theorem fanStep_humidity (s : State) (f : Side) (target : Nat) (c : Conversion) : (fanStep s f target c).humidity = s.humidity := by unfold fanStep; (try dsimp only); (repeat' split) <;> simp
@[simp] theorem fanStep_filters (s : State) (f : Side) (target : Nat) (c : Conversion) : (fanStep s f target c).filters = s.filters := by unfold fanStep; (try dsimp only); (repeat' split) <;> simp
@[simp] theorem fanStep_time (s : State) (f : Side) (target : Nat) (c : Conversion) : (fanStep s f target c).time = s.time := by unfold fanStep; (try dsimp only); (repeat' split) <;> simp
@[simp] theorem fanStep_freeCount (s : State) (f : Side) (target : Nat) (c : Conversion) : (fanStep s f target c).freeCount = s.freeCount := by unfold fanStep; (try dsimp only); (repeat' split) <;> simp

@[simp] theorem fansStep_pending (s : State) (a b : Conversion) : (fansStep s a b).pending = s.pending := by unfold fansStep; (try dsimp only); (repeat' split) <;> simp
@[simp] theorem fansStep_store (s : State) (a b : Conversion) : (fansStep s a b).store = s.store := by unfold fansStep; (try dsimp only); (repeat' split) <;> simp
@[simp] theorem fansStep_table (s : State) (a b : Conversion) : (fansStep s a b).table = s.table := by unfold fansStep; (try dsimp only); (repeat' split) <;> simp
@[simp] theorem fansStep_frost (s : State) (a b : Conversion) : (fansStep s a b).frost = s.frost := by unfold fansStep; (try dsimp only); (repeat' split) <;> simp
@[simp] theorem fansStep_bus (s : State) (a b : Conversion) : (fansStep s a b).bus = s.bus := by unfold fansStep; (try dsimp only); (repeat' split) <;> simp
@[simp] theorem fansStep_humidity (s : State) (a b : Conversion) : (fansStep s a b).humidity = s.humidity := by unfold fansStep; (try dsimp only); (repeat' split) <;> simp
@[simp] theorem fansStep_filters (s : State) (a b : Conversion) : (fansStep s a b).filters = s.filters := by unfold fansStep; (try dsimp only); (repeat' split) <;> simp
@[simp] theorem fansStep_time (s : State) (a b : Conversion) : (fansStep s a b).time = s.time := by unfold fansStep; (try dsimp only); (repeat' split) <;> simp
@[simp] theorem fansStep_freeCount (s : State) (a b : Conversion) : (fansStep s a b).freeCount = s.freeCount := by unfold fansStep; (try dsimp only); (repeat' split) <;> simp

@[simp] theorem handAirProbe_pending (s : State) (n : AirProbe) (x : ProbeRecord) : (handAirProbe s n x).pending = s.pending := by unfold handAirProbe; (try dsimp only); (repeat' split) <;> simp
@[simp] theorem handAirProbe_store (s : State) (n : AirProbe) (x : ProbeRecord) : (handAirProbe s n x).store = s.store := by unfold handAirProbe; (try dsimp only); (repeat' split) <;> simp
@[simp] theorem handAirProbe_table (s : State) (n : AirProbe) (x : ProbeRecord) : (handAirProbe s n x).table = s.table := by unfold handAirProbe; (try dsimp only); (repeat' split) <;> simp
@[simp] theorem handAirProbe_op (s : State) (n : AirProbe) (x : ProbeRecord) : (handAirProbe s n x).op = s.op := by unfold handAirProbe; (try dsimp only); (repeat' split) <;> simp
@[simp] theorem handAirProbe_damper (s : State) (n : AirProbe) (x : ProbeRecord) : (handAirProbe s n x).damper = s.damper := by unfold handAirProbe; (try dsimp only); (repeat' split) <;> simp
@[simp] theorem handAirProbe_fans (s : State) (n : AirProbe) (x : ProbeRecord) : (handAirProbe s n x).fans = s.fans := by unfold handAirProbe; (try dsimp only); (repeat' split) <;> simp
@[simp] theorem handAirProbe_bus (s : State) (n : AirProbe) (x : ProbeRecord) : (handAirProbe s n x).bus = s.bus := by unfold handAirProbe; (try dsimp only); (repeat' split) <;> simp
@[simp] theorem handAirProbe_humidity (s : State) (n : AirProbe) (x : ProbeRecord) : (handAirProbe s n x).humidity = s.humidity := by unfold handAirProbe; (try dsimp only); (repeat' split) <;> simp
@[simp] theorem handAirProbe_filters (s : State) (n : AirProbe) (x : ProbeRecord) : (handAirProbe s n x).filters = s.filters := by unfold handAirProbe; (try dsimp only); (repeat' split) <;> simp
@[simp] theorem handAirProbe_runner (s : State) (n : AirProbe) (x : ProbeRecord) : (handAirProbe s n x).runner = s.runner := by unfold handAirProbe; (try dsimp only); (repeat' split) <;> simp
@[simp] theorem handAirProbe_time (s : State) (n : AirProbe) (x : ProbeRecord) : (handAirProbe s n x).time = s.time := by unfold handAirProbe; (try dsimp only); (repeat' split) <;> simp
@[simp] theorem handAirProbe_freeCount (s : State) (n : AirProbe) (x : ProbeRecord) : (handAirProbe s n x).freeCount = s.freeCount := by unfold handAirProbe; (try dsimp only); (repeat' split) <;> simp

@[simp] theorem readAirProbe_pending (s : State) (n : AirProbe) (t : Int) : (readAirProbe s n t).pending = s.pending := by unfold readAirProbe; (try dsimp only); (repeat' split) <;> simp
@[simp] theorem readAirProbe_store (s : State) (n : AirProbe) (t : Int) : (readAirProbe s n t).store = s.store := by unfold readAirProbe; (try dsimp only); (repeat' split) <;> simp
@[simp] theorem readAirProbe_table (s : State) (n : AirProbe) (t : Int) : (readAirProbe s n t).table = s.table := by unfold readAirProbe; (try dsimp only); (repeat' split) <;> simp
@[simp] theorem readAirProbe_op (s : State) (n : AirProbe) (t : Int) : (readAirProbe s n t).op = s.op := by unfold readAirProbe; (try dsimp only); (repeat' split) <;> simp
@[simp] theorem readAirProbe_damper (s : State) (n : AirProbe) (t : Int) : (readAirProbe s n t).damper = s.damper := by unfold readAirProbe; (try dsimp only); (repeat' split) <;> simp
@[simp] theorem readAirProbe_fans (s : State) (n : AirProbe) (t : Int) : (readAirProbe s n t).fans = s.fans := by unfold readAirProbe; (try dsimp only); (repeat' split) <;> simp
@[simp] theorem readAirProbe_bus (s : State) (n : AirProbe) (t : Int) : (readAirProbe s n t).bus = s.bus := by unfold readAirProbe; (try dsimp only); (repeat' split) <;> simp
@[simp] theorem readAirProbe_humidity (s : State) (n : AirProbe) (t : Int) : (readAirProbe s n t).humidity = s.humidity := by unfold readAirProbe; (try dsimp only); (repeat' split) <;> simp
@[simp] theorem readAirProbe_filters (s : State) (n : AirProbe) (t : Int) : (readAirProbe s n t).filters = s.filters := by unfold readAirProbe; (try dsimp only); (repeat' split) <;> simp
@[simp] theorem readAirProbe_runner (s : State) (n : AirProbe) (t : Int) : (readAirProbe s n t).runner = s.runner := by unfold readAirProbe; (try dsimp only); (repeat' split) <;> simp
@[simp] theorem readAirProbe_time (s : State) (n : AirProbe) (t : Int) : (readAirProbe s n t).time = s.time := by unfold readAirProbe; (try dsimp only); (repeat' split) <;> simp
@[simp] theorem readAirProbe_freeCount (s : State) (n : AirProbe) (t : Int) : (readAirProbe s n t).freeCount = s.freeCount := by unfold readAirProbe; (try dsimp only); (repeat' split) <;> simp

@[simp] theorem judgeTruths_pending (s : State) : (judgeTruths s).pending = s.pending := by unfold judgeTruths; (try dsimp only); (repeat' split) <;> simp
@[simp] theorem judgeTruths_store (s : State) : (judgeTruths s).store = s.store := by unfold judgeTruths; (try dsimp only); (repeat' split) <;> simp
@[simp] theorem judgeTruths_table (s : State) : (judgeTruths s).table = s.table := by unfold judgeTruths; (try dsimp only); (repeat' split) <;> simp
@[simp] theorem judgeTruths_fans (s : State) : (judgeTruths s).fans = s.fans := by unfold judgeTruths; (try dsimp only); (repeat' split) <;> simp
@[simp] theorem judgeTruths_bus (s : State) : (judgeTruths s).bus = s.bus := by unfold judgeTruths; (try dsimp only); (repeat' split) <;> simp
@[simp] theorem judgeTruths_humidity (s : State) : (judgeTruths s).humidity = s.humidity := by unfold judgeTruths; (try dsimp only); (repeat' split) <;> simp
@[simp] theorem judgeTruths_filters (s : State) : (judgeTruths s).filters = s.filters := by unfold judgeTruths; (try dsimp only); (repeat' split) <;> simp
@[simp] theorem judgeTruths_runner (s : State) : (judgeTruths s).runner = s.runner := by unfold judgeTruths; (try dsimp only); (repeat' split) <;> simp
@[simp] theorem judgeTruths_links (s : State) : (judgeTruths s).links = s.links := by unfold judgeTruths; (try dsimp only); (repeat' split) <;> simp
@[simp] theorem judgeTruths_time (s : State) : (judgeTruths s).time = s.time := by unfold judgeTruths; (try dsimp only); (repeat' split) <;> simp
@[simp] theorem judgeTruths_log (s : State) : (judgeTruths s).log = s.log := by unfold judgeTruths; (try dsimp only); (repeat' split) <;> simp
@[simp] theorem judgeTruths_freeCount (s : State) : (judgeTruths s).freeCount = s.freeCount := by unfold judgeTruths; (try dsimp only); (repeat' split) <;> simp

@[simp] theorem overheat_pending (s : State) : (overheat s).pending = s.pending := by unfold overheat; (try dsimp only); (repeat' split) <;> simp
@[simp] theorem overheat_store (s : State) : (overheat s).store = s.store := by unfold overheat; (try dsimp only); (repeat' split) <;> simp
@[simp] theorem overheat_table (s : State) : (overheat s).table = s.table := by unfold overheat; (try dsimp only); (repeat' split) <;> simp
@[simp] theorem overheat_op (s : State) : (overheat s).op = s.op := by unfold overheat; (try dsimp only); (repeat' split) <;> simp
@[simp] theorem overheat_damper (s : State) : (overheat s).damper = s.damper := by unfold overheat; (try dsimp only); (repeat' split) <;> simp
@[simp] theorem overheat_fans (s : State) : (overheat s).fans = s.fans := by unfold overheat; (try dsimp only); (repeat' split) <;> simp
@[simp] theorem overheat_bus (s : State) : (overheat s).bus = s.bus := by unfold overheat; (try dsimp only); (repeat' split) <;> simp
@[simp] theorem overheat_humidity (s : State) : (overheat s).humidity = s.humidity := by unfold overheat; (try dsimp only); (repeat' split) <;> simp
@[simp] theorem overheat_filters (s : State) : (overheat s).filters = s.filters := by unfold overheat; (try dsimp only); (repeat' split) <;> simp
@[simp] theorem overheat_runner (s : State) : (overheat s).runner = s.runner := by unfold overheat; (try dsimp only); (repeat' split) <;> simp
@[simp] theorem overheat_time (s : State) : (overheat s).time = s.time := by unfold overheat; (try dsimp only); (repeat' split) <;> simp
@[simp] theorem overheat_log (s : State) : (overheat s).log = s.log := by unfold overheat; (try dsimp only); (repeat' split) <;> simp
@[simp] theorem overheat_freeCount (s : State) : (overheat s).freeCount = s.freeCount := by unfold overheat; (try dsimp only); (repeat' split) <;> simp

@[simp] theorem frostControl_pending (s : State) (i : ControlInputs) : (frostControl s i).pending = s.pending := by unfold frostControl; (try dsimp only); (repeat' split) <;> simp
@[simp] theorem frostControl_store (s : State) (i : ControlInputs) : (frostControl s i).store = s.store := by unfold frostControl; (try dsimp only); (repeat' split) <;> simp
@[simp] theorem frostControl_table (s : State) (i : ControlInputs) : (frostControl s i).table = s.table := by unfold frostControl; (try dsimp only); (repeat' split) <;> simp
@[simp] theorem frostControl_fans (s : State) (i : ControlInputs) : (frostControl s i).fans = s.fans := by unfold frostControl; (try dsimp only); (repeat' split) <;> simp
@[simp] theorem frostControl_bus (s : State) (i : ControlInputs) : (frostControl s i).bus = s.bus := by unfold frostControl; (try dsimp only); (repeat' split) <;> simp
@[simp] theorem frostControl_humidity (s : State) (i : ControlInputs) : (frostControl s i).humidity = s.humidity := by unfold frostControl; (try dsimp only); (repeat' split) <;> simp
@[simp] theorem frostControl_filters (s : State) (i : ControlInputs) : (frostControl s i).filters = s.filters := by unfold frostControl; (try dsimp only); (repeat' split) <;> simp
@[simp] theorem frostControl_runner (s : State) (i : ControlInputs) : (frostControl s i).runner = s.runner := by unfold frostControl; (try dsimp only); (repeat' split) <;> simp
@[simp] theorem frostControl_time (s : State) (i : ControlInputs) : (frostControl s i).time = s.time := by unfold frostControl; (try dsimp only); (repeat' split) <;> simp
@[simp] theorem frostControl_freeCount (s : State) (i : ControlInputs) : (frostControl s i).freeCount = s.freeCount := by unfold frostControl; (try dsimp only); (repeat' split) <;> simp

@[simp] theorem handFilterProbe_pending (s : State) (f : Side) (x : FilterRecord) : (handFilterProbe s f x).pending = s.pending := by unfold handFilterProbe; (try dsimp only); (repeat' split) <;> simp
@[simp] theorem handFilterProbe_store (s : State) (f : Side) (x : FilterRecord) : (handFilterProbe s f x).store = s.store := by unfold handFilterProbe; (try dsimp only); (repeat' split) <;> simp
@[simp] theorem handFilterProbe_table (s : State) (f : Side) (x : FilterRecord) : (handFilterProbe s f x).table = s.table := by unfold handFilterProbe; (try dsimp only); (repeat' split) <;> simp
@[simp] theorem handFilterProbe_op (s : State) (f : Side) (x : FilterRecord) : (handFilterProbe s f x).op = s.op := by unfold handFilterProbe; (try dsimp only); (repeat' split) <;> simp
@[simp] theorem handFilterProbe_damper (s : State) (f : Side) (x : FilterRecord) : (handFilterProbe s f x).damper = s.damper := by unfold handFilterProbe; (try dsimp only); (repeat' split) <;> simp
@[simp] theorem handFilterProbe_fans (s : State) (f : Side) (x : FilterRecord) : (handFilterProbe s f x).fans = s.fans := by unfold handFilterProbe; (try dsimp only); (repeat' split) <;> simp
@[simp] theorem handFilterProbe_frost (s : State) (f : Side) (x : FilterRecord) : (handFilterProbe s f x).frost = s.frost := by unfold handFilterProbe; (try dsimp only); (repeat' split) <;> simp
@[simp] theorem handFilterProbe_bus (s : State) (f : Side) (x : FilterRecord) : (handFilterProbe s f x).bus = s.bus := by unfold handFilterProbe; (try dsimp only); (repeat' split) <;> simp
@[simp] theorem handFilterProbe_humidity (s : State) (f : Side) (x : FilterRecord) : (handFilterProbe s f x).humidity = s.humidity := by unfold handFilterProbe; (try dsimp only); (repeat' split) <;> simp
@[simp] theorem handFilterProbe_runner (s : State) (f : Side) (x : FilterRecord) : (handFilterProbe s f x).runner = s.runner := by unfold handFilterProbe; (try dsimp only); (repeat' split) <;> simp
@[simp] theorem handFilterProbe_time (s : State) (f : Side) (x : FilterRecord) : (handFilterProbe s f x).time = s.time := by unfold handFilterProbe; (try dsimp only); (repeat' split) <;> simp
@[simp] theorem handFilterProbe_freeCount (s : State) (f : Side) (x : FilterRecord) : (handFilterProbe s f x).freeCount = s.freeCount := by unfold handFilterProbe; (try dsimp only); (repeat' split) <;> simp

@[simp] theorem readFilterProbe_pending (s : State) (f : Side) (c : Conversion) : (readFilterProbe s f c).pending = s.pending := by unfold readFilterProbe; (try dsimp only); (repeat' split) <;> simp
@[simp] theorem readFilterProbe_store (s : State) (f : Side) (c : Conversion) : (readFilterProbe s f c).store = s.store := by unfold readFilterProbe; (try dsimp only); (repeat' split) <;> simp
@[simp] theorem readFilterProbe_table (s : State) (f : Side) (c : Conversion) : (readFilterProbe s f c).table = s.table := by unfold readFilterProbe; (try dsimp only); (repeat' split) <;> simp
@[simp] theorem readFilterProbe_op (s : State) (f : Side) (c : Conversion) : (readFilterProbe s f c).op = s.op := by unfold readFilterProbe; (try dsimp only); (repeat' split) <;> simp
@[simp] theorem readFilterProbe_damper (s : State) (f : Side) (c : Conversion) : (readFilterProbe s f c).damper = s.damper := by unfold readFilterProbe; (try dsimp only); (repeat' split) <;> simp
@[simp] theorem readFilterProbe_fans (s : State) (f : Side) (c : Conversion) : (readFilterProbe s f c).fans = s.fans := by unfold readFilterProbe; (try dsimp only); (repeat' split) <;> simp
@[simp] theorem readFilterProbe_frost (s : State) (f : Side) (c : Conversion) : (readFilterProbe s f c).frost = s.frost := by unfold readFilterProbe; (try dsimp only); (repeat' split) <;> simp
@[simp] theorem readFilterProbe_bus (s : State) (f : Side) (c : Conversion) : (readFilterProbe s f c).bus = s.bus := by unfold readFilterProbe; (try dsimp only); (repeat' split) <;> simp
@[simp] theorem readFilterProbe_humidity (s : State) (f : Side) (c : Conversion) : (readFilterProbe s f c).humidity = s.humidity := by unfold readFilterProbe; (try dsimp only); (repeat' split) <;> simp
@[simp] theorem readFilterProbe_runner (s : State) (f : Side) (c : Conversion) : (readFilterProbe s f c).runner = s.runner := by unfold readFilterProbe; (try dsimp only); (repeat' split) <;> simp
@[simp] theorem readFilterProbe_time (s : State) (f : Side) (c : Conversion) : (readFilterProbe s f c).time = s.time := by unfold readFilterProbe; (try dsimp only); (repeat' split) <;> simp
@[simp] theorem readFilterProbe_freeCount (s : State) (f : Side) (c : Conversion) : (readFilterProbe s f c).freeCount = s.freeCount := by unfold readFilterProbe; (try dsimp only); (repeat' split) <;> simp

@[simp] theorem filtersControl_pending (s : State) (a b : Conversion) : (filtersControl s a b).pending = s.pending := by unfold filtersControl; (try dsimp only); (repeat' split) <;> simp
@[simp] theorem filtersControl_store (s : State) (a b : Conversion) : (filtersControl s a b).store = s.store := by unfold filtersControl; (try dsimp only); (repeat' split) <;> simp
@[simp] theorem filtersControl_table (s : State) (a b : Conversion) : (filtersControl s a b).table = s.table := by unfold filtersControl; (try dsimp only); (repeat' split) <;> simp
@[simp] theorem filtersControl_op (s : State) (a b : Conversion) : (filtersControl s a b).op = s.op := by unfold filtersControl; (try dsimp only); (repeat' split) <;> simp
@[simp] theorem filtersControl_damper (s : State) (a b : Conversion) : (filtersControl s a b).damper = s.damper := by unfold filtersControl; (try dsimp only); (repeat' split) <;> simp
@[simp] theorem filtersControl_fans (s : State) (a b : Conversion) : (filtersControl s a b).fans = s.fans := by unfold filtersControl; (try dsimp only); (repeat' split) <;> simp
@[simp] theorem filtersControl_frost (s : State) (a b : Conversion) : (filtersControl s a b).frost = s.frost := by unfold filtersControl; (try dsimp only); (repeat' split) <;> simp
@[simp] theorem filtersControl_bus (s : State) (a b : Conversion) : (filtersControl s a b).bus = s.bus := by unfold filtersControl; (try dsimp only); (repeat' split) <;> simp
@[simp] theorem filtersControl_humidity (s : State) (a b : Conversion) : (filtersControl s a b).humidity = s.humidity := by unfold filtersControl; (try dsimp only); (repeat' split) <;> simp
@[simp] theorem filtersControl_runner (s : State) (a b : Conversion) : (filtersControl s a b).runner = s.runner := by unfold filtersControl; (try dsimp only); (repeat' split) <;> simp
@[simp] theorem filtersControl_time (s : State) (a b : Conversion) : (filtersControl s a b).time = s.time := by unfold filtersControl; (try dsimp only); (repeat' split) <;> simp
@[simp] theorem filtersControl_freeCount (s : State) (a b : Conversion) : (filtersControl s a b).freeCount = s.freeCount := by unfold filtersControl; (try dsimp only); (repeat' split) <;> simp

@[simp] theorem controlStep_pending (s : State) (i : ControlInputs) : (controlStep s i).pending = s.pending := by unfold controlStep; (try dsimp only); (repeat' split) <;> simp
@[simp] theorem controlStep_store (s : State) (i : ControlInputs) : (controlStep s i).store = s.store := by unfold controlStep; (try dsimp only); (repeat' split) <;> simp
@[simp] theorem controlStep_table (s : State) (i : ControlInputs) : (controlStep s i).table = s.table := by unfold controlStep; (try dsimp only); (repeat' split) <;> simp
@[simp] theorem controlStep_bus (s : State) (i : ControlInputs) : (controlStep s i).bus = s.bus := by unfold controlStep; (try dsimp only); (repeat' split) <;> simp
@[simp] theorem controlStep_humidity (s : State) (i : ControlInputs) : (controlStep s i).humidity = s.humidity := by unfold controlStep; (try dsimp only); (repeat' split) <;> simp
@[simp] theorem controlStep_time (s : State) (i : ControlInputs) : (controlStep s i).time = s.time := by unfold controlStep; (try dsimp only); (repeat' split) <;> simp
@[simp] theorem controlStep_freeCount (s : State) (i : ControlInputs) : (controlStep s i).freeCount = s.freeCount := by unfold controlStep; (try dsimp only); (repeat' split) <;> simp

@[simp] theorem stageChanged_pending (s : State) (a b : Stage) : (stageChanged s a b).pending = s.pending := by unfold stageChanged; (try dsimp only); (repeat' split) <;> simp
@[simp] theorem stageChanged_store (s : State) (a b : Stage) : (stageChanged s a b).store = s.store := by unfold stageChanged; (try dsimp only); (repeat' split) <;> simp
@[simp] theorem stageChanged_table (s : State) (a b : Stage) : (stageChanged s a b).table = s.table := by unfold stageChanged; (try dsimp only); (repeat' split) <;> simp
@[simp] theorem stageChanged_fans (s : State) (a b : Stage) : (stageChanged s a b).fans = s.fans := by unfold stageChanged; (try dsimp only); (repeat' split) <;> simp
@[simp] theorem stageChanged_frost (s : State) (a b : Stage) : (stageChanged s a b).frost = s.frost := by unfold stageChanged; (try dsimp only); (repeat' split) <;> simp
@[simp] theorem stageChanged_bus (s : State) (a b : Stage) : (stageChanged s a b).bus = s.bus := by unfold stageChanged; (try dsimp only); (repeat' split) <;> simp
@[simp] theorem stageChanged_humidity (s : State) (a b : Stage) : (stageChanged s a b).humidity = s.humidity := by unfold stageChanged; (try dsimp only); (repeat' split) <;> simp
@[simp] theorem stageChanged_filters (s : State) (a b : Stage) : (stageChanged s a b).filters = s.filters := by unfold stageChanged; (try dsimp only); (repeat' split) <;> simp
@[simp] theorem stageChanged_time (s : State) (a b : Stage) : (stageChanged s a b).time = s.time := by unfold stageChanged; (try dsimp only); (repeat' split) <;> simp
@[simp] theorem stageChanged_freeCount (s : State) (a b : Stage) : (stageChanged s a b).freeCount = s.freeCount := by unfold stageChanged; (try dsimp only); (repeat' split) <;> simp

@[simp] theorem thawEnded_pending (s : State) (e : Option ThawEnd) : (thawEnded s e).pending = s.pending := by unfold thawEnded; (try dsimp only); (repeat' split) <;> simp
@[simp] theorem thawEnded_store (s : State) (e : Option ThawEnd) : (thawEnded s e).store = s.store := by unfold thawEnded; (try dsimp only); (repeat' split) <;> simp
@[simp] theorem thawEnded_table (s : State) (e : Option ThawEnd) : (thawEnded s e).table = s.table := by unfold thawEnded; (try dsimp only); (repeat' split) <;> simp
@[simp] theorem thawEnded_op (s : State) (e : Option ThawEnd) : (thawEnded s e).op = s.op := by unfold thawEnded; (try dsimp only); (repeat' split) <;> simp
@[simp] theorem thawEnded_damper (s : State) (e : Option ThawEnd) : (thawEnded s e).damper = s.damper := by unfold thawEnded; (try dsimp only); (repeat' split) <;> simp
@[simp] theorem thawEnded_fans (s : State) (e : Option ThawEnd) : (thawEnded s e).fans = s.fans := by unfold thawEnded; (try dsimp only); (repeat' split) <;> simp
@[simp] theorem thawEnded_frost (s : State) (e : Option ThawEnd) : (thawEnded s e).frost = s.frost := by unfold thawEnded; (try dsimp only); (repeat' split) <;> simp
@[simp] theorem thawEnded_bus (s : State) (e : Option ThawEnd) : (thawEnded s e).bus = s.bus := by unfold thawEnded; (try dsimp only); (repeat' split) <;> simp
@[simp] theorem thawEnded_humidity (s : State) (e : Option ThawEnd) : (thawEnded s e).humidity = s.humidity := by unfold thawEnded; (try dsimp only); (repeat' split) <;> simp
@[simp] theorem thawEnded_filters (s : State) (e : Option ThawEnd) : (thawEnded s e).filters = s.filters := by unfold thawEnded; (try dsimp only); (repeat' split) <;> simp
@[simp] theorem thawEnded_runner (s : State) (e : Option ThawEnd) : (thawEnded s e).runner = s.runner := by unfold thawEnded; (try dsimp only); (repeat' split) <;> simp
@[simp] theorem thawEnded_time (s : State) (e : Option ThawEnd) : (thawEnded s e).time = s.time := by unfold thawEnded; (try dsimp only); (repeat' split) <;> simp
@[simp] theorem thawEnded_freeCount (s : State) (e : Option ThawEnd) : (thawEnded s e).freeCount = s.freeCount := by unfold thawEnded; (try dsimp only); (repeat' split) <;> simp

@[simp] theorem applyFrostMove_pending (s : State) (m : FrostMove) : (applyFrostMove s m).pending = s.pending := by unfold applyFrostMove; (try dsimp only); (repeat' split) <;> simp
@[simp] theorem applyFrostMove_store (s : State) (m : FrostMove) : (applyFrostMove s m).store = s.store := by unfold applyFrostMove; (try dsimp only); (repeat' split) <;> simp
@[simp] theorem applyFrostMove_table (s : State) (m : FrostMove) : (applyFrostMove s m).table = s.table := by unfold applyFrostMove; (try dsimp only); (repeat' split) <;> simp
@[simp] theorem applyFrostMove_fans (s : State) (m : FrostMove) : (applyFrostMove s m).fans = s.fans := by unfold applyFrostMove; (try dsimp only); (repeat' split) <;> simp
@[simp] theorem applyFrostMove_bus (s : State) (m : FrostMove) : (applyFrostMove s m).bus = s.bus := by unfold applyFrostMove; (try dsimp only); (repeat' split) <;> simp
@[simp] theorem applyFrostMove_humidity (s : State) (m : FrostMove) : (applyFrostMove s m).humidity = s.humidity := by unfold applyFrostMove; (try dsimp only); (repeat' split) <;> simp
@[simp] theorem applyFrostMove_filters (s : State) (m : FrostMove) : (applyFrostMove s m).filters = s.filters := by unfold applyFrostMove; (try dsimp only); (repeat' split) <;> simp
@[simp] theorem applyFrostMove_time (s : State) (m : FrostMove) : (applyFrostMove s m).time = s.time := by unfold applyFrostMove; (try dsimp only); (repeat' split) <;> simp
@[simp] theorem applyFrostMove_freeCount (s : State) (m : FrostMove) : (applyFrostMove s m).freeCount = s.freeCount := by unfold applyFrostMove; (try dsimp only); (repeat' split) <;> simp

@[simp] theorem takeFrostMove_pending (s : State) (m : FrostMove) : (takeFrostMove s m).pending = s.pending := by unfold takeFrostMove; (try dsimp only); (repeat' split) <;> simp
@[simp] theorem takeFrostMove_store (s : State) (m : FrostMove) : (takeFrostMove s m).store = s.store := by unfold takeFrostMove; (try dsimp only); (repeat' split) <;> simp
@[simp] theorem takeFrostMove_table (s : State) (m : FrostMove) : (takeFrostMove s m).table = s.table := by unfold takeFrostMove; (try dsimp only); (repeat' split) <;> simp
@[simp] theorem takeFrostMove_fans (s : State) (m : FrostMove) : (takeFrostMove s m).fans = s.fans := by unfold takeFrostMove; (try dsimp only); (repeat' split) <;> simp
@[simp] theorem takeFrostMove_bus (s : State) (m : FrostMove) : (takeFrostMove s m).bus = s.bus := by unfold takeFrostMove; (try dsimp only); (repeat' split) <;> simp
@[simp] theorem takeFrostMove_humidity (s : State) (m : FrostMove) : (takeFrostMove s m).humidity = s.humidity := by unfold takeFrostMove; (try dsimp only); (repeat' split) <;> simp
@[simp] theorem takeFrostMove_filters (s : State) (m : FrostMove) : (takeFrostMove s m).filters = s.filters := by unfold takeFrostMove; (try dsimp only); (repeat' split) <;> simp
@[simp] theorem takeFrostMove_time (s : State) (m : FrostMove) : (takeFrostMove s m).time = s.time := by unfold takeFrostMove; (try dsimp only); (repeat' split) <;> simp
@[simp] theorem takeFrostMove_freeCount (s : State) (m : FrostMove) : (takeFrostMove s m).freeCount = s.freeCount := by unfold takeFrostMove; (try dsimp only); (repeat' split) <;> simp

@[simp] theorem frostStep_pending (s : State) : (frostStep s).pending = s.pending := by unfold frostStep; (try dsimp only); (repeat' split) <;> simp
@[simp] theorem frostStep_store (s : State) : (frostStep s).store = s.store := by unfold frostStep; (try dsimp only); (repeat' split) <;> simp
@[simp] theorem frostStep_table (s : State) : (frostStep s).table = s.table := by unfold frostStep; (try dsimp only); (repeat' split) <;> simp
@[simp] theorem frostStep_fans (s : State) : (frostStep s).fans = s.fans := by unfold frostStep; (try dsimp only); (repeat' split) <;> simp
@[simp] theorem frostStep_bus (s : State) : (frostStep s).bus = s.bus := by unfold frostStep; (try dsimp only); (repeat' split) <;> simp
@[simp] theorem frostStep_humidity (s : State) : (frostStep s).humidity = s.humidity := by unfold frostStep; (try dsimp only); (repeat' split) <;> simp
@[simp] theorem frostStep_filters (s : State) : (frostStep s).filters = s.filters := by unfold frostStep; (try dsimp only); (repeat' split) <;> simp
@[simp] theorem frostStep_time (s : State) : (frostStep s).time = s.time := by unfold frostStep; (try dsimp only); (repeat' split) <;> simp
@[simp] theorem frostStep_freeCount (s : State) : (frostStep s).freeCount = s.freeCount := by unfold frostStep; (try dsimp only); (repeat' split) <;> simp

@[simp] theorem retimeInternal_pending (s : State) (slot : Fin 16) (r : Option Nat) : (retimeInternal s slot r).pending = s.pending := by unfold retimeInternal; (try dsimp only); (repeat' split) <;> simp
@[simp] theorem retimeInternal_store (s : State) (slot : Fin 16) (r : Option Nat) : (retimeInternal s slot r).store = s.store := by unfold retimeInternal; (try dsimp only); (repeat' split) <;> simp
@[simp] theorem retimeInternal_fans (s : State) (slot : Fin 16) (r : Option Nat) : (retimeInternal s slot r).fans = s.fans := by unfold retimeInternal; (try dsimp only); (repeat' split) <;> simp
@[simp] theorem retimeInternal_frost (s : State) (slot : Fin 16) (r : Option Nat) : (retimeInternal s slot r).frost = s.frost := by unfold retimeInternal; (try dsimp only); (repeat' split) <;> simp
@[simp] theorem retimeInternal_bus (s : State) (slot : Fin 16) (r : Option Nat) : (retimeInternal s slot r).bus = s.bus := by unfold retimeInternal; (try dsimp only); (repeat' split) <;> simp
@[simp] theorem retimeInternal_humidity (s : State) (slot : Fin 16) (r : Option Nat) : (retimeInternal s slot r).humidity = s.humidity := by unfold retimeInternal; (try dsimp only); (repeat' split) <;> simp
@[simp] theorem retimeInternal_filters (s : State) (slot : Fin 16) (r : Option Nat) : (retimeInternal s slot r).filters = s.filters := by unfold retimeInternal; (try dsimp only); (repeat' split) <;> simp
@[simp] theorem retimeInternal_runner (s : State) (slot : Fin 16) (r : Option Nat) : (retimeInternal s slot r).runner = s.runner := by unfold retimeInternal; (try dsimp only); (repeat' split) <;> simp
@[simp] theorem retimeInternal_links (s : State) (slot : Fin 16) (r : Option Nat) : (retimeInternal s slot r).links = s.links := by unfold retimeInternal; (try dsimp only); (repeat' split) <;> simp
@[simp] theorem retimeInternal_time (s : State) (slot : Fin 16) (r : Option Nat) : (retimeInternal s slot r).time = s.time := by unfold retimeInternal; (try dsimp only); (repeat' split) <;> simp
@[simp] theorem retimeInternal_log (s : State) (slot : Fin 16) (r : Option Nat) : (retimeInternal s slot r).log = s.log := by unfold retimeInternal; (try dsimp only); (repeat' split) <;> simp
@[simp] theorem retimeInternal_freeCount (s : State) (slot : Fin 16) (r : Option Nat) : (retimeInternal s slot r).freeCount = s.freeCount := by unfold retimeInternal; (try dsimp only); (repeat' split) <;> simp

@[simp] theorem removeInternal_pending (s : State) (slot : Fin 16) : (removeInternal s slot).pending = s.pending := by unfold removeInternal; (try dsimp only); (repeat' split) <;> simp
@[simp] theorem removeInternal_store (s : State) (slot : Fin 16) : (removeInternal s slot).store = s.store := by unfold removeInternal; (try dsimp only); (repeat' split) <;> simp
@[simp] theorem removeInternal_fans (s : State) (slot : Fin 16) : (removeInternal s slot).fans = s.fans := by unfold removeInternal; (try dsimp only); (repeat' split) <;> simp
@[simp] theorem removeInternal_frost (s : State) (slot : Fin 16) : (removeInternal s slot).frost = s.frost := by unfold removeInternal; (try dsimp only); (repeat' split) <;> simp
@[simp] theorem removeInternal_bus (s : State) (slot : Fin 16) : (removeInternal s slot).bus = s.bus := by unfold removeInternal; (try dsimp only); (repeat' split) <;> simp
@[simp] theorem removeInternal_humidity (s : State) (slot : Fin 16) : (removeInternal s slot).humidity = s.humidity := by unfold removeInternal; (try dsimp only); (repeat' split) <;> simp
@[simp] theorem removeInternal_filters (s : State) (slot : Fin 16) : (removeInternal s slot).filters = s.filters := by unfold removeInternal; (try dsimp only); (repeat' split) <;> simp
@[simp] theorem removeInternal_runner (s : State) (slot : Fin 16) : (removeInternal s slot).runner = s.runner := by unfold removeInternal; (try dsimp only); (repeat' split) <;> simp
@[simp] theorem removeInternal_links (s : State) (slot : Fin 16) : (removeInternal s slot).links = s.links := by unfold removeInternal; (try dsimp only); (repeat' split) <;> simp
@[simp] theorem removeInternal_time (s : State) (slot : Fin 16) : (removeInternal s slot).time = s.time := by unfold removeInternal; (try dsimp only); (repeat' split) <;> simp
@[simp] theorem removeInternal_log (s : State) (slot : Fin 16) : (removeInternal s slot).log = s.log := by unfold removeInternal; (try dsimp only); (repeat' split) <;> simp
@[simp] theorem removeInternal_freeCount (s : State) (slot : Fin 16) : (removeInternal s slot).freeCount = s.freeCount := by unfold removeInternal; (try dsimp only); (repeat' split) <;> simp

@[simp] theorem dropLinkEntries_pending (s : State) (l : Link) : (dropLinkEntries s l).pending = s.pending := by unfold dropLinkEntries; (try dsimp only); (repeat' split) <;> simp
@[simp] theorem dropLinkEntries_store (s : State) (l : Link) : (dropLinkEntries s l).store = s.store := by unfold dropLinkEntries; (try dsimp only); (repeat' split) <;> simp
@[simp] theorem dropLinkEntries_fans (s : State) (l : Link) : (dropLinkEntries s l).fans = s.fans := by unfold dropLinkEntries; (try dsimp only); (repeat' split) <;> simp
@[simp] theorem dropLinkEntries_frost (s : State) (l : Link) : (dropLinkEntries s l).frost = s.frost := by unfold dropLinkEntries; (try dsimp only); (repeat' split) <;> simp
@[simp] theorem dropLinkEntries_bus (s : State) (l : Link) : (dropLinkEntries s l).bus = s.bus := by unfold dropLinkEntries; (try dsimp only); (repeat' split) <;> simp
@[simp] theorem dropLinkEntries_humidity (s : State) (l : Link) : (dropLinkEntries s l).humidity = s.humidity := by unfold dropLinkEntries; (try dsimp only); (repeat' split) <;> simp
@[simp] theorem dropLinkEntries_filters (s : State) (l : Link) : (dropLinkEntries s l).filters = s.filters := by unfold dropLinkEntries; (try dsimp only); (repeat' split) <;> simp
@[simp] theorem dropLinkEntries_runner (s : State) (l : Link) : (dropLinkEntries s l).runner = s.runner := by unfold dropLinkEntries; (try dsimp only); (repeat' split) <;> simp
@[simp] theorem dropLinkEntries_links (s : State) (l : Link) : (dropLinkEntries s l).links = s.links := by unfold dropLinkEntries; (try dsimp only); (repeat' split) <;> simp
@[simp] theorem dropLinkEntries_time (s : State) (l : Link) : (dropLinkEntries s l).time = s.time := by unfold dropLinkEntries; (try dsimp only); (repeat' split) <;> simp
@[simp] theorem dropLinkEntries_log (s : State) (l : Link) : (dropLinkEntries s l).log = s.log := by unfold dropLinkEntries; (try dsimp only); (repeat' split) <;> simp
@[simp] theorem dropLinkEntries_freeCount (s : State) (l : Link) : (dropLinkEntries s l).freeCount = s.freeCount := by unfold dropLinkEntries; (try dsimp only); (repeat' split) <;> simp

@[simp] theorem zoneAct_pending (s : State) (n : Zone) (a : ZoneAction) : (zoneAct s n a).pending = s.pending := by unfold zoneAct; (try dsimp only); (repeat' split) <;> simp
@[simp] theorem zoneAct_store (s : State) (n : Zone) (a : ZoneAction) : (zoneAct s n a).store = s.store := by unfold zoneAct; (try dsimp only); (repeat' split) <;> simp
@[simp] theorem zoneAct_fans (s : State) (n : Zone) (a : ZoneAction) : (zoneAct s n a).fans = s.fans := by unfold zoneAct; (try dsimp only); (repeat' split) <;> simp
@[simp] theorem zoneAct_frost (s : State) (n : Zone) (a : ZoneAction) : (zoneAct s n a).frost = s.frost := by unfold zoneAct; (try dsimp only); (repeat' split) <;> simp
@[simp] theorem zoneAct_bus (s : State) (n : Zone) (a : ZoneAction) : (zoneAct s n a).bus = s.bus := by unfold zoneAct; (try dsimp only); (repeat' split) <;> simp
@[simp] theorem zoneAct_humidity (s : State) (n : Zone) (a : ZoneAction) : (zoneAct s n a).humidity = s.humidity := by unfold zoneAct; (try dsimp only); (repeat' split) <;> simp
@[simp] theorem zoneAct_filters (s : State) (n : Zone) (a : ZoneAction) : (zoneAct s n a).filters = s.filters := by unfold zoneAct; (try dsimp only); (repeat' split) <;> simp
@[simp] theorem zoneAct_runner (s : State) (n : Zone) (a : ZoneAction) : (zoneAct s n a).runner = s.runner := by unfold zoneAct; (try dsimp only); (repeat' split) <;> simp
@[simp] theorem zoneAct_links (s : State) (n : Zone) (a : ZoneAction) : (zoneAct s n a).links = s.links := by unfold zoneAct; (try dsimp only); (repeat' split) <;> simp
@[simp] theorem zoneAct_time (s : State) (n : Zone) (a : ZoneAction) : (zoneAct s n a).time = s.time := by unfold zoneAct; (try dsimp only); (repeat' split) <;> simp
@[simp] theorem zoneAct_log (s : State) (n : Zone) (a : ZoneAction) : (zoneAct s n a).log = s.log := by unfold zoneAct; (try dsimp only); (repeat' split) <;> simp
@[simp] theorem zoneAct_freeCount (s : State) (n : Zone) (a : ZoneAction) : (zoneAct s n a).freeCount = s.freeCount := by unfold zoneAct; (try dsimp only); (repeat' split) <;> simp

@[simp] theorem reportSensor_pending (s : State) (n : Sensor) (r : Bool) : (reportSensor s n r).pending = s.pending := by unfold reportSensor; (try dsimp only); (repeat' split) <;> simp
@[simp] theorem reportSensor_store (s : State) (n : Sensor) (r : Bool) : (reportSensor s n r).store = s.store := by unfold reportSensor; (try dsimp only); (repeat' split) <;> simp
@[simp] theorem reportSensor_table (s : State) (n : Sensor) (r : Bool) : (reportSensor s n r).table = s.table := by unfold reportSensor; (try dsimp only); (repeat' split) <;> simp
@[simp] theorem reportSensor_op (s : State) (n : Sensor) (r : Bool) : (reportSensor s n r).op = s.op := by unfold reportSensor; (try dsimp only); (repeat' split) <;> simp
@[simp] theorem reportSensor_damper (s : State) (n : Sensor) (r : Bool) : (reportSensor s n r).damper = s.damper := by unfold reportSensor; (try dsimp only); (repeat' split) <;> simp
@[simp] theorem reportSensor_fans (s : State) (n : Sensor) (r : Bool) : (reportSensor s n r).fans = s.fans := by unfold reportSensor; (try dsimp only); (repeat' split) <;> simp
@[simp] theorem reportSensor_frost (s : State) (n : Sensor) (r : Bool) : (reportSensor s n r).frost = s.frost := by unfold reportSensor; (try dsimp only); (repeat' split) <;> simp
@[simp] theorem reportSensor_bus (s : State) (n : Sensor) (r : Bool) : (reportSensor s n r).bus = s.bus := by unfold reportSensor; (try dsimp only); (repeat' split) <;> simp
@[simp] theorem reportSensor_humidity (s : State) (n : Sensor) (r : Bool) : (reportSensor s n r).humidity = s.humidity := by unfold reportSensor; (try dsimp only); (repeat' split) <;> simp
@[simp] theorem reportSensor_filters (s : State) (n : Sensor) (r : Bool) : (reportSensor s n r).filters = s.filters := by unfold reportSensor; (try dsimp only); (repeat' split) <;> simp
@[simp] theorem reportSensor_runner (s : State) (n : Sensor) (r : Bool) : (reportSensor s n r).runner = s.runner := by unfold reportSensor; (try dsimp only); (repeat' split) <;> simp
@[simp] theorem reportSensor_time (s : State) (n : Sensor) (r : Bool) : (reportSensor s n r).time = s.time := by unfold reportSensor; (try dsimp only); (repeat' split) <;> simp
@[simp] theorem reportSensor_freeCount (s : State) (n : Sensor) (r : Bool) : (reportSensor s n r).freeCount = s.freeCount := by unfold reportSensor; (try dsimp only); (repeat' split) <;> simp

/-- The ZONE records of one event, written one after the other, touch the log and the links alone. -/
theorem zoneRecords_eq (n : Zone) (ah : Option Nat) (rs : List (ZoneState × ZoneCause)) :
    ∀ s : State, ∃ g k, rs.foldl (fun s r => writeLog s (.zone n r.1 ah r.2)) s = { s with log := g, links := k } := by
  induction rs with
  | nil => intro s; exact ⟨s.log, s.links, rfl⟩
  | cons r rs ih =>
    intro s
    obtain ⟨g, k, h⟩ := ih (writeLog s (.zone n r.1 ah r.2))
    exact ⟨g, k, h⟩

/-- Reporting a zone's changes touches the log and the links alone. -/
theorem reportZone_eq (s : State) (n : Zone) (ah : Option Nat) (rs : List (ZoneState × ZoneCause)) :
    ∃ g k, reportZone s n ah rs = { s with log := g, links := k } := by
  unfold reportZone
  split
  · exact ⟨s.log, s.links, rfl⟩
  · obtain ⟨g, k, h⟩ := zoneRecords_eq n ah rs (raise s .zoneState)
    exact ⟨g, k, h⟩
@[simp] theorem reportZone_pending (s : State) (n : Zone) (ah : Option Nat) (rs : List (ZoneState × ZoneCause)) : (reportZone s n ah rs).pending = s.pending := by
  obtain ⟨g, k, h⟩ := reportZone_eq s n ah rs; rw [h]
@[simp] theorem reportZone_store (s : State) (n : Zone) (ah : Option Nat) (rs : List (ZoneState × ZoneCause)) : (reportZone s n ah rs).store = s.store := by
  obtain ⟨g, k, h⟩ := reportZone_eq s n ah rs; rw [h]
@[simp] theorem reportZone_table (s : State) (n : Zone) (ah : Option Nat) (rs : List (ZoneState × ZoneCause)) : (reportZone s n ah rs).table = s.table := by
  obtain ⟨g, k, h⟩ := reportZone_eq s n ah rs; rw [h]
@[simp] theorem reportZone_op (s : State) (n : Zone) (ah : Option Nat) (rs : List (ZoneState × ZoneCause)) : (reportZone s n ah rs).op = s.op := by
  obtain ⟨g, k, h⟩ := reportZone_eq s n ah rs; rw [h]
@[simp] theorem reportZone_damper (s : State) (n : Zone) (ah : Option Nat) (rs : List (ZoneState × ZoneCause)) : (reportZone s n ah rs).damper = s.damper := by
  obtain ⟨g, k, h⟩ := reportZone_eq s n ah rs; rw [h]
@[simp] theorem reportZone_fans (s : State) (n : Zone) (ah : Option Nat) (rs : List (ZoneState × ZoneCause)) : (reportZone s n ah rs).fans = s.fans := by
  obtain ⟨g, k, h⟩ := reportZone_eq s n ah rs; rw [h]
@[simp] theorem reportZone_frost (s : State) (n : Zone) (ah : Option Nat) (rs : List (ZoneState × ZoneCause)) : (reportZone s n ah rs).frost = s.frost := by
  obtain ⟨g, k, h⟩ := reportZone_eq s n ah rs; rw [h]
@[simp] theorem reportZone_bus (s : State) (n : Zone) (ah : Option Nat) (rs : List (ZoneState × ZoneCause)) : (reportZone s n ah rs).bus = s.bus := by
  obtain ⟨g, k, h⟩ := reportZone_eq s n ah rs; rw [h]
@[simp] theorem reportZone_humidity (s : State) (n : Zone) (ah : Option Nat) (rs : List (ZoneState × ZoneCause)) : (reportZone s n ah rs).humidity = s.humidity := by
  obtain ⟨g, k, h⟩ := reportZone_eq s n ah rs; rw [h]
@[simp] theorem reportZone_filters (s : State) (n : Zone) (ah : Option Nat) (rs : List (ZoneState × ZoneCause)) : (reportZone s n ah rs).filters = s.filters := by
  obtain ⟨g, k, h⟩ := reportZone_eq s n ah rs; rw [h]
@[simp] theorem reportZone_runner (s : State) (n : Zone) (ah : Option Nat) (rs : List (ZoneState × ZoneCause)) : (reportZone s n ah rs).runner = s.runner := by
  obtain ⟨g, k, h⟩ := reportZone_eq s n ah rs; rw [h]
@[simp] theorem reportZone_time (s : State) (n : Zone) (ah : Option Nat) (rs : List (ZoneState × ZoneCause)) : (reportZone s n ah rs).time = s.time := by
  obtain ⟨g, k, h⟩ := reportZone_eq s n ah rs; rw [h]
@[simp] theorem reportZone_freeCount (s : State) (n : Zone) (ah : Option Nat) (rs : List (ZoneState × ZoneCause)) : (reportZone s n ah rs).freeCount = s.freeCount := by
  obtain ⟨g, k, h⟩ := reportZone_eq s n ah rs; rw [h]

@[simp] theorem applyZoneMove_pending (s : State) (n : Zone) (m : ZoneMove) : (applyZoneMove s n m).pending = s.pending := by unfold applyZoneMove; (try dsimp only); (repeat' split) <;> simp
@[simp] theorem applyZoneMove_store (s : State) (n : Zone) (m : ZoneMove) : (applyZoneMove s n m).store = s.store := by unfold applyZoneMove; (try dsimp only); (repeat' split) <;> simp
@[simp] theorem applyZoneMove_fans (s : State) (n : Zone) (m : ZoneMove) : (applyZoneMove s n m).fans = s.fans := by unfold applyZoneMove; (try dsimp only); (repeat' split) <;> simp
@[simp] theorem applyZoneMove_frost (s : State) (n : Zone) (m : ZoneMove) : (applyZoneMove s n m).frost = s.frost := by unfold applyZoneMove; (try dsimp only); (repeat' split) <;> simp
@[simp] theorem applyZoneMove_bus (s : State) (n : Zone) (m : ZoneMove) : (applyZoneMove s n m).bus = s.bus := by unfold applyZoneMove; (try dsimp only); (repeat' split) <;> simp
@[simp] theorem applyZoneMove_filters (s : State) (n : Zone) (m : ZoneMove) : (applyZoneMove s n m).filters = s.filters := by unfold applyZoneMove; (try dsimp only); (repeat' split) <;> simp
@[simp] theorem applyZoneMove_runner (s : State) (n : Zone) (m : ZoneMove) : (applyZoneMove s n m).runner = s.runner := by unfold applyZoneMove; (try dsimp only); (repeat' split) <;> simp
@[simp] theorem applyZoneMove_time (s : State) (n : Zone) (m : ZoneMove) : (applyZoneMove s n m).time = s.time := by unfold applyZoneMove; (try dsimp only); (repeat' split) <;> simp
@[simp] theorem applyZoneMove_freeCount (s : State) (n : Zone) (m : ZoneMove) : (applyZoneMove s n m).freeCount = s.freeCount := by unfold applyZoneMove; (try dsimp only); (repeat' split) <;> simp

@[simp] theorem placeDry_pending (s : State) : (placeDry s).pending = s.pending := by unfold placeDry; (try dsimp only); (repeat' split) <;> simp
@[simp] theorem placeDry_store (s : State) : (placeDry s).store = s.store := by unfold placeDry; (try dsimp only); (repeat' split) <;> simp
@[simp] theorem placeDry_fans (s : State) : (placeDry s).fans = s.fans := by unfold placeDry; (try dsimp only); (repeat' split) <;> simp
@[simp] theorem placeDry_frost (s : State) : (placeDry s).frost = s.frost := by unfold placeDry; (try dsimp only); (repeat' split) <;> simp
@[simp] theorem placeDry_bus (s : State) : (placeDry s).bus = s.bus := by unfold placeDry; (try dsimp only); (repeat' split) <;> simp
@[simp] theorem placeDry_filters (s : State) : (placeDry s).filters = s.filters := by unfold placeDry; (try dsimp only); (repeat' split) <;> simp
@[simp] theorem placeDry_runner (s : State) : (placeDry s).runner = s.runner := by unfold placeDry; (try dsimp only); (repeat' split) <;> simp
@[simp] theorem placeDry_links (s : State) : (placeDry s).links = s.links := by unfold placeDry; (try dsimp only); (repeat' split) <;> simp
@[simp] theorem placeDry_time (s : State) : (placeDry s).time = s.time := by unfold placeDry; (try dsimp only); (repeat' split) <;> simp
@[simp] theorem placeDry_log (s : State) : (placeDry s).log = s.log := by unfold placeDry; (try dsimp only); (repeat' split) <;> simp
@[simp] theorem placeDry_freeCount (s : State) : (placeDry s).freeCount = s.freeCount := by unfold placeDry; (try dsimp only); (repeat' split) <;> simp

@[simp] theorem dryDecision_pending (s : State) : (dryDecision s).pending = s.pending := by unfold dryDecision; (try dsimp only); (repeat' split) <;> simp
@[simp] theorem dryDecision_store (s : State) : (dryDecision s).store = s.store := by unfold dryDecision; (try dsimp only); (repeat' split) <;> simp
@[simp] theorem dryDecision_fans (s : State) : (dryDecision s).fans = s.fans := by unfold dryDecision; (try dsimp only); (repeat' split) <;> simp
@[simp] theorem dryDecision_frost (s : State) : (dryDecision s).frost = s.frost := by unfold dryDecision; (try dsimp only); (repeat' split) <;> simp
@[simp] theorem dryDecision_bus (s : State) : (dryDecision s).bus = s.bus := by unfold dryDecision; (try dsimp only); (repeat' split) <;> simp
@[simp] theorem dryDecision_filters (s : State) : (dryDecision s).filters = s.filters := by unfold dryDecision; (try dsimp only); (repeat' split) <;> simp
@[simp] theorem dryDecision_runner (s : State) : (dryDecision s).runner = s.runner := by unfold dryDecision; (try dsimp only); (repeat' split) <;> simp
@[simp] theorem dryDecision_links (s : State) : (dryDecision s).links = s.links := by unfold dryDecision; (try dsimp only); (repeat' split) <;> simp
@[simp] theorem dryDecision_time (s : State) : (dryDecision s).time = s.time := by unfold dryDecision; (try dsimp only); (repeat' split) <;> simp
@[simp] theorem dryDecision_log (s : State) : (dryDecision s).log = s.log := by unfold dryDecision; (try dsimp only); (repeat' split) <;> simp
@[simp] theorem dryDecision_freeCount (s : State) : (dryDecision s).freeCount = s.freeCount := by unfold dryDecision; (try dsimp only); (repeat' split) <;> simp

@[simp] theorem extractOutcome_pending (s : State) (g : Option Sample) : (extractOutcome s g).pending = s.pending := by unfold extractOutcome; (try dsimp only); (repeat' split) <;> simp
@[simp] theorem extractOutcome_store (s : State) (g : Option Sample) : (extractOutcome s g).store = s.store := by unfold extractOutcome; (try dsimp only); (repeat' split) <;> simp
@[simp] theorem extractOutcome_fans (s : State) (g : Option Sample) : (extractOutcome s g).fans = s.fans := by unfold extractOutcome; (try dsimp only); (repeat' split) <;> simp
@[simp] theorem extractOutcome_frost (s : State) (g : Option Sample) : (extractOutcome s g).frost = s.frost := by unfold extractOutcome; (try dsimp only); (repeat' split) <;> simp
@[simp] theorem extractOutcome_bus (s : State) (g : Option Sample) : (extractOutcome s g).bus = s.bus := by unfold extractOutcome; (try dsimp only); (repeat' split) <;> simp
@[simp] theorem extractOutcome_filters (s : State) (g : Option Sample) : (extractOutcome s g).filters = s.filters := by unfold extractOutcome; (try dsimp only); (repeat' split) <;> simp
@[simp] theorem extractOutcome_runner (s : State) (g : Option Sample) : (extractOutcome s g).runner = s.runner := by unfold extractOutcome; (try dsimp only); (repeat' split) <;> simp
@[simp] theorem extractOutcome_time (s : State) (g : Option Sample) : (extractOutcome s g).time = s.time := by unfold extractOutcome; (try dsimp only); (repeat' split) <;> simp
@[simp] theorem extractOutcome_freeCount (s : State) (g : Option Sample) : (extractOutcome s g).freeCount = s.freeCount := by unfold extractOutcome; (try dsimp only); (repeat' split) <;> simp

@[simp] theorem scannerOutcome_pending (s : State) (n : Sensor) (o : BusOutcome) : (scannerOutcome s n o).pending = s.pending := by unfold scannerOutcome; (try dsimp only); (repeat' split) <;> simp
@[simp] theorem scannerOutcome_store (s : State) (n : Sensor) (o : BusOutcome) : (scannerOutcome s n o).store = s.store := by unfold scannerOutcome; (try dsimp only); (repeat' split) <;> simp
@[simp] theorem scannerOutcome_fans (s : State) (n : Sensor) (o : BusOutcome) : (scannerOutcome s n o).fans = s.fans := by unfold scannerOutcome; (try dsimp only); (repeat' split) <;> simp
@[simp] theorem scannerOutcome_frost (s : State) (n : Sensor) (o : BusOutcome) : (scannerOutcome s n o).frost = s.frost := by unfold scannerOutcome; (try dsimp only); (repeat' split) <;> simp
@[simp] theorem scannerOutcome_bus (s : State) (n : Sensor) (o : BusOutcome) : (scannerOutcome s n o).bus = s.bus := by unfold scannerOutcome; (try dsimp only); (repeat' split) <;> simp
@[simp] theorem scannerOutcome_filters (s : State) (n : Sensor) (o : BusOutcome) : (scannerOutcome s n o).filters = s.filters := by unfold scannerOutcome; (try dsimp only); (repeat' split) <;> simp
@[simp] theorem scannerOutcome_runner (s : State) (n : Sensor) (o : BusOutcome) : (scannerOutcome s n o).runner = s.runner := by unfold scannerOutcome; (try dsimp only); (repeat' split) <;> simp
@[simp] theorem scannerOutcome_time (s : State) (n : Sensor) (o : BusOutcome) : (scannerOutcome s n o).time = s.time := by unfold scannerOutcome; (try dsimp only); (repeat' split) <;> simp
@[simp] theorem scannerOutcome_freeCount (s : State) (n : Sensor) (o : BusOutcome) : (scannerOutcome s n o).freeCount = s.freeCount := by unfold scannerOutcome; (try dsimp only); (repeat' split) <;> simp

@[simp] theorem zoneMinute_pending (s : State) (n : Zone) : (zoneMinute s n).pending = s.pending := by unfold zoneMinute; (try dsimp only); (repeat' split) <;> simp
@[simp] theorem zoneMinute_store (s : State) (n : Zone) : (zoneMinute s n).store = s.store := by unfold zoneMinute; (try dsimp only); (repeat' split) <;> simp
@[simp] theorem zoneMinute_fans (s : State) (n : Zone) : (zoneMinute s n).fans = s.fans := by unfold zoneMinute; (try dsimp only); (repeat' split) <;> simp
@[simp] theorem zoneMinute_frost (s : State) (n : Zone) : (zoneMinute s n).frost = s.frost := by unfold zoneMinute; (try dsimp only); (repeat' split) <;> simp
@[simp] theorem zoneMinute_bus (s : State) (n : Zone) : (zoneMinute s n).bus = s.bus := by unfold zoneMinute; (try dsimp only); (repeat' split) <;> simp
@[simp] theorem zoneMinute_filters (s : State) (n : Zone) : (zoneMinute s n).filters = s.filters := by unfold zoneMinute; (try dsimp only); (repeat' split) <;> simp
@[simp] theorem zoneMinute_runner (s : State) (n : Zone) : (zoneMinute s n).runner = s.runner := by unfold zoneMinute; (try dsimp only); (repeat' split) <;> simp
@[simp] theorem zoneMinute_time (s : State) (n : Zone) : (zoneMinute s n).time = s.time := by unfold zoneMinute; (try dsimp only); (repeat' split) <;> simp
@[simp] theorem zoneMinute_freeCount (s : State) (n : Zone) : (zoneMinute s n).freeCount = s.freeCount := by unfold zoneMinute; (try dsimp only); (repeat' split) <;> simp

@[simp] theorem boostMinute_pending (s : State) : (boostMinute s).pending = s.pending := by unfold boostMinute; (try dsimp only); (repeat' split) <;> simp
@[simp] theorem boostMinute_store (s : State) : (boostMinute s).store = s.store := by unfold boostMinute; (try dsimp only); (repeat' split) <;> simp
@[simp] theorem boostMinute_fans (s : State) : (boostMinute s).fans = s.fans := by unfold boostMinute; (try dsimp only); (repeat' split) <;> simp
@[simp] theorem boostMinute_frost (s : State) : (boostMinute s).frost = s.frost := by unfold boostMinute; (try dsimp only); (repeat' split) <;> simp
@[simp] theorem boostMinute_bus (s : State) : (boostMinute s).bus = s.bus := by unfold boostMinute; (try dsimp only); (repeat' split) <;> simp
@[simp] theorem boostMinute_filters (s : State) : (boostMinute s).filters = s.filters := by unfold boostMinute; (try dsimp only); (repeat' split) <;> simp
@[simp] theorem boostMinute_runner (s : State) : (boostMinute s).runner = s.runner := by unfold boostMinute; (try dsimp only); (repeat' split) <;> simp
@[simp] theorem boostMinute_time (s : State) : (boostMinute s).time = s.time := by unfold boostMinute; (try dsimp only); (repeat' split) <;> simp
@[simp] theorem boostMinute_freeCount (s : State) : (boostMinute s).freeCount = s.freeCount := by unfold boostMinute; (try dsimp only); (repeat' split) <;> simp

@[simp] theorem scanRound_pending (s : State) : (scanRound s).pending = s.pending := by unfold scanRound; (try dsimp only); (repeat' split) <;> simp
@[simp] theorem scanRound_store (s : State) : (scanRound s).store = s.store := by unfold scanRound; (try dsimp only); (repeat' split) <;> simp
@[simp] theorem scanRound_table (s : State) : (scanRound s).table = s.table := by unfold scanRound; (try dsimp only); (repeat' split) <;> simp
@[simp] theorem scanRound_op (s : State) : (scanRound s).op = s.op := by unfold scanRound; (try dsimp only); (repeat' split) <;> simp
@[simp] theorem scanRound_damper (s : State) : (scanRound s).damper = s.damper := by unfold scanRound; (try dsimp only); (repeat' split) <;> simp
@[simp] theorem scanRound_fans (s : State) : (scanRound s).fans = s.fans := by unfold scanRound; (try dsimp only); (repeat' split) <;> simp
@[simp] theorem scanRound_frost (s : State) : (scanRound s).frost = s.frost := by unfold scanRound; (try dsimp only); (repeat' split) <;> simp
@[simp] theorem scanRound_humidity (s : State) : (scanRound s).humidity = s.humidity := by unfold scanRound; (try dsimp only); (repeat' split) <;> simp
@[simp] theorem scanRound_filters (s : State) : (scanRound s).filters = s.filters := by unfold scanRound; (try dsimp only); (repeat' split) <;> simp
@[simp] theorem scanRound_runner (s : State) : (scanRound s).runner = s.runner := by unfold scanRound; (try dsimp only); (repeat' split) <;> simp
@[simp] theorem scanRound_links (s : State) : (scanRound s).links = s.links := by unfold scanRound; (try dsimp only); (repeat' split) <;> simp
@[simp] theorem scanRound_time (s : State) : (scanRound s).time = s.time := by unfold scanRound; (try dsimp only); (repeat' split) <;> simp
@[simp] theorem scanRound_log (s : State) : (scanRound s).log = s.log := by unfold scanRound; (try dsimp only); (repeat' split) <;> simp
@[simp] theorem scanRound_freeCount (s : State) : (scanRound s).freeCount = s.freeCount := by unfold scanRound; (try dsimp only); (repeat' split) <;> simp

@[simp] theorem endPass_pending (s : State) (l : Link) (o : BusOutcome) : (endPass s l o).pending = s.pending := by unfold endPass; (try dsimp only); (repeat' split) <;> simp
@[simp] theorem endPass_store (s : State) (l : Link) (o : BusOutcome) : (endPass s l o).store = s.store := by unfold endPass; (try dsimp only); (repeat' split) <;> simp
@[simp] theorem endPass_table (s : State) (l : Link) (o : BusOutcome) : (endPass s l o).table = s.table := by unfold endPass; (try dsimp only); (repeat' split) <;> simp
@[simp] theorem endPass_op (s : State) (l : Link) (o : BusOutcome) : (endPass s l o).op = s.op := by unfold endPass; (try dsimp only); (repeat' split) <;> simp
@[simp] theorem endPass_damper (s : State) (l : Link) (o : BusOutcome) : (endPass s l o).damper = s.damper := by unfold endPass; (try dsimp only); (repeat' split) <;> simp
@[simp] theorem endPass_fans (s : State) (l : Link) (o : BusOutcome) : (endPass s l o).fans = s.fans := by unfold endPass; (try dsimp only); (repeat' split) <;> simp
@[simp] theorem endPass_frost (s : State) (l : Link) (o : BusOutcome) : (endPass s l o).frost = s.frost := by unfold endPass; (try dsimp only); (repeat' split) <;> simp
@[simp] theorem endPass_humidity (s : State) (l : Link) (o : BusOutcome) : (endPass s l o).humidity = s.humidity := by unfold endPass; (try dsimp only); (repeat' split) <;> simp
@[simp] theorem endPass_filters (s : State) (l : Link) (o : BusOutcome) : (endPass s l o).filters = s.filters := by unfold endPass; (try dsimp only); (repeat' split) <;> simp
@[simp] theorem endPass_runner (s : State) (l : Link) (o : BusOutcome) : (endPass s l o).runner = s.runner := by unfold endPass; (try dsimp only); (repeat' split) <;> simp
@[simp] theorem endPass_time (s : State) (l : Link) (o : BusOutcome) : (endPass s l o).time = s.time := by unfold endPass; (try dsimp only); (repeat' split) <;> simp
@[simp] theorem endPass_log (s : State) (l : Link) (o : BusOutcome) : (endPass s l o).log = s.log := by unfold endPass; (try dsimp only); (repeat' split) <;> simp
@[simp] theorem endPass_freeCount (s : State) (l : Link) (o : BusOutcome) : (endPass s l o).freeCount = s.freeCount := by unfold endPass; (try dsimp only); (repeat' split) <;> simp

@[simp] theorem endTransaction_pending (s : State) (o : BusOutcome) : (endTransaction s o).pending = s.pending := by unfold endTransaction; (try dsimp only); (repeat' split) <;> simp
@[simp] theorem endTransaction_store (s : State) (o : BusOutcome) : (endTransaction s o).store = s.store := by unfold endTransaction; (try dsimp only); (repeat' split) <;> simp
@[simp] theorem endTransaction_fans (s : State) (o : BusOutcome) : (endTransaction s o).fans = s.fans := by unfold endTransaction; (try dsimp only); (repeat' split) <;> simp
@[simp] theorem endTransaction_frost (s : State) (o : BusOutcome) : (endTransaction s o).frost = s.frost := by unfold endTransaction; (try dsimp only); (repeat' split) <;> simp
@[simp] theorem endTransaction_filters (s : State) (o : BusOutcome) : (endTransaction s o).filters = s.filters := by unfold endTransaction; (try dsimp only); (repeat' split) <;> simp
@[simp] theorem endTransaction_runner (s : State) (o : BusOutcome) : (endTransaction s o).runner = s.runner := by unfold endTransaction; (try dsimp only); (repeat' split) <;> simp
@[simp] theorem endTransaction_time (s : State) (o : BusOutcome) : (endTransaction s o).time = s.time := by unfold endTransaction; (try dsimp only); (repeat' split) <;> simp
@[simp] theorem endTransaction_freeCount (s : State) (o : BusOutcome) : (endTransaction s o).freeCount = s.freeCount := by unfold endTransaction; (try dsimp only); (repeat' split) <;> simp

@[simp] theorem takeReplyByte_pending (s : State) (x : Transaction) (b : Byte) : (takeReplyByte s x b).pending = s.pending := by unfold takeReplyByte; (try dsimp only); (repeat' split) <;> simp
@[simp] theorem takeReplyByte_store (s : State) (x : Transaction) (b : Byte) : (takeReplyByte s x b).store = s.store := by unfold takeReplyByte; (try dsimp only); (repeat' split) <;> simp
@[simp] theorem takeReplyByte_fans (s : State) (x : Transaction) (b : Byte) : (takeReplyByte s x b).fans = s.fans := by unfold takeReplyByte; (try dsimp only); (repeat' split) <;> simp
@[simp] theorem takeReplyByte_frost (s : State) (x : Transaction) (b : Byte) : (takeReplyByte s x b).frost = s.frost := by unfold takeReplyByte; (try dsimp only); (repeat' split) <;> simp
@[simp] theorem takeReplyByte_filters (s : State) (x : Transaction) (b : Byte) : (takeReplyByte s x b).filters = s.filters := by unfold takeReplyByte; (try dsimp only); (repeat' split) <;> simp
@[simp] theorem takeReplyByte_runner (s : State) (x : Transaction) (b : Byte) : (takeReplyByte s x b).runner = s.runner := by unfold takeReplyByte; (try dsimp only); (repeat' split) <;> simp
@[simp] theorem takeReplyByte_time (s : State) (x : Transaction) (b : Byte) : (takeReplyByte s x b).time = s.time := by unfold takeReplyByte; (try dsimp only); (repeat' split) <;> simp
@[simp] theorem takeReplyByte_freeCount (s : State) (x : Transaction) (b : Byte) : (takeReplyByte s x b).freeCount = s.freeCount := by unfold takeReplyByte; (try dsimp only); (repeat' split) <;> simp

@[simp] theorem handFilterState_pending (s : State) (f : Side) (x : FilterRecord) : (handFilterState s f x).pending = s.pending := by unfold handFilterState; (try dsimp only); (repeat' split) <;> simp
@[simp] theorem handFilterState_store (s : State) (f : Side) (x : FilterRecord) : (handFilterState s f x).store = s.store := by unfold handFilterState; (try dsimp only); (repeat' split) <;> simp
@[simp] theorem handFilterState_table (s : State) (f : Side) (x : FilterRecord) : (handFilterState s f x).table = s.table := by unfold handFilterState; (try dsimp only); (repeat' split) <;> simp
@[simp] theorem handFilterState_fans (s : State) (f : Side) (x : FilterRecord) : (handFilterState s f x).fans = s.fans := by unfold handFilterState; (try dsimp only); (repeat' split) <;> simp
@[simp] theorem handFilterState_frost (s : State) (f : Side) (x : FilterRecord) : (handFilterState s f x).frost = s.frost := by unfold handFilterState; (try dsimp only); (repeat' split) <;> simp
@[simp] theorem handFilterState_bus (s : State) (f : Side) (x : FilterRecord) : (handFilterState s f x).bus = s.bus := by unfold handFilterState; (try dsimp only); (repeat' split) <;> simp
@[simp] theorem handFilterState_humidity (s : State) (f : Side) (x : FilterRecord) : (handFilterState s f x).humidity = s.humidity := by unfold handFilterState; (try dsimp only); (repeat' split) <;> simp
@[simp] theorem handFilterState_runner (s : State) (f : Side) (x : FilterRecord) : (handFilterState s f x).runner = s.runner := by unfold handFilterState; (try dsimp only); (repeat' split) <;> simp
@[simp] theorem handFilterState_time (s : State) (f : Side) (x : FilterRecord) : (handFilterState s f x).time = s.time := by unfold handFilterState; (try dsimp only); (repeat' split) <;> simp
@[simp] theorem handFilterState_freeCount (s : State) (f : Side) (x : FilterRecord) : (handFilterState s f x).freeCount = s.freeCount := by unfold handFilterState; (try dsimp only); (repeat' split) <;> simp

@[simp] theorem filterStepOne_pending (s : State) (f : Side) : (filterStepOne s f).pending = s.pending := by unfold filterStepOne; (try dsimp only); (repeat' split) <;> simp
@[simp] theorem filterStepOne_store (s : State) (f : Side) : (filterStepOne s f).store = s.store := by unfold filterStepOne; (try dsimp only); (repeat' split) <;> simp
@[simp] theorem filterStepOne_table (s : State) (f : Side) : (filterStepOne s f).table = s.table := by unfold filterStepOne; (try dsimp only); (repeat' split) <;> simp
@[simp] theorem filterStepOne_fans (s : State) (f : Side) : (filterStepOne s f).fans = s.fans := by unfold filterStepOne; (try dsimp only); (repeat' split) <;> simp
@[simp] theorem filterStepOne_frost (s : State) (f : Side) : (filterStepOne s f).frost = s.frost := by unfold filterStepOne; (try dsimp only); (repeat' split) <;> simp
@[simp] theorem filterStepOne_bus (s : State) (f : Side) : (filterStepOne s f).bus = s.bus := by unfold filterStepOne; (try dsimp only); (repeat' split) <;> simp
@[simp] theorem filterStepOne_humidity (s : State) (f : Side) : (filterStepOne s f).humidity = s.humidity := by unfold filterStepOne; (try dsimp only); (repeat' split) <;> simp
@[simp] theorem filterStepOne_runner (s : State) (f : Side) : (filterStepOne s f).runner = s.runner := by unfold filterStepOne; (try dsimp only); (repeat' split) <;> simp
@[simp] theorem filterStepOne_time (s : State) (f : Side) : (filterStepOne s f).time = s.time := by unfold filterStepOne; (try dsimp only); (repeat' split) <;> simp
@[simp] theorem filterStepOne_freeCount (s : State) (f : Side) : (filterStepOne s f).freeCount = s.freeCount := by unfold filterStepOne; (try dsimp only); (repeat' split) <;> simp

@[simp] theorem filterStep_pending (s : State) : (filterStep s).pending = s.pending := by unfold filterStep; (try dsimp only); (repeat' split) <;> simp
@[simp] theorem filterStep_store (s : State) : (filterStep s).store = s.store := by unfold filterStep; (try dsimp only); (repeat' split) <;> simp
@[simp] theorem filterStep_table (s : State) : (filterStep s).table = s.table := by unfold filterStep; (try dsimp only); (repeat' split) <;> simp
@[simp] theorem filterStep_fans (s : State) : (filterStep s).fans = s.fans := by unfold filterStep; (try dsimp only); (repeat' split) <;> simp
@[simp] theorem filterStep_frost (s : State) : (filterStep s).frost = s.frost := by unfold filterStep; (try dsimp only); (repeat' split) <;> simp
@[simp] theorem filterStep_bus (s : State) : (filterStep s).bus = s.bus := by unfold filterStep; (try dsimp only); (repeat' split) <;> simp
@[simp] theorem filterStep_humidity (s : State) : (filterStep s).humidity = s.humidity := by unfold filterStep; (try dsimp only); (repeat' split) <;> simp
@[simp] theorem filterStep_runner (s : State) : (filterStep s).runner = s.runner := by unfold filterStep; (try dsimp only); (repeat' split) <;> simp
@[simp] theorem filterStep_time (s : State) : (filterStep s).time = s.time := by unfold filterStep; (try dsimp only); (repeat' split) <;> simp
@[simp] theorem filterStep_freeCount (s : State) : (filterStep s).freeCount = s.freeCount := by unfold filterStep; (try dsimp only); (repeat' split) <;> simp

@[simp] theorem commitFilter_pending (s : State) (f : Side) (c : Nat) : (commitFilter s f c).pending = s.pending := by unfold commitFilter; (try dsimp only); (repeat' split) <;> simp
@[simp] theorem commitFilter_store (s : State) (f : Side) (c : Nat) : (commitFilter s f c).store = s.store := by unfold commitFilter; (try dsimp only); (repeat' split) <;> simp
@[simp] theorem commitFilter_table (s : State) (f : Side) (c : Nat) : (commitFilter s f c).table = s.table := by unfold commitFilter; (try dsimp only); (repeat' split) <;> simp
@[simp] theorem commitFilter_fans (s : State) (f : Side) (c : Nat) : (commitFilter s f c).fans = s.fans := by unfold commitFilter; (try dsimp only); (repeat' split) <;> simp
@[simp] theorem commitFilter_frost (s : State) (f : Side) (c : Nat) : (commitFilter s f c).frost = s.frost := by unfold commitFilter; (try dsimp only); (repeat' split) <;> simp
@[simp] theorem commitFilter_bus (s : State) (f : Side) (c : Nat) : (commitFilter s f c).bus = s.bus := by unfold commitFilter; (try dsimp only); (repeat' split) <;> simp
@[simp] theorem commitFilter_humidity (s : State) (f : Side) (c : Nat) : (commitFilter s f c).humidity = s.humidity := by unfold commitFilter; (try dsimp only); (repeat' split) <;> simp
@[simp] theorem commitFilter_runner (s : State) (f : Side) (c : Nat) : (commitFilter s f c).runner = s.runner := by unfold commitFilter; (try dsimp only); (repeat' split) <;> simp
@[simp] theorem commitFilter_time (s : State) (f : Side) (c : Nat) : (commitFilter s f c).time = s.time := by unfold commitFilter; (try dsimp only); (repeat' split) <;> simp
@[simp] theorem commitFilter_freeCount (s : State) (f : Side) (c : Nat) : (commitFilter s f c).freeCount = s.freeCount := by unfold commitFilter; (try dsimp only); (repeat' split) <;> simp

@[simp] theorem commitSide_pending (s : State) (sel : Selection) (f : Side) (t : PerSide (List Nat)) : (commitSide s sel f t).pending = s.pending := by unfold commitSide; (try dsimp only); (repeat' split) <;> simp
@[simp] theorem commitSide_store (s : State) (sel : Selection) (f : Side) (t : PerSide (List Nat)) : (commitSide s sel f t).store = s.store := by unfold commitSide; (try dsimp only); (repeat' split) <;> simp
@[simp] theorem commitSide_table (s : State) (sel : Selection) (f : Side) (t : PerSide (List Nat)) : (commitSide s sel f t).table = s.table := by unfold commitSide; (try dsimp only); (repeat' split) <;> simp
@[simp] theorem commitSide_fans (s : State) (sel : Selection) (f : Side) (t : PerSide (List Nat)) : (commitSide s sel f t).fans = s.fans := by unfold commitSide; (try dsimp only); (repeat' split) <;> simp
@[simp] theorem commitSide_frost (s : State) (sel : Selection) (f : Side) (t : PerSide (List Nat)) : (commitSide s sel f t).frost = s.frost := by unfold commitSide; (try dsimp only); (repeat' split) <;> simp
@[simp] theorem commitSide_bus (s : State) (sel : Selection) (f : Side) (t : PerSide (List Nat)) : (commitSide s sel f t).bus = s.bus := by unfold commitSide; (try dsimp only); (repeat' split) <;> simp
@[simp] theorem commitSide_humidity (s : State) (sel : Selection) (f : Side) (t : PerSide (List Nat)) : (commitSide s sel f t).humidity = s.humidity := by unfold commitSide; (try dsimp only); (repeat' split) <;> simp
@[simp] theorem commitSide_runner (s : State) (sel : Selection) (f : Side) (t : PerSide (List Nat)) : (commitSide s sel f t).runner = s.runner := by unfold commitSide; (try dsimp only); (repeat' split) <;> simp
@[simp] theorem commitSide_time (s : State) (sel : Selection) (f : Side) (t : PerSide (List Nat)) : (commitSide s sel f t).time = s.time := by unfold commitSide; (try dsimp only); (repeat' split) <;> simp
@[simp] theorem commitSide_freeCount (s : State) (sel : Selection) (f : Side) (t : PerSide (List Nat)) : (commitSide s sel f t).freeCount = s.freeCount := by unfold commitSide; (try dsimp only); (repeat' split) <;> simp

@[simp] theorem commit_pending (s : State) (sel : Selection) (t : PerSide (List Nat)) : (commit s sel t).pending = s.pending := by unfold commit; (try dsimp only); (repeat' split) <;> simp
@[simp] theorem commit_table (s : State) (sel : Selection) (t : PerSide (List Nat)) : (commit s sel t).table = s.table := by unfold commit; (try dsimp only); (repeat' split) <;> simp
@[simp] theorem commit_fans (s : State) (sel : Selection) (t : PerSide (List Nat)) : (commit s sel t).fans = s.fans := by unfold commit; (try dsimp only); (repeat' split) <;> simp
@[simp] theorem commit_frost (s : State) (sel : Selection) (t : PerSide (List Nat)) : (commit s sel t).frost = s.frost := by unfold commit; (try dsimp only); (repeat' split) <;> simp
@[simp] theorem commit_bus (s : State) (sel : Selection) (t : PerSide (List Nat)) : (commit s sel t).bus = s.bus := by unfold commit; (try dsimp only); (repeat' split) <;> simp
@[simp] theorem commit_humidity (s : State) (sel : Selection) (t : PerSide (List Nat)) : (commit s sel t).humidity = s.humidity := by unfold commit; (try dsimp only); (repeat' split) <;> simp
@[simp] theorem commit_time (s : State) (sel : Selection) (t : PerSide (List Nat)) : (commit s sel t).time = s.time := by unfold commit; (try dsimp only); (repeat' split) <;> simp
@[simp] theorem commit_freeCount (s : State) (sel : Selection) (t : PerSide (List Nat)) : (commit s sel t).freeCount = s.freeCount := by unfold commit; (try dsimp only); (repeat' split) <;> simp

@[simp] theorem takeFlowCheck_pending (s : State) (l : Link) (sel : Selection) : (takeFlowCheck s l sel).pending = s.pending := by unfold takeFlowCheck; (try dsimp only); (repeat' split) <;> simp
@[simp] theorem takeFlowCheck_store (s : State) (l : Link) (sel : Selection) : (takeFlowCheck s l sel).store = s.store := by unfold takeFlowCheck; (try dsimp only); (repeat' split) <;> simp
@[simp] theorem takeFlowCheck_table (s : State) (l : Link) (sel : Selection) : (takeFlowCheck s l sel).table = s.table := by unfold takeFlowCheck; (try dsimp only); (repeat' split) <;> simp
@[simp] theorem takeFlowCheck_fans (s : State) (l : Link) (sel : Selection) : (takeFlowCheck s l sel).fans = s.fans := by unfold takeFlowCheck; (try dsimp only); (repeat' split) <;> simp
@[simp] theorem takeFlowCheck_frost (s : State) (l : Link) (sel : Selection) : (takeFlowCheck s l sel).frost = s.frost := by unfold takeFlowCheck; (try dsimp only); (repeat' split) <;> simp
@[simp] theorem takeFlowCheck_bus (s : State) (l : Link) (sel : Selection) : (takeFlowCheck s l sel).bus = s.bus := by unfold takeFlowCheck; (try dsimp only); (repeat' split) <;> simp
@[simp] theorem takeFlowCheck_humidity (s : State) (l : Link) (sel : Selection) : (takeFlowCheck s l sel).humidity = s.humidity := by unfold takeFlowCheck; (try dsimp only); (repeat' split) <;> simp
@[simp] theorem takeFlowCheck_filters (s : State) (l : Link) (sel : Selection) : (takeFlowCheck s l sel).filters = s.filters := by unfold takeFlowCheck; (try dsimp only); (repeat' split) <;> simp
@[simp] theorem takeFlowCheck_time (s : State) (l : Link) (sel : Selection) : (takeFlowCheck s l sel).time = s.time := by unfold takeFlowCheck; (try dsimp only); (repeat' split) <;> simp
@[simp] theorem takeFlowCheck_freeCount (s : State) (l : Link) (sel : Selection) : (takeFlowCheck s l sel).freeCount = s.freeCount := by unfold takeFlowCheck; (try dsimp only); (repeat' split) <;> simp

@[simp] theorem takeSample_pending (s : State) (l : Link) (sel : Selection) (n : Nat) (t : PerSide (List Nat)) : (takeSample s l sel n t).pending = s.pending := by unfold takeSample; (try dsimp only); (repeat' split) <;> simp
@[simp] theorem takeSample_table (s : State) (l : Link) (sel : Selection) (n : Nat) (t : PerSide (List Nat)) : (takeSample s l sel n t).table = s.table := by unfold takeSample; (try dsimp only); (repeat' split) <;> simp
@[simp] theorem takeSample_fans (s : State) (l : Link) (sel : Selection) (n : Nat) (t : PerSide (List Nat)) : (takeSample s l sel n t).fans = s.fans := by unfold takeSample; (try dsimp only); (repeat' split) <;> simp
@[simp] theorem takeSample_frost (s : State) (l : Link) (sel : Selection) (n : Nat) (t : PerSide (List Nat)) : (takeSample s l sel n t).frost = s.frost := by unfold takeSample; (try dsimp only); (repeat' split) <;> simp
@[simp] theorem takeSample_bus (s : State) (l : Link) (sel : Selection) (n : Nat) (t : PerSide (List Nat)) : (takeSample s l sel n t).bus = s.bus := by unfold takeSample; (try dsimp only); (repeat' split) <;> simp
@[simp] theorem takeSample_humidity (s : State) (l : Link) (sel : Selection) (n : Nat) (t : PerSide (List Nat)) : (takeSample s l sel n t).humidity = s.humidity := by unfold takeSample; (try dsimp only); (repeat' split) <;> simp
@[simp] theorem takeSample_time (s : State) (l : Link) (sel : Selection) (n : Nat) (t : PerSide (List Nat)) : (takeSample s l sel n t).time = s.time := by unfold takeSample; (try dsimp only); (repeat' split) <;> simp
@[simp] theorem takeSample_freeCount (s : State) (l : Link) (sel : Selection) (n : Nat) (t : PerSide (List Nat)) : (takeSample s l sel n t).freeCount = s.freeCount := by unfold takeSample; (try dsimp only); (repeat' split) <;> simp

@[simp] theorem procedureSecond_pending (s : State) : (procedureSecond s).pending = s.pending := by unfold procedureSecond; (try dsimp only); (repeat' split) <;> simp
@[simp] theorem procedureSecond_table (s : State) : (procedureSecond s).table = s.table := by unfold procedureSecond; (try dsimp only); (repeat' split) <;> simp
@[simp] theorem procedureSecond_fans (s : State) : (procedureSecond s).fans = s.fans := by unfold procedureSecond; (try dsimp only); (repeat' split) <;> simp
@[simp] theorem procedureSecond_frost (s : State) : (procedureSecond s).frost = s.frost := by unfold procedureSecond; (try dsimp only); (repeat' split) <;> simp
@[simp] theorem procedureSecond_bus (s : State) : (procedureSecond s).bus = s.bus := by unfold procedureSecond; (try dsimp only); (repeat' split) <;> simp
@[simp] theorem procedureSecond_humidity (s : State) : (procedureSecond s).humidity = s.humidity := by unfold procedureSecond; (try dsimp only); (repeat' split) <;> simp
@[simp] theorem procedureSecond_time (s : State) : (procedureSecond s).time = s.time := by unfold procedureSecond; (try dsimp only); (repeat' split) <;> simp
@[simp] theorem procedureSecond_freeCount (s : State) : (procedureSecond s).freeCount = s.freeCount := by unfold procedureSecond; (try dsimp only); (repeat' split) <;> simp

@[simp] theorem filtersMinute_pending (s : State) : (filtersMinute s).pending = s.pending := by unfold filtersMinute; (try dsimp only); (repeat' split) <;> simp
@[simp] theorem filtersMinute_table (s : State) : (filtersMinute s).table = s.table := by unfold filtersMinute; (try dsimp only); (repeat' split) <;> simp
@[simp] theorem filtersMinute_op (s : State) : (filtersMinute s).op = s.op := by unfold filtersMinute; (try dsimp only); (repeat' split) <;> simp
@[simp] theorem filtersMinute_damper (s : State) : (filtersMinute s).damper = s.damper := by unfold filtersMinute; (try dsimp only); (repeat' split) <;> simp
@[simp] theorem filtersMinute_fans (s : State) : (filtersMinute s).fans = s.fans := by unfold filtersMinute; (try dsimp only); (repeat' split) <;> simp
@[simp] theorem filtersMinute_frost (s : State) : (filtersMinute s).frost = s.frost := by unfold filtersMinute; (try dsimp only); (repeat' split) <;> simp
@[simp] theorem filtersMinute_bus (s : State) : (filtersMinute s).bus = s.bus := by unfold filtersMinute; (try dsimp only); (repeat' split) <;> simp
@[simp] theorem filtersMinute_humidity (s : State) : (filtersMinute s).humidity = s.humidity := by unfold filtersMinute; (try dsimp only); (repeat' split) <;> simp
@[simp] theorem filtersMinute_runner (s : State) : (filtersMinute s).runner = s.runner := by unfold filtersMinute; (try dsimp only); (repeat' split) <;> simp
@[simp] theorem filtersMinute_links (s : State) : (filtersMinute s).links = s.links := by unfold filtersMinute; (try dsimp only); (repeat' split) <;> simp
@[simp] theorem filtersMinute_time (s : State) : (filtersMinute s).time = s.time := by unfold filtersMinute; (try dsimp only); (repeat' split) <;> simp
@[simp] theorem filtersMinute_log (s : State) : (filtersMinute s).log = s.log := by unfold filtersMinute; (try dsimp only); (repeat' split) <;> simp
@[simp] theorem filtersMinute_freeCount (s : State) : (filtersMinute s).freeCount = s.freeCount := by unfold filtersMinute; (try dsimp only); (repeat' split) <;> simp

@[simp] theorem logMinute_pending (s : State) : (logMinute s).pending = s.pending := by unfold logMinute; (try dsimp only); (repeat' split) <;> simp
@[simp] theorem logMinute_store (s : State) : (logMinute s).store = s.store := by unfold logMinute; (try dsimp only); (repeat' split) <;> simp
@[simp] theorem logMinute_table (s : State) : (logMinute s).table = s.table := by unfold logMinute; (try dsimp only); (repeat' split) <;> simp
@[simp] theorem logMinute_op (s : State) : (logMinute s).op = s.op := by unfold logMinute; (try dsimp only); (repeat' split) <;> simp
@[simp] theorem logMinute_damper (s : State) : (logMinute s).damper = s.damper := by unfold logMinute; (try dsimp only); (repeat' split) <;> simp
@[simp] theorem logMinute_fans (s : State) : (logMinute s).fans = s.fans := by unfold logMinute; (try dsimp only); (repeat' split) <;> simp
@[simp] theorem logMinute_frost (s : State) : (logMinute s).frost = s.frost := by unfold logMinute; (try dsimp only); (repeat' split) <;> simp
@[simp] theorem logMinute_bus (s : State) : (logMinute s).bus = s.bus := by unfold logMinute; (try dsimp only); (repeat' split) <;> simp
@[simp] theorem logMinute_humidity (s : State) : (logMinute s).humidity = s.humidity := by unfold logMinute; (try dsimp only); (repeat' split) <;> simp
@[simp] theorem logMinute_filters (s : State) : (logMinute s).filters = s.filters := by unfold logMinute; (try dsimp only); (repeat' split) <;> simp
@[simp] theorem logMinute_runner (s : State) : (logMinute s).runner = s.runner := by unfold logMinute; (try dsimp only); (repeat' split) <;> simp
@[simp] theorem logMinute_time (s : State) : (logMinute s).time = s.time := by unfold logMinute; (try dsimp only); (repeat' split) <;> simp
@[simp] theorem logMinute_freeCount (s : State) : (logMinute s).freeCount = s.freeCount := by unfold logMinute; (try dsimp only); (repeat' split) <;> simp

@[simp] theorem settingRecords_pending (s : State) (k : Key) (v : Int) (l : Link) : (settingRecords s k v l).pending = s.pending := by unfold settingRecords; (try dsimp only); (repeat' split) <;> simp
@[simp] theorem settingRecords_store (s : State) (k : Key) (v : Int) (l : Link) : (settingRecords s k v l).store = s.store := by unfold settingRecords; (try dsimp only); (repeat' split) <;> simp
@[simp] theorem settingRecords_table (s : State) (k : Key) (v : Int) (l : Link) : (settingRecords s k v l).table = s.table := by unfold settingRecords; (try dsimp only); (repeat' split) <;> simp
@[simp] theorem settingRecords_op (s : State) (k : Key) (v : Int) (l : Link) : (settingRecords s k v l).op = s.op := by unfold settingRecords; (try dsimp only); (repeat' split) <;> simp
@[simp] theorem settingRecords_damper (s : State) (k : Key) (v : Int) (l : Link) : (settingRecords s k v l).damper = s.damper := by unfold settingRecords; (try dsimp only); (repeat' split) <;> simp
@[simp] theorem settingRecords_fans (s : State) (k : Key) (v : Int) (l : Link) : (settingRecords s k v l).fans = s.fans := by unfold settingRecords; (try dsimp only); (repeat' split) <;> simp
@[simp] theorem settingRecords_frost (s : State) (k : Key) (v : Int) (l : Link) : (settingRecords s k v l).frost = s.frost := by unfold settingRecords; (try dsimp only); (repeat' split) <;> simp
@[simp] theorem settingRecords_bus (s : State) (k : Key) (v : Int) (l : Link) : (settingRecords s k v l).bus = s.bus := by unfold settingRecords; (try dsimp only); (repeat' split) <;> simp
@[simp] theorem settingRecords_humidity (s : State) (k : Key) (v : Int) (l : Link) : (settingRecords s k v l).humidity = s.humidity := by unfold settingRecords; (try dsimp only); (repeat' split) <;> simp
@[simp] theorem settingRecords_filters (s : State) (k : Key) (v : Int) (l : Link) : (settingRecords s k v l).filters = s.filters := by unfold settingRecords; (try dsimp only); (repeat' split) <;> simp
@[simp] theorem settingRecords_runner (s : State) (k : Key) (v : Int) (l : Link) : (settingRecords s k v l).runner = s.runner := by unfold settingRecords; (try dsimp only); (repeat' split) <;> simp
@[simp] theorem settingRecords_time (s : State) (k : Key) (v : Int) (l : Link) : (settingRecords s k v l).time = s.time := by unfold settingRecords; (try dsimp only); (repeat' split) <;> simp
@[simp] theorem settingRecords_freeCount (s : State) (k : Key) (v : Int) (l : Link) : (settingRecords s k v l).freeCount = s.freeCount := by unfold settingRecords; (try dsimp only); (repeat' split) <;> simp

@[simp] theorem tellLog_pending (s : State) (k : Key) : (tellLog s k).pending = s.pending := by unfold tellLog; (try dsimp only); (repeat' split) <;> simp
@[simp] theorem tellLog_store (s : State) (k : Key) : (tellLog s k).store = s.store := by unfold tellLog; (try dsimp only); (repeat' split) <;> simp
@[simp] theorem tellLog_table (s : State) (k : Key) : (tellLog s k).table = s.table := by unfold tellLog; (try dsimp only); (repeat' split) <;> simp
@[simp] theorem tellLog_op (s : State) (k : Key) : (tellLog s k).op = s.op := by unfold tellLog; (try dsimp only); (repeat' split) <;> simp
@[simp] theorem tellLog_damper (s : State) (k : Key) : (tellLog s k).damper = s.damper := by unfold tellLog; (try dsimp only); (repeat' split) <;> simp
@[simp] theorem tellLog_fans (s : State) (k : Key) : (tellLog s k).fans = s.fans := by unfold tellLog; (try dsimp only); (repeat' split) <;> simp
@[simp] theorem tellLog_frost (s : State) (k : Key) : (tellLog s k).frost = s.frost := by unfold tellLog; (try dsimp only); (repeat' split) <;> simp
@[simp] theorem tellLog_bus (s : State) (k : Key) : (tellLog s k).bus = s.bus := by unfold tellLog; (try dsimp only); (repeat' split) <;> simp
@[simp] theorem tellLog_humidity (s : State) (k : Key) : (tellLog s k).humidity = s.humidity := by unfold tellLog; (try dsimp only); (repeat' split) <;> simp
@[simp] theorem tellLog_filters (s : State) (k : Key) : (tellLog s k).filters = s.filters := by unfold tellLog; (try dsimp only); (repeat' split) <;> simp
@[simp] theorem tellLog_runner (s : State) (k : Key) : (tellLog s k).runner = s.runner := by unfold tellLog; (try dsimp only); (repeat' split) <;> simp
@[simp] theorem tellLog_links (s : State) (k : Key) : (tellLog s k).links = s.links := by unfold tellLog; (try dsimp only); (repeat' split) <;> simp
@[simp] theorem tellLog_time (s : State) (k : Key) : (tellLog s k).time = s.time := by unfold tellLog; (try dsimp only); (repeat' split) <;> simp
@[simp] theorem tellLog_freeCount (s : State) (k : Key) : (tellLog s k).freeCount = s.freeCount := by unfold tellLog; (try dsimp only); (repeat' split) <;> simp

@[simp] theorem tellBlocks_pending (s : State) (k : Key) (v : Int) : (tellBlocks s k v).pending = s.pending := by unfold tellBlocks; (try dsimp only); (repeat' split) <;> simp
@[simp] theorem tellBlocks_store (s : State) (k : Key) (v : Int) : (tellBlocks s k v).store = s.store := by unfold tellBlocks; (try dsimp only); (repeat' split) <;> simp
@[simp] theorem tellBlocks_fans (s : State) (k : Key) (v : Int) : (tellBlocks s k v).fans = s.fans := by unfold tellBlocks; (try dsimp only); (repeat' split) <;> simp
@[simp] theorem tellBlocks_frost (s : State) (k : Key) (v : Int) : (tellBlocks s k v).frost = s.frost := by unfold tellBlocks; (try dsimp only); (repeat' split) <;> simp
@[simp] theorem tellBlocks_filters (s : State) (k : Key) (v : Int) : (tellBlocks s k v).filters = s.filters := by unfold tellBlocks; (try dsimp only); (repeat' split) <;> simp
@[simp] theorem tellBlocks_runner (s : State) (k : Key) (v : Int) : (tellBlocks s k v).runner = s.runner := by unfold tellBlocks; (try dsimp only); (repeat' split) <;> simp
@[simp] theorem tellBlocks_time (s : State) (k : Key) (v : Int) : (tellBlocks s k v).time = s.time := by unfold tellBlocks; (try dsimp only); (repeat' split) <;> simp
@[simp] theorem tellBlocks_freeCount (s : State) (k : Key) (v : Int) : (tellBlocks s k v).freeCount = s.freeCount := by unfold tellBlocks; (try dsimp only); (repeat' split) <;> simp

@[simp] theorem storeKey_pending (s : State) (k : Key) (v : Int) (l : Link) : (storeKey s k v l).pending = s.pending := by unfold storeKey; (try dsimp only); (repeat' split) <;> simp
@[simp] theorem storeKey_fans (s : State) (k : Key) (v : Int) (l : Link) : (storeKey s k v l).fans = s.fans := by unfold storeKey; (try dsimp only); (repeat' split) <;> simp
@[simp] theorem storeKey_frost (s : State) (k : Key) (v : Int) (l : Link) : (storeKey s k v l).frost = s.frost := by unfold storeKey; (try dsimp only); (repeat' split) <;> simp
@[simp] theorem storeKey_filters (s : State) (k : Key) (v : Int) (l : Link) : (storeKey s k v l).filters = s.filters := by unfold storeKey; (try dsimp only); (repeat' split) <;> simp
@[simp] theorem storeKey_runner (s : State) (k : Key) (v : Int) (l : Link) : (storeKey s k v l).runner = s.runner := by unfold storeKey; (try dsimp only); (repeat' split) <;> simp
@[simp] theorem storeKey_time (s : State) (k : Key) (v : Int) (l : Link) : (storeKey s k v l).time = s.time := by unfold storeKey; (try dsimp only); (repeat' split) <;> simp
@[simp] theorem storeKey_freeCount (s : State) (k : Key) (v : Int) (l : Link) : (storeKey s k v l).freeCount = s.freeCount := by unfold storeKey; (try dsimp only); (repeat' split) <;> simp

@[simp] theorem installTable_pending (s : State) (x : Loaded) : (installTable s x).pending = s.pending := by unfold installTable; (try dsimp only); (repeat' split) <;> simp
@[simp] theorem installTable_table (s : State) (x : Loaded) : (installTable s x).table = s.table := by unfold installTable; (try dsimp only); (repeat' split) <;> simp
@[simp] theorem installTable_op (s : State) (x : Loaded) : (installTable s x).op = s.op := by unfold installTable; (try dsimp only); (repeat' split) <;> simp
@[simp] theorem installTable_damper (s : State) (x : Loaded) : (installTable s x).damper = s.damper := by unfold installTable; (try dsimp only); (repeat' split) <;> simp
@[simp] theorem installTable_fans (s : State) (x : Loaded) : (installTable s x).fans = s.fans := by unfold installTable; (try dsimp only); (repeat' split) <;> simp
@[simp] theorem installTable_frost (s : State) (x : Loaded) : (installTable s x).frost = s.frost := by unfold installTable; (try dsimp only); (repeat' split) <;> simp
@[simp] theorem installTable_bus (s : State) (x : Loaded) : (installTable s x).bus = s.bus := by unfold installTable; (try dsimp only); (repeat' split) <;> simp
@[simp] theorem installTable_humidity (s : State) (x : Loaded) : (installTable s x).humidity = s.humidity := by unfold installTable; (try dsimp only); (repeat' split) <;> simp
@[simp] theorem installTable_filters (s : State) (x : Loaded) : (installTable s x).filters = s.filters := by unfold installTable; (try dsimp only); (repeat' split) <;> simp
@[simp] theorem installTable_runner (s : State) (x : Loaded) : (installTable s x).runner = s.runner := by unfold installTable; (try dsimp only); (repeat' split) <;> simp
@[simp] theorem installTable_time (s : State) (x : Loaded) : (installTable s x).time = s.time := by unfold installTable; (try dsimp only); (repeat' split) <;> simp
@[simp] theorem installTable_freeCount (s : State) (x : Loaded) : (installTable s x).freeCount = s.freeCount := by unfold installTable; (try dsimp only); (repeat' split) <;> simp

@[simp] theorem startScanner_pending (s : State) : (startScanner s).pending = s.pending := by unfold startScanner; (try dsimp only); (repeat' split) <;> simp
@[simp] theorem startScanner_store (s : State) : (startScanner s).store = s.store := by unfold startScanner; (try dsimp only); (repeat' split) <;> simp
@[simp] theorem startScanner_table (s : State) : (startScanner s).table = s.table := by unfold startScanner; (try dsimp only); (repeat' split) <;> simp
@[simp] theorem startScanner_op (s : State) : (startScanner s).op = s.op := by unfold startScanner; (try dsimp only); (repeat' split) <;> simp
@[simp] theorem startScanner_damper (s : State) : (startScanner s).damper = s.damper := by unfold startScanner; (try dsimp only); (repeat' split) <;> simp
@[simp] theorem startScanner_fans (s : State) : (startScanner s).fans = s.fans := by unfold startScanner; (try dsimp only); (repeat' split) <;> simp
@[simp] theorem startScanner_frost (s : State) : (startScanner s).frost = s.frost := by unfold startScanner; (try dsimp only); (repeat' split) <;> simp
@[simp] theorem startScanner_humidity (s : State) : (startScanner s).humidity = s.humidity := by unfold startScanner; (try dsimp only); (repeat' split) <;> simp
@[simp] theorem startScanner_filters (s : State) : (startScanner s).filters = s.filters := by unfold startScanner; (try dsimp only); (repeat' split) <;> simp
@[simp] theorem startScanner_runner (s : State) : (startScanner s).runner = s.runner := by unfold startScanner; (try dsimp only); (repeat' split) <;> simp
@[simp] theorem startScanner_links (s : State) : (startScanner s).links = s.links := by unfold startScanner; (try dsimp only); (repeat' split) <;> simp
@[simp] theorem startScanner_time (s : State) : (startScanner s).time = s.time := by unfold startScanner; (try dsimp only); (repeat' split) <;> simp
@[simp] theorem startScanner_log (s : State) : (startScanner s).log = s.log := by unfold startScanner; (try dsimp only); (repeat' split) <;> simp
@[simp] theorem startScanner_freeCount (s : State) : (startScanner s).freeCount = s.freeCount := by unfold startScanner; (try dsimp only); (repeat' split) <;> simp

@[simp] theorem startUp_pending (s : State) (x : Loaded) : (startUp s x).pending = s.pending := by unfold startUp; (try dsimp only); (repeat' split) <;> simp
@[simp] theorem startUp_table (s : State) (x : Loaded) : (startUp s x).table = s.table := by unfold startUp; (try dsimp only); (repeat' split) <;> simp
@[simp] theorem startUp_fans (s : State) (x : Loaded) : (startUp s x).fans = s.fans := by unfold startUp; (try dsimp only); (repeat' split) <;> simp
@[simp] theorem startUp_runner (s : State) (x : Loaded) : (startUp s x).runner = s.runner := by unfold startUp; (try dsimp only); (repeat' split) <;> simp
@[simp] theorem startUp_time (s : State) (x : Loaded) : (startUp s x).time = s.time := by unfold startUp; (try dsimp only); (repeat' split) <;> simp
@[simp] theorem startUp_freeCount (s : State) (x : Loaded) : (startUp s x).freeCount = s.freeCount := by unfold startUp; (try dsimp only); (repeat' split) <;> simp

@[simp] theorem reportExpired_pending (s : State) (e : Entry) : (reportExpired s e).pending = s.pending := by unfold reportExpired; (try dsimp only); (repeat' split) <;> simp
@[simp] theorem reportExpired_store (s : State) (e : Entry) : (reportExpired s e).store = s.store := by unfold reportExpired; (try dsimp only); (repeat' split) <;> simp
@[simp] theorem reportExpired_fans (s : State) (e : Entry) : (reportExpired s e).fans = s.fans := by unfold reportExpired; (try dsimp only); (repeat' split) <;> simp
@[simp] theorem reportExpired_frost (s : State) (e : Entry) : (reportExpired s e).frost = s.frost := by unfold reportExpired; (try dsimp only); (repeat' split) <;> simp
@[simp] theorem reportExpired_bus (s : State) (e : Entry) : (reportExpired s e).bus = s.bus := by unfold reportExpired; (try dsimp only); (repeat' split) <;> simp
@[simp] theorem reportExpired_filters (s : State) (e : Entry) : (reportExpired s e).filters = s.filters := by unfold reportExpired; (try dsimp only); (repeat' split) <;> simp
@[simp] theorem reportExpired_runner (s : State) (e : Entry) : (reportExpired s e).runner = s.runner := by unfold reportExpired; (try dsimp only); (repeat' split) <;> simp
@[simp] theorem reportExpired_time (s : State) (e : Entry) : (reportExpired s e).time = s.time := by unfold reportExpired; (try dsimp only); (repeat' split) <;> simp
@[simp] theorem reportExpired_freeCount (s : State) (e : Entry) : (reportExpired s e).freeCount = s.freeCount := by unfold reportExpired; (try dsimp only); (repeat' split) <;> simp

/-- The reports of expired entries touch what a zone's move may touch. -/
theorem reportExpired_eq (s : State) (e : Entry) : ∃ h t o d g k,
    reportExpired s e = { s with humidity := h, table := t, op := o, damper := d, log := g, links := k } := by
  refine ⟨(reportExpired s e).humidity, (reportExpired s e).table, (reportExpired s e).op,
    (reportExpired s e).damper, (reportExpired s e).log, (reportExpired s e).links, ?_⟩
  generalize h : reportExpired s e = t
  have h1 := reportExpired_pending s e; have h2 := reportExpired_store s e; have h3 := reportExpired_fans s e
  have h4 := reportExpired_frost s e; have h5 := reportExpired_bus s e; have h6 := reportExpired_filters s e
  have h7 := reportExpired_runner s e; have h8 := reportExpired_time s e; have h9 := reportExpired_freeCount s e
  rw [h] at h1 h2 h3 h4 h5 h6 h7 h8 h9
  cases t; cases s; simp_all

/-- The reports of a tick touch what a zone's move may touch. -/
theorem reportAll_eq (es : List Entry) : ∀ s : State, ∃ h t o d g k,
    es.foldl reportExpired s = { s with humidity := h, table := t, op := o, damper := d, log := g, links := k } := by
  induction es with
  | nil => intro s; exact ⟨s.humidity, s.table, s.op, s.damper, s.log, s.links, rfl⟩
  | cons e es ih =>
    intro s
    obtain ⟨h, t, o, d, g, k, hs⟩ := reportExpired_eq s e
    obtain ⟨h', t', o', d', g', k', hs'⟩ := ih (reportExpired s e)
    refine ⟨h', t', o', d', g', k', ?_⟩
    rw [List.foldl_cons, hs', hs]

@[simp] theorem reportAll_pending (es : List Entry) (s : State) : (es.foldl reportExpired s).pending = s.pending := by
  obtain ⟨h, t, o, d, g, k, hs⟩ := reportAll_eq es s; rw [hs]
@[simp] theorem reportAll_store (es : List Entry) (s : State) : (es.foldl reportExpired s).store = s.store := by
  obtain ⟨h, t, o, d, g, k, hs⟩ := reportAll_eq es s; rw [hs]
@[simp] theorem reportAll_fans (es : List Entry) (s : State) : (es.foldl reportExpired s).fans = s.fans := by
  obtain ⟨h, t, o, d, g, k, hs⟩ := reportAll_eq es s; rw [hs]
@[simp] theorem reportAll_frost (es : List Entry) (s : State) : (es.foldl reportExpired s).frost = s.frost := by
  obtain ⟨h, t, o, d, g, k, hs⟩ := reportAll_eq es s; rw [hs]
@[simp] theorem reportAll_bus (es : List Entry) (s : State) : (es.foldl reportExpired s).bus = s.bus := by
  obtain ⟨h, t, o, d, g, k, hs⟩ := reportAll_eq es s; rw [hs]
@[simp] theorem reportAll_filters (es : List Entry) (s : State) : (es.foldl reportExpired s).filters = s.filters := by
  obtain ⟨h, t, o, d, g, k, hs⟩ := reportAll_eq es s; rw [hs]
@[simp] theorem reportAll_runner (es : List Entry) (s : State) : (es.foldl reportExpired s).runner = s.runner := by
  obtain ⟨h, t, o, d, g, k, hs⟩ := reportAll_eq es s; rw [hs]
@[simp] theorem reportAll_time (es : List Entry) (s : State) : (es.foldl reportExpired s).time = s.time := by
  obtain ⟨h, t, o, d, g, k, hs⟩ := reportAll_eq es s; rw [hs]
@[simp] theorem reportAll_freeCount (es : List Entry) (s : State) : (es.foldl reportExpired s).freeCount = s.freeCount := by
  obtain ⟨h, t, o, d, g, k, hs⟩ := reportAll_eq es s; rw [hs]

@[simp] theorem demandMinute_pending (s : State) : (demandMinute s).pending = s.pending := by unfold demandMinute; (try dsimp only); (repeat' split) <;> simp
@[simp] theorem demandMinute_store (s : State) : (demandMinute s).store = s.store := by unfold demandMinute; (try dsimp only); (repeat' split) <;> simp
@[simp] theorem demandMinute_fans (s : State) : (demandMinute s).fans = s.fans := by unfold demandMinute; (try dsimp only); (repeat' split) <;> simp
@[simp] theorem demandMinute_frost (s : State) : (demandMinute s).frost = s.frost := by unfold demandMinute; (try dsimp only); (repeat' split) <;> simp
@[simp] theorem demandMinute_bus (s : State) : (demandMinute s).bus = s.bus := by unfold demandMinute; (try dsimp only); (repeat' split) <;> simp
@[simp] theorem demandMinute_filters (s : State) : (demandMinute s).filters = s.filters := by unfold demandMinute; (try dsimp only); (repeat' split) <;> simp
@[simp] theorem demandMinute_runner (s : State) : (demandMinute s).runner = s.runner := by unfold demandMinute; (try dsimp only); (repeat' split) <;> simp
@[simp] theorem demandMinute_time (s : State) : (demandMinute s).time = s.time := by unfold demandMinute; (try dsimp only); (repeat' split) <;> simp
@[simp] theorem demandMinute_freeCount (s : State) : (demandMinute s).freeCount = s.freeCount := by unfold demandMinute; (try dsimp only); (repeat' split) <;> simp

@[simp] theorem minuteTick_pending (s : State) : (minuteTick s).pending = s.pending := by unfold minuteTick; (try dsimp only); (repeat' split) <;> simp
@[simp] theorem minuteTick_fans (s : State) : (minuteTick s).fans = s.fans := by unfold minuteTick; (try dsimp only); (repeat' split) <;> simp
@[simp] theorem minuteTick_frost (s : State) : (minuteTick s).frost = s.frost := by unfold minuteTick; (try dsimp only); (repeat' split) <;> simp
@[simp] theorem minuteTick_bus (s : State) : (minuteTick s).bus = s.bus := by unfold minuteTick; (try dsimp only); (repeat' split) <;> simp
@[simp] theorem minuteTick_runner (s : State) : (minuteTick s).runner = s.runner := by unfold minuteTick; (try dsimp only); (repeat' split) <;> simp
@[simp] theorem minuteTick_freeCount (s : State) : (minuteTick s).freeCount = s.freeCount := by unfold minuteTick; (try dsimp only); (repeat' split) <;> simp

@[simp] theorem timeSecond_pending (s : State) : (timeSecond s).pending = s.pending := by unfold timeSecond; (try dsimp only); (repeat' split) <;> simp
@[simp] theorem timeSecond_fans (s : State) : (timeSecond s).fans = s.fans := by unfold timeSecond; (try dsimp only); (repeat' split) <;> simp
@[simp] theorem timeSecond_frost (s : State) : (timeSecond s).frost = s.frost := by unfold timeSecond; (try dsimp only); (repeat' split) <;> simp
@[simp] theorem timeSecond_bus (s : State) : (timeSecond s).bus = s.bus := by unfold timeSecond; (try dsimp only); (repeat' split) <;> simp
@[simp] theorem timeSecond_runner (s : State) : (timeSecond s).runner = s.runner := by unfold timeSecond; (try dsimp only); (repeat' split) <;> simp
@[simp] theorem timeSecond_freeCount (s : State) : (timeSecond s).freeCount = s.freeCount := by unfold timeSecond; (try dsimp only); (repeat' split) <;> simp

@[simp] theorem roundSecond_pending (s : State) : (roundSecond s).pending = s.pending := by unfold roundSecond; (try dsimp only); (repeat' split) <;> simp
@[simp] theorem roundSecond_store (s : State) : (roundSecond s).store = s.store := by unfold roundSecond; (try dsimp only); (repeat' split) <;> simp
@[simp] theorem roundSecond_table (s : State) : (roundSecond s).table = s.table := by unfold roundSecond; (try dsimp only); (repeat' split) <;> simp
@[simp] theorem roundSecond_op (s : State) : (roundSecond s).op = s.op := by unfold roundSecond; (try dsimp only); (repeat' split) <;> simp
@[simp] theorem roundSecond_damper (s : State) : (roundSecond s).damper = s.damper := by unfold roundSecond; (try dsimp only); (repeat' split) <;> simp
@[simp] theorem roundSecond_fans (s : State) : (roundSecond s).fans = s.fans := by unfold roundSecond; (try dsimp only); (repeat' split) <;> simp
@[simp] theorem roundSecond_frost (s : State) : (roundSecond s).frost = s.frost := by unfold roundSecond; (try dsimp only); (repeat' split) <;> simp
@[simp] theorem roundSecond_humidity (s : State) : (roundSecond s).humidity = s.humidity := by unfold roundSecond; (try dsimp only); (repeat' split) <;> simp
@[simp] theorem roundSecond_filters (s : State) : (roundSecond s).filters = s.filters := by unfold roundSecond; (try dsimp only); (repeat' split) <;> simp
@[simp] theorem roundSecond_runner (s : State) : (roundSecond s).runner = s.runner := by unfold roundSecond; (try dsimp only); (repeat' split) <;> simp
@[simp] theorem roundSecond_links (s : State) : (roundSecond s).links = s.links := by unfold roundSecond; (try dsimp only); (repeat' split) <;> simp
@[simp] theorem roundSecond_time (s : State) : (roundSecond s).time = s.time := by unfold roundSecond; (try dsimp only); (repeat' split) <;> simp
@[simp] theorem roundSecond_log (s : State) : (roundSecond s).log = s.log := by unfold roundSecond; (try dsimp only); (repeat' split) <;> simp
@[simp] theorem roundSecond_freeCount (s : State) : (roundSecond s).freeCount = s.freeCount := by unfold roundSecond; (try dsimp only); (repeat' split) <;> simp

@[simp] theorem tickSecond_pending (s : State) : (tickSecond s).pending = s.pending := by unfold tickSecond; (try dsimp only); (repeat' split) <;> simp
@[simp] theorem tickSecond_fans (s : State) : (tickSecond s).fans = s.fans := by unfold tickSecond; (try dsimp only); (repeat' split) <;> simp
@[simp] theorem tickSecond_frost (s : State) : (tickSecond s).frost = s.frost := by unfold tickSecond; (try dsimp only); (repeat' split) <;> simp
@[simp] theorem tickSecond_runner (s : State) : (tickSecond s).runner = s.runner := by unfold tickSecond; (try dsimp only); (repeat' split) <;> simp
@[simp] theorem tickSecond_freeCount (s : State) : (tickSecond s).freeCount = s.freeCount := by unfold tickSecond; (try dsimp only); (repeat' split) <;> simp

@[simp] theorem setTime_pending (s : State) (l : Link) (c : Word) : (setTime s l c).pending = s.pending := by unfold setTime; (try dsimp only); (repeat' split) <;> simp
@[simp] theorem setTime_store (s : State) (l : Link) (c : Word) : (setTime s l c).store = s.store := by unfold setTime; (try dsimp only); (repeat' split) <;> simp
@[simp] theorem setTime_table (s : State) (l : Link) (c : Word) : (setTime s l c).table = s.table := by unfold setTime; (try dsimp only); (repeat' split) <;> simp
@[simp] theorem setTime_op (s : State) (l : Link) (c : Word) : (setTime s l c).op = s.op := by unfold setTime; (try dsimp only); (repeat' split) <;> simp
@[simp] theorem setTime_damper (s : State) (l : Link) (c : Word) : (setTime s l c).damper = s.damper := by unfold setTime; (try dsimp only); (repeat' split) <;> simp
@[simp] theorem setTime_fans (s : State) (l : Link) (c : Word) : (setTime s l c).fans = s.fans := by unfold setTime; (try dsimp only); (repeat' split) <;> simp
@[simp] theorem setTime_frost (s : State) (l : Link) (c : Word) : (setTime s l c).frost = s.frost := by unfold setTime; (try dsimp only); (repeat' split) <;> simp
@[simp] theorem setTime_bus (s : State) (l : Link) (c : Word) : (setTime s l c).bus = s.bus := by unfold setTime; (try dsimp only); (repeat' split) <;> simp
@[simp] theorem setTime_humidity (s : State) (l : Link) (c : Word) : (setTime s l c).humidity = s.humidity := by unfold setTime; (try dsimp only); (repeat' split) <;> simp
@[simp] theorem setTime_filters (s : State) (l : Link) (c : Word) : (setTime s l c).filters = s.filters := by unfold setTime; (try dsimp only); (repeat' split) <;> simp
@[simp] theorem setTime_runner (s : State) (l : Link) (c : Word) : (setTime s l c).runner = s.runner := by unfold setTime; (try dsimp only); (repeat' split) <;> simp
@[simp] theorem setTime_freeCount (s : State) (l : Link) (c : Word) : (setTime s l c).freeCount = s.freeCount := by unfold setTime; (try dsimp only); (repeat' split) <;> simp

@[simp] theorem resetProcedure_pending (s : State) (l : Link) : (resetProcedure s l).pending = s.pending := by unfold resetProcedure; (try dsimp only); (repeat' split) <;> simp
@[simp] theorem resetProcedure_store (s : State) (l : Link) : (resetProcedure s l).store = s.store := by unfold resetProcedure; (try dsimp only); (repeat' split) <;> simp
@[simp] theorem resetProcedure_table (s : State) (l : Link) : (resetProcedure s l).table = s.table := by unfold resetProcedure; (try dsimp only); (repeat' split) <;> simp
@[simp] theorem resetProcedure_fans (s : State) (l : Link) : (resetProcedure s l).fans = s.fans := by unfold resetProcedure; (try dsimp only); (repeat' split) <;> simp
@[simp] theorem resetProcedure_frost (s : State) (l : Link) : (resetProcedure s l).frost = s.frost := by unfold resetProcedure; (try dsimp only); (repeat' split) <;> simp
@[simp] theorem resetProcedure_bus (s : State) (l : Link) : (resetProcedure s l).bus = s.bus := by unfold resetProcedure; (try dsimp only); (repeat' split) <;> simp
@[simp] theorem resetProcedure_humidity (s : State) (l : Link) : (resetProcedure s l).humidity = s.humidity := by unfold resetProcedure; (try dsimp only); (repeat' split) <;> simp
@[simp] theorem resetProcedure_filters (s : State) (l : Link) : (resetProcedure s l).filters = s.filters := by unfold resetProcedure; (try dsimp only); (repeat' split) <;> simp
@[simp] theorem resetProcedure_time (s : State) (l : Link) : (resetProcedure s l).time = s.time := by unfold resetProcedure; (try dsimp only); (repeat' split) <;> simp
@[simp] theorem resetProcedure_freeCount (s : State) (l : Link) : (resetProcedure s l).freeCount = s.freeCount := by unfold resetProcedure; (try dsimp only); (repeat' split) <;> simp

@[simp] theorem resetLink_pending (s : State) (l : Link) : (resetLink s l).pending = s.pending := by unfold resetLink; (try dsimp only); (repeat' split) <;> simp
@[simp] theorem resetLink_store (s : State) (l : Link) : (resetLink s l).store = s.store := by unfold resetLink; (try dsimp only); (repeat' split) <;> simp
@[simp] theorem resetLink_fans (s : State) (l : Link) : (resetLink s l).fans = s.fans := by unfold resetLink; (try dsimp only); (repeat' split) <;> simp
@[simp] theorem resetLink_frost (s : State) (l : Link) : (resetLink s l).frost = s.frost := by unfold resetLink; (try dsimp only); (repeat' split) <;> simp
@[simp] theorem resetLink_humidity (s : State) (l : Link) : (resetLink s l).humidity = s.humidity := by unfold resetLink; (try dsimp only); (repeat' split) <;> simp
@[simp] theorem resetLink_filters (s : State) (l : Link) : (resetLink s l).filters = s.filters := by unfold resetLink; (try dsimp only); (repeat' split) <;> simp
@[simp] theorem resetLink_freeCount (s : State) (l : Link) : (resetLink s l).freeCount = s.freeCount := by unfold resetLink; (try dsimp only); (repeat' split) <;> simp

end Sys2Proof.Machine
end

