-- ==== Sys2Proof/Laws/Records.lean ====
section
/-! SUPPORT. The containers of one record per link, side, zone or probe, equality of states field by field, and
the settings table read after it is written. -/

namespace Sys2Proof.Machine

/-! ### Containers -/

@[simp] theorem PerLink.get_set {α : Type} (p : PerLink α) (l m : Link) (a : α) :
    (p.set l a).get m = if m = l then a else p.get m := by cases l <;> cases m <;> rfl

@[simp] theorem PerSide.get_set {α : Type} (p : PerSide α) (f g : Side) (a : α) :
    (p.set f a).get g = if g = f then a else p.get g := by cases f <;> cases g <;> rfl

@[simp] theorem PerZone.get_set {α : Type} (p : PerZone α) (z n : Zone) (a : α) :
    (p.set z a).get n = if n = z then a else p.get n := by cases z <;> cases n <;> rfl

@[simp] theorem PerProbe.get_set {α : Type} (p : PerProbe α) (m n : AirProbe) (a : α) :
    (p.set m a).get n = if n = m then a else p.get n := by cases m <;> cases n <;> rfl

@[simp] theorem PerLink.get_mapWith {α β : Type} (p : PerLink α) (f : Link → α → β) (l : Link) :
    (p.mapWith f).get l = f l (p.get l) := by cases l <;> rfl

theorem PerLink.ext_get {α : Type} {p q : PerLink α} (h : ∀ l, p.get l = q.get l) : p = q := by
  cases p; cases q; have a := h .panel; have b := h .heating; have c := h .service; simp_all [PerLink.get]

theorem PerSide.ext_get {α : Type} {p q : PerSide α} (h : ∀ f, p.get f = q.get f) : p = q := by
  cases p; cases q; have a := h .supply; have b := h .extract; simp_all [PerSide.get]

theorem PerZone.ext_get {α : Type} {p q : PerZone α} (h : ∀ z, p.get z = q.get z) : p = q := by
  cases p; cases q; have a := h .z1; have b := h .z2; have c := h .z3; have d := h .z4; simp_all [PerZone.get]

theorem PerProbe.ext_get {α : Type} {p q : PerProbe α} (h : ∀ n, p.get n = q.get n) : p = q := by
  cases p; cases q; have a := h .oda; have b := h .sup; have c := h .eta; have d := h .eha
  simp_all [PerProbe.get]

@[simp] theorem PerLink.set_set {α : Type} (p : PerLink α) (l : Link) (a b : α) :
    (p.set l a).set l b = p.set l b := by cases l <;> rfl

@[simp] theorem PerSide.set_set {α : Type} (p : PerSide α) (f : Side) (a b : α) :
    (p.set f a).set f b = p.set f b := by cases f <;> rfl

@[simp] theorem PerZone.set_set {α : Type} (p : PerZone α) (z : Zone) (a b : α) :
    (p.set z a).set z b = p.set z b := by cases z <;> rfl

@[simp] theorem PerLink.set_get {α : Type} (p : PerLink α) (l : Link) : p.set l (p.get l) = p := by
  cases l <;> rfl

@[simp] theorem PerSide.set_get {α : Type} (p : PerSide α) (f : Side) : p.set f (p.get f) = p := by
  cases f <;> rfl

@[simp] theorem PerZone.set_get {α : Type} (p : PerZone α) (z : Zone) : p.set z (p.get z) = p := by
  cases z <;> rfl

@[simp] theorem PerLink.get_mk {α : Type} (a b c : α) (l : Link) :
    (PerLink.mk a b c).get l = match l with | .panel => a | .heating => b | .service => c := by
  cases l <;> rfl

/-! ### Equal states -/

theorem State.eq_of_fields {a b : State} (h1 : a.pending = b.pending) (h2 : a.store = b.store)
    (h3 : a.table = b.table) (h4 : a.op = b.op) (h5 : a.damper = b.damper) (h6 : a.fans = b.fans)
    (h7 : a.frost = b.frost) (h8 : a.bus = b.bus) (h9 : a.humidity = b.humidity)
    (h10 : a.filters = b.filters) (h11 : a.runner = b.runner) (h12 : a.links = b.links)
    (h13 : a.time = b.time) (h14 : a.log = b.log) (h15 : a.freeCount = b.freeCount) : a = b := by
  cases a; cases b; simp_all

/-! ### The settings table -/

theorem keyPlace_inj {j k : Key} (h : keyPlace j = keyPlace k) : j = k := by
  have h' : keyCode j = keyCode k := by
    have a := keyCode_range j; have b := keyCode_range k
    simp only [keyPlace, Fin.mk.injEq] at h; omega
  have key : ∀ k : Key, keyOfCode (keyCode k) = some k := by
    intro k
    cases k with
    | zone z k => cases z <;> cases k <;> rfl
    | _ => rfl
  have a := key j; rw [h', key k] at a; exact (Option.some.inj a).symm

/-- The code of a key names it. -/
@[simp] theorem keyOfCode_keyCode (k : Key) : keyOfCode (keyCode k) = some k := by
  cases k with
  | zone z k => cases z <;> cases k <;> rfl
  | _ => rfl

@[simp] theorem Settings.get_put (t : Settings) (j k : Key) (v : Int) :
    (t.put k v).get j = if j = k then v else t.get j := by
  unfold Settings.get Settings.put
  by_cases h : j = k
  · subst h
    show (t.values.set _ v (keyPlace j).isLt)[(keyPlace j).val] = _
    simp
  · have hne : (keyPlace k).val ≠ (keyPlace j).val := fun e => h (keyPlace_inj (Fin.ext e).symm)
    simp only [if_neg h]
    show (t.values.set _ v (keyPlace k).isLt)[(keyPlace j).val] = t.values[(keyPlace j).val]
    rw [Vector.getElem_set_ne]; exact hne

/-- What placing a record leaves of the trend and the armed flag, and the unreleased count after it (R173, R174). -/
theorem Log.place_keeps (g : Log) (r : LogRecord) :
    (g.place r).hourly = g.hourly ∧ (g.place r).armed = g.armed ∧
      (g.place r).unreleased = if g.write - g.mark < 512 then g.write + 1 - g.mark else g.write - g.mark := by
  unfold Log.place Log.unreleased; dsimp only
  by_cases h : g.write - g.mark < 512
  · rw [if_pos h, if_pos h]; exact ⟨rfl, rfl, rfl⟩
  · rw [if_neg h, if_neg h]; refine ⟨rfl, rfl, ?_⟩; dsimp only; omega

end Sys2Proof.Machine
end

