-- ==== Sys2Proof/Laws/Events.lean ====
section
/-! SUPPORT. What raising an event, writing a record, ending a procedure and notifying the resolver do, each said
once: the pending sets, the log's records, and the operating point they leave. -/

namespace Sys2Proof.Machine

/-! ### Sets of kinds -/

theorem kindIndex_inj {j k : EventKind} (h : kindIndex j = kindIndex k) : j = k := by
  cases j <;> cases k <;> first | rfl | cases h

theorem kindIndex_lt (k : EventKind) : kindIndex k < 14 := by cases k <;> decide

@[simp] theorem hasKind_oneKind (j k : EventKind) : hasKind (oneKind j) k = decide (k = j) := by
  cases j <;> cases k <;> rfl

@[simp] theorem hasKind_or (m n : KindSet) (k : EventKind) :
    hasKind (m ||| n) k = (hasKind m k || hasKind n k) := by simp [hasKind]

@[simp] theorem hasKind_and (m n : KindSet) (k : EventKind) :
    hasKind (m &&& n) k = (hasKind m k && hasKind n k) := by simp [hasKind]

@[simp] theorem hasKind_empty (k : EventKind) : hasKind 0#14 k = false := by simp [hasKind]

/-- Two sets that hold the same kinds are the same set. -/
theorem hasKind_ext {m n : KindSet} (h : ∀ k, hasKind m k = hasKind n k) : m = n := by
  apply BitVec.eq_of_getLsbD_eq
  intro i hi
  have : ∃ k, kindIndex k = i := by
    have all : ∀ i : Fin 14, ∃ k, kindIndex k = i.val := by
      intro i
      match i with
      | 0 => exact ⟨.frostStage, rfl⟩
      | 1 => exact ⟨.frostLockout, rfl⟩
      | 2 => exact ⟨.thawEnd, rfl⟩
      | 3 => exact ⟨.preheaterFault, rfl⟩
      | 4 => exact ⟨.fanFault, rfl⟩
      | 5 => exact ⟨.probeFault, rfl⟩
      | 6 => exact ⟨.filterState, rfl⟩
      | 7 => exact ⟨.procedureEnd, rfl⟩
      | 8 => exact ⟨.zoneState, rfl⟩
      | 9 => exact ⟨.sensorStale, rfl⟩
      | 10 => exact ⟨.storeState, rfl⟩
      | 11 => exact ⟨.logAlmostFull, rfl⟩
      | 12 => exact ⟨.demandExpired, rfl⟩
      | 13 => exact ⟨.probeReady, rfl⟩
    exact all ⟨i, hi⟩
  obtain ⟨k, rfl⟩ := this
  exact h k

@[simp] theorem hasKind_addressedOnly (k : EventKind) :
    hasKind addressedOnly k = (decide (k = .demandExpired) || decide (k = .probeReady)) := by
  cases k <;> rfl

/-! ### Delivery -/

@[simp] theorem hasKind_deliver_pending (r : LinkRecord) (k j : EventKind) (a : Bool) :
    hasKind (r.deliver k a).pending j = (hasKind r.pending j || decide (j = k)) := by
  simp [LinkRecord.deliver]

/-- A link record but for what a delivery can change. -/
def LinkRecord.sameBut (r q : LinkRecord) : Prop :=
  q.state = r.state ∧ q.frame = r.frame ∧ q.expired = r.expired ∧ q.reply = r.reply

theorem LinkRecord.sameBut_iff (r q : LinkRecord) :
    r.sameBut q ↔
      q = { r with pending := q.pending, addressed := q.addressed, attention := q.attention } := by
  cases r; cases q; simp [LinkRecord.sameBut]

theorem delivered_iff (s t : State) (g : Link → EventKind → Bool) :
    Delivered s t g ↔ (∀ l, (s.links.get l).sameBut (t.links.get l)) ∧ Given s t g := by
  simp only [Delivered, Given, LinkRecord.sameBut_iff, forall_and]

theorem Delivered.given {s t : State} {g} (h : Delivered s t g) : Given s t g :=
  ((delivered_iff s t g).1 h).2

theorem Delivered.refl (s : State) : Delivered s s fun _ _ => false := by
  simp [delivered_iff, Given, LinkRecord.sameBut]

theorem Delivered.of_links {s t : State} (h : t.links = s.links) : Delivered s t fun _ _ => false := by
  simp [delivered_iff, Given, LinkRecord.sameBut, h]

/-- Delivery follows the link records alone. -/
theorem Delivered.congr {s s' t t' : State} {g} (hs : s'.links = s.links) (ht : t'.links = t.links)
    (h : Delivered s t g) : Delivered s' t' g := by simpa only [Delivered, hs, ht] using h

theorem Delivered.trans {s t u : State} {g h} (a : Delivered s t g) (b : Delivered t u h) :
    Delivered s u fun l k => g l k || h l k := by
  rw [delivered_iff] at *
  refine ⟨fun l => ?_, fun l k hk => ?_⟩
  · have x := a.1 l; have y := b.1 l
    simp only [LinkRecord.sameBut] at *; simp_all
  · rw [b.2 l k hk, a.2 l k hk, Bool.or_assoc]

theorem Delivered.mono {s t : State} {g h} (a : Delivered s t g)
    (e : ∀ l k, k ≠ .logAlmostFull → g l k = h l k) : Delivered s t h := by
  rw [delivered_iff] at *
  exact ⟨a.1, fun l k hk => by rw [a.2 l k hk, e l k hk]⟩

/-- To whom a raised kind goes (R162). -/
def raisedTo (s : State) (k : EventKind) (dest : Option Link) (l : Link) (j : EventKind) : Bool :=
  decide (j = k) && (decide (dest = some l) || hasKind ((deliveryMap s.settings k).get l) k)

theorem Delivered.raiseTo (s : State) (k : EventKind) (dest : Option Link) :
    Delivered s (raiseTo s k dest) (raisedTo s k dest) := by
  rw [delivered_iff]
  refine ⟨fun l => ?_, fun l j _ => ?_⟩
  · simp only [Machine.raiseTo, deliverAll, PerLink.get_mapWith, LinkRecord.sameBut]
    split
    · simp [LinkRecord.deliver]
    · split <;> simp [LinkRecord.deliver]
  · simp only [Machine.raiseTo, deliverAll, PerLink.get_mapWith, raisedTo, State.settings]
    split
    · rename_i h; simp [h]
    · rename_i h
      split
      · rename_i h'; simp [h']
      · rename_i h'; simp [h, Bool.not_eq_true _ ▸ h']

/-- A kind that goes by the map goes to the links the map gives (R162). -/
theorem raisedTo_byMap (s : State) (k : EventKind) (h : hasKind addressedOnly k = false) :
    raisedTo s k none = byMap s [k] := by
  funext l j
  by_cases e : j = k
  · subst e
    simp only [raisedTo, byMap, deliveryMap, State.settings, h]; simp
  · simp [raisedTo, byMap, e]

theorem Delivered.raise (s : State) (k : EventKind) (h : hasKind addressedOnly k = false) :
    Delivered s (raise s k) (byMap s [k]) := raisedTo_byMap s k h ▸ Delivered.raiseTo s k none

theorem Delivered.writeLog (s : State) (b : LogBody) : Delivered s (writeLog s b) fun _ _ => false := by
  rw [delivered_iff]
  refine ⟨fun l => ?_, fun l j hj => ?_⟩
  · simp only [Machine.writeLog]
    split
    · simp only [deliverAll, PerLink.get_mapWith, LinkRecord.sameBut]
      split
      · simp [LinkRecord.deliver]
      · split <;> simp [LinkRecord.deliver]
    · simp [LinkRecord.sameBut]
  · simp only [Machine.writeLog]
    split
    · simp only [deliverAll, PerLink.get_mapWith]
      split
      · simp [hj]
      · split <;> simp [hj]
    · simp

/-! ### Records written -/

/-- A record joins the newest 512 of a ring (R173, R174). -/
def pushRing (ring : List LogRecord) (r : LogRecord) : List LogRecord :=
  (if ring.length < 512 then ring else ring.drop 1) ++ [r]

/-- The records written between two states, one after the other. -/
def Logged (s t : State) (bodies : List LogBody) : Prop :=
  t.log.write = s.log.write + bodies.length ∧
    t.log.ring = (bodies.map fun b => ({ stamp := s.time.stamp, body := b } : LogRecord)).foldl pushRing s.log.ring

theorem foldl_pushRing_suffix (ring : List LogRecord) (rs : List LogRecord) (h : rs.length ≤ 512) :
    rs <:+ rs.foldl pushRing ring := by
  obtain ⟨ys, rfl⟩ : ∃ ys, rs = List.reverse ys := ⟨rs.reverse, by simp⟩
  induction ys with
  | nil => exact List.nil_suffix
  | cons x ys ih =>
    have hx : ys.length < 512 := by simp at h; omega
    obtain ⟨pre, hp⟩ := ih (by simp; omega)
    rw [List.reverse_cons, List.foldl_append, ← hp]
    simp only [List.foldl_cons, List.foldl_nil, pushRing]
    split
    · exact ⟨pre, by simp⟩
    · rename_i hl
      have : 0 < pre.length := by simp at hl; omega
      cases pre with
      | nil => simp at this
      | cons a pre => exact ⟨pre, by simp⟩

theorem Logged.wrote {s t : State} {bs : List LogBody} (h : Logged s t bs) (hn : bs.length ≤ 512) :
    Wrote s t bs := by
  refine ⟨h.1, ?_⟩
  obtain ⟨pre, hp⟩ := foldl_pushRing_suffix s.log.ring
    (bs.map fun b => ({ stamp := s.time.stamp, body := b } : LogRecord)) (by simpa using hn)
  rw [h.2, ← hp]
  simp

theorem Logged.refl (s : State) : Logged s s [] := ⟨by simp, rfl⟩

theorem Logged.of_log {s t : State} (h : t.log = s.log) : Logged s t [] := by simp [Logged, h]

theorem Logged.writeLog (s : State) (b : LogBody) : Logged s (writeLog s b) [b] := by
  constructor
  · simp only [Machine.writeLog, Log.place]; split <;> rfl
  · simp only [Machine.writeLog, Log.place, List.map, List.foldl, pushRing]; split <;> rfl

theorem Logged.congr {s s' t t' : State} {bs} (hs : s'.log = s.log) (hm : s'.time.stamp = s.time.stamp)
    (ht : t'.log = t.log) (h : Logged s t bs) : Logged s' t' bs := by
  simpa only [Logged, hs, ht, hm] using h

theorem Logged.trans {s t u : State} {bs cs} (hm : t.time.stamp = s.time.stamp) (a : Logged s t bs)
    (b : Logged t u cs) : Logged s u (bs ++ cs) := by
  refine ⟨by rw [b.1, a.1, List.length_append]; omega, ?_⟩
  rw [b.2, a.2, hm, List.map_append, List.foldl_append]

/-! ### Both at once -/

/-- What happened between two states as the log and the links tell it: the records written and the kinds given. -/
def Told (s t : State) (bs : List LogBody) (g : Link → EventKind → Bool) : Prop :=
  Logged s t bs ∧ Delivered s t g ∧ t.time = s.time ∧ t.store = s.store

theorem Told.refl (s : State) : Told s s [] fun _ _ => false := ⟨.refl s, .refl s, rfl, rfl⟩

theorem Told.of_eq {s t : State} (h1 : t.log = s.log) (h2 : t.links = s.links) (h3 : t.time = s.time)
    (h4 : t.store = s.store) : Told s t [] fun _ _ => false := ⟨.of_log h1, .of_links h2, h3, h4⟩

theorem Told.trans {s t u : State} {bs cs g h} (a : Told s t bs g) (b : Told t u cs h) :
    Told s u (bs ++ cs) fun l k => g l k || h l k :=
  ⟨.trans (by rw [a.2.2.1]) a.1 b.1, .trans a.2.1 b.2.1, b.2.2.1.trans a.2.2.1, b.2.2.2.trans a.2.2.2⟩

theorem Told.congr {s s' t t' : State} {bs g} (h : Told s t bs g) (a1 : s'.log = s.log) (a2 : s'.links = s.links)
    (a3 : s'.time = s.time) (a4 : s'.store = s.store) (b1 : t'.log = t.log) (b2 : t'.links = t.links)
    (b3 : t'.time = t.time) (b4 : t'.store = t.store) : Told s' t' bs g :=
  ⟨h.1.congr a1 (by rw [a3]) b1, h.2.1.congr a2 b2, by rw [b3, h.2.2.1, a3], by rw [b4, h.2.2.2, a4]⟩

theorem Told.mono {s t : State} {bs cs g h} (a : Told s t bs g) (e : bs = cs)
    (d : ∀ l k, k ≠ .logAlmostFull → g l k = h l k) : Told s t cs h :=
  ⟨e ▸ a.1, a.2.1.mono d, a.2.2⟩

theorem Told.raiseTo (s : State) (k : EventKind) (dest : Option Link) :
    Told s (raiseTo s k dest) [] (raisedTo s k dest) := ⟨.of_log rfl, .raiseTo s k dest, rfl, rfl⟩

theorem Told.raise (s : State) (k : EventKind) (h : hasKind addressedOnly k = false) :
    Told s (raise s k) [] (byMap s [k]) := ⟨.of_log rfl, .raise s k h, rfl, rfl⟩

theorem Told.writeLog (s : State) (b : LogBody) : Told s (writeLog s b) [b] fun _ _ => false :=
  ⟨.writeLog s b, .writeLog s b, rfl, rfl⟩

theorem byMap_congr {s t : State} (h : t.store = s.store) (ks : List EventKind) : byMap t ks = byMap s ks := by
  funext l k; simp [byMap, State.settings, h]

theorem byMap_append (s : State) (a b : List EventKind) (l : Link) (k : EventKind) :
    byMap s (a ++ b) l k = (byMap s a l k || byMap s b l k) := by
  simp [byMap, Bool.and_or_distrib_right]

@[simp] theorem byMap_nil (s : State) (l : Link) (k : EventKind) : byMap s [] l k = false := rfl

/-! ### The resolver's notice -/

/-- What the resolver reads. -/
theorem resolve_congr {s t : State} (h1 : t.store = s.store) (h2 : t.table = s.table)
    (h3 : t.filters = s.filters) (h4 : t.runner.procedure = s.runner.procedure)
    (h5 : t.frost.record = s.frost.record) (h6 : t.frost.probes = s.frost.probes) (h7 : t.fans = s.fans)
    (h8 : t.op.bypassOpen = s.op.bypassOpen) : resolve t = resolve s := by
  simp only [resolve, State.settings, h1, h2, h3, h4, h5, h6, h7, h8]

/-- A notice after the load leaves the resolver's record up to date (R27). -/
theorem Resolved.notice (u : State) (h : u.isLoading = false) : Resolved (notice u) := by
  refine ⟨u.op.bypassOpen, ?_⟩
  have : (Machine.notice u).op = resolve u := by simp [Machine.notice, h]
  rw [this]
  exact (resolve_congr rfl rfl rfl rfl rfl rfl rfl rfl).symm

theorem Resolved.congr {s t : State} (h : Resolved s) (h0 : t.op = s.op) (h1 : t.store = s.store)
    (h2 : t.table = s.table) (h3 : t.filters = s.filters) (h4 : t.runner = s.runner)
    (h5 : t.frost.record = s.frost.record) (h6 : t.frost.probes = s.frost.probes) (h7 : t.fans = s.fans) :
    Resolved t := by
  obtain ⟨w, hw⟩ := h
  refine ⟨w, ?_⟩
  exact h0.trans (hw.trans (resolve_congr (s := { s with op := { s.op with bypassOpen := w } })
    (t := { t with op := { t.op with bypassOpen := w } }) h1 h2 h3 (by rw [h4]) h5 h6 h7 rfl).symm)

/-! ### The end of a procedure -/

theorem Told.finishProcedure (s : State) (o : ProcedureOutcome) (r : PerSide (Option Nat)) :
    Told s (finishProcedure s o r) (endBodies s.runner.procedure o) (endGiven s o) := by
  unfold Machine.finishProcedure endBodies
  cases h : s.runner.procedure.running? with
  | none => exact (Told.refl s).mono rfl fun l k _ => by simp [endGiven, h]
  | some p =>
    obtain ⟨owner, sel⟩ := p
    have a := (Told.writeLog s (.procedure o sel owner)).trans
      (Told.raiseTo (Machine.writeLog s (.procedure o sel owner)) .procedureEnd (endAddressee o owner))
    refine (a.congr rfl rfl rfl rfl rfl rfl rfl rfl).mono rfl ?_
    intro l k _
    simp only [endGiven, h, raisedTo, endAddressee, deliveryMap, State.settings, writeLog_store,
      hasKind_addressedOnly, Bool.false_or]
    by_cases ho : o = .abortedLink
    · simp [ho]
    · simp [ho, Bool.or_comm, eq_comm]

theorem finishProcedure_runner (s : State) (o : ProcedureOutcome) (r : PerSide (Option Nat)) :
    (finishProcedure s o r).runner = endedRunner s o r := by
  unfold finishProcedure endedRunner
  cases h : s.runner.procedure.running? <;> simp

/-- With a procedure running its end notifies the resolver, and otherwise nothing happens (R153). -/
theorem finishProcedure_cases (s : State) (o : ProcedureOutcome) (r : PerSide (Option Nat)) :
    finishProcedure s o r = s ∨
      ∃ u, finishProcedure s o r = notice u ∧ u.op = s.op ∧ u.damper = s.damper ∧ u.store = s.store := by
  unfold finishProcedure
  cases h : s.runner.procedure.running? with
  | none => exact .inl rfl
  | some p => exact .inr ⟨_, rfl, rfl, rfl, rfl⟩

end Sys2Proof.Machine
end

