-- ==== Sys2Proof/Laws/Blocks.lean ====
section
/-! SUPPORT. What the blocks' shared operations do, each said once: the store's table and state through a minute,
the grant of the sensor bus, and what a change of a fan's, a probe's, a filter's or a zone's record tells. -/

namespace Sys2Proof.Machine

/-! ### The store through a minute -/

@[simp] theorem isLoading_def (s : State) (h : s.store.state = .loading) : s.isLoading = true := by
  simp [State.isLoading, h]

theorem isLoading_congr {s t : State} (h : t.store.state = s.store.state) : t.isLoading = s.isLoading := by
  simp [State.isLoading, h]

@[simp] theorem filtersMinute_settings (s : State) : (filtersMinute s).store.settings = s.store.settings := by
  unfold filtersMinute; dsimp only; (repeat' split) <;> rfl

@[simp] theorem filtersMinute_state (s : State) : (filtersMinute s).store.state = s.store.state := by
  unfold filtersMinute; dsimp only; (repeat' split) <;> rfl

@[simp] theorem minuteTick_settings (s : State) : (minuteTick s).store.settings = s.store.settings := by
  simp [minuteTick]

@[simp] theorem minuteTick_state (s : State) : (minuteTick s).store.state = s.store.state := by simp [minuteTick]

@[simp] theorem timeSecond_settings (s : State) : (timeSecond s).store.settings = s.store.settings := by
  unfold timeSecond; split <;> simp

@[simp] theorem timeSecond_state (s : State) : (timeSecond s).store.state = s.store.state := by
  unfold timeSecond; split <;> simp

@[simp] theorem timeSecond_isLoading (s : State) : (timeSecond s).isLoading = s.isLoading :=
  isLoading_congr (by simp)

theorem settings_congr {s t : State} (h : t.store.settings = s.store.settings) : t.settings = s.settings := h

@[simp] theorem minuteTick_inSettings (s : State) : (minuteTick s).settings = s.settings := settings_congr (by simp)

@[simp] theorem timeSecond_inSettings (s : State) : (timeSecond s).settings = s.settings := settings_congr (by simp)

/-! ### The grant of the bus -/

@[simp] theorem Bus.startPass_roundCount (b : Bus) (l : Link) (rest : List Link) :
    (b.startPass l rest).roundCount = b.roundCount := by unfold Bus.startPass; split <;> rfl

@[simp] theorem Bus.select_roundCount (t : Settings) (z : PerZone ZoneRecord) (q : List Sensor) (b : Bus) :
    (b.select t z q).roundCount = b.roundCount := by
  induction q with
  | nil => unfold Bus.select; split <;> simp
  | cons n ns ih =>
    unfold Bus.select
    split
    · split
      · exact ih
      · rfl
    · split
      · simp
      · split
        · exact ih
        · rfl

@[simp] theorem Bus.grant_roundCount (b : Bus) (t : Settings) (z : PerZone ZoneRecord) :
    (b.grant t z).roundCount = b.roundCount := by unfold Bus.grant; split <;> simp

@[simp] theorem scanRound_roundCount (s : State) : (scanRound s).bus.roundCount = 0 := by
  unfold scanRound grant setBus; dsimp only; split <;> simp

/-! ### Ends of a procedure by a cause -/

theorem endGiven_congr {s t : State} (h1 : t.runner = s.runner) (h2 : t.store = s.store) (o : ProcedureOutcome) :
    endGiven t o = endGiven s o := by funext l k; simp [endGiven, h1, State.settings, h2]

theorem endedRunner_congr {s t : State} (h1 : t.runner = s.runner) (h2 : t.time = s.time) (o : ProcedureOutcome)
    (r : PerSide (Option Nat)) : endedRunner t o r = endedRunner s o r := by simp [endedRunner, h1, h2]

theorem Told.tellFan (s : State) (st : FanState) :
    Told s (tellFan s st) (if st.faulted then endBodies s.runner.procedure .abortedFan else [])
      (fun l k => st.faulted && endGiven s .abortedFan l k) := by
  unfold Machine.tellFan abortProcedure
  split
  · rename_i h; simpa [h] using Told.finishProcedure s .abortedFan _
  · rename_i h; simpa [h] using Told.refl s

theorem tellFan_runner (s : State) (st : FanState) :
    (tellFan s st).runner = if st.faulted then endedRunner s .abortedFan ⟨none, none⟩ else s.runner := by
  unfold tellFan abortProcedure
  split
  · exact finishProcedure_runner ..
  · rfl

theorem Told.reportProbe (s : State) (n : ProbeName) (r : Bool) :
    Told s (reportProbe s n r) [.probe n r] (byMap s [.probeFault]) :=
  ((Told.raise s .probeFault rfl).trans (Told.writeLog _ _)).mono rfl fun l k _ => by simp

/-- What a change of a fan's state tells (R60, R151). -/
theorem Told.fanChanged (s : State) (f : Side) (old new : FanState) (h : old ≠ new) :
    Told s (fanChanged s f old new)
      ((if fanLogged old new then [.fan f new] else []) ++
        if new.faulted then endBodies s.runner.procedure .abortedFan else [])
      (fun l k => byMap s (if fanRaises old new then [.fanFault] else []) l k ||
        (new.faulted && endGiven s .abortedFan l k)) := by
  unfold Machine.fanChanged
  rw [if_neg h]
  dsimp only
  have a : Told s (if fanLogged old new then Machine.writeLog s (.fan f new) else s)
      (if fanLogged old new then [.fan f new] else []) (fun _ _ => false) := by
    split
    · exact Told.writeLog ..
    · exact Told.refl s
  generalize hs1 : (if fanLogged old new then Machine.writeLog s (.fan f new) else s) = s1 at a
  have e1 : s1.runner = s.runner ∧ s1.store = s.store := by subst hs1; split <;> exact ⟨rfl, rfl⟩
  have b : Told s1 (if fanRaises old new then Machine.raise s1 .fanFault else s1) []
      (byMap s (if fanRaises old new then [.fanFault] else [])) := by
    split
    · rw [← byMap_congr e1.2]; exact Told.raise s1 .fanFault rfl
    · exact (Told.refl s1).mono rfl fun l k _ => rfl
  generalize hs2 : (if fanRaises old new then Machine.raise s1 .fanFault else s1) = s2 at b
  have e2 : s2.runner = s.runner ∧ s2.store = s.store := by subst hs2; split <;> exact e1
  have c := Told.tellFan s2 new
  rw [e2.1, endGiven_congr e2.1 e2.2] at c
  exact ((a.trans (b.trans c)).congr rfl rfl rfl rfl (by simp [notice]) (by simp [notice]) (by simp [notice])
    (by simp [notice])).mono (by simp) fun l k _ => by simp

theorem fanChanged_runner (s : State) (f : Side) (old new : FanState) (h : old ≠ new) :
    (fanChanged s f old new).runner =
      if new.faulted then endedRunner s .abortedFan ⟨none, none⟩ else s.runner := by
  unfold fanChanged
  rw [if_neg h]
  simp only [notice_runner, tellFan_runner]
  split
  · apply endedRunner_congr <;> (repeat' split) <;> rfl
  · (repeat' split) <;> rfl

theorem fanChanged_resolved (s : State) (f : Side) (old new : FanState) (h : old ≠ new)
    (hl : s.isLoading = false) : Resolved (fanChanged s f old new) := by
  unfold fanChanged
  rw [if_neg h]
  apply Resolved.notice
  rw [← hl]
  apply isLoading_congr
  rw [tellFan_store]
  (repeat' split) <;> rfl

/-- What a fan's record handed back tells (R48, R60, R151). -/
theorem Told.handFan (s : State) (f : Side) (new old : FanRecord) (ho : s.fans.get f = old) :
    Told s (handFan s f new)
      ((if old.probeFault = new.probeFault then [] else [.probe (.flow f) old.probeFault]) ++
        if old.state = new.state then []
        else
          (if fanLogged old.state new.state then [.fan f new.state] else []) ++
            if new.state.faulted then endBodies s.runner.procedure .abortedFan else [])
      (fun l k => byMap s (if old.probeFault = new.probeFault then [] else [.probeFault]) l k ||
        (!decide (old.state = new.state) &&
          (byMap s (if fanRaises old.state new.state then [.fanFault] else []) l k ||
            (new.state.faulted && endGiven s .abortedFan l k)))) := by
  unfold Machine.handFan
  simp only [ho]
  generalize hs1 : ({ s with fans := s.fans.set f new } : State) = s1
  have e0 : Told s s1 [] fun _ _ => false := by subst hs1; exact Told.of_eq rfl rfl rfl rfl
  have e1 : s1.runner = s.runner ∧ s1.store = s.store := by subst hs1; exact ⟨rfl, rfl⟩
  have a : Told s1 (if old.probeFault = new.probeFault then s1 else Machine.reportProbe s1 (.flow f) old.probeFault)
      (if old.probeFault = new.probeFault then [] else [.probe (.flow f) old.probeFault])
      (byMap s (if old.probeFault = new.probeFault then [] else [.probeFault])) := by
    split
    · exact (Told.refl s1).mono rfl fun l k _ => rfl
    · rw [← byMap_congr e1.2]; exact Told.reportProbe ..
  generalize hs2 : (if old.probeFault = new.probeFault then s1
    else Machine.reportProbe s1 (.flow f) old.probeFault) = s2 at a
  have e2 : s2.runner = s.runner ∧ s2.store = s.store := by subst hs2; split <;> exact e1
  by_cases h : old.state = new.state
  · have : Machine.fanChanged s2 f old.state new.state = s2 := by unfold Machine.fanChanged; rw [if_pos h]
    rw [this]
    exact (e0.trans a).mono (by simp [h]) fun l k _ => by simp [h]
  · have c := Told.fanChanged s2 f _ _ h
    rw [e2.1, endGiven_congr e2.1 e2.2, byMap_congr e2.2] at c
    exact (e0.trans (a.trans c)).mono (by simp [h]) fun l k _ => by simp [h]

theorem handFan_runner (s : State) (f : Side) (new : FanRecord) :
    (handFan s f new).runner =
      if (s.fans.get f).state ≠ new.state ∧ new.state.faulted = true then
        endedRunner s .abortedFan ⟨none, none⟩ else s.runner := by
  unfold handFan
  dsimp only
  generalize hs2 : (if (s.fans.get f).probeFault = new.probeFault then { s with fans := s.fans.set f new }
    else reportProbe { s with fans := s.fans.set f new } (.flow f) (s.fans.get f).probeFault) = s2
  have e2 : s2.runner = s.runner ∧ s2.time = s.time := by subst hs2; split <;> exact ⟨rfl, rfl⟩
  by_cases h : (s.fans.get f).state = new.state
  · unfold fanChanged
    rw [if_pos h, if_neg (by simp [h]), e2.1]
  · rw [fanChanged_runner _ _ _ _ h, endedRunner_congr e2.1 e2.2, e2.1]
    by_cases hf : new.state.faulted = true <;> simp [h, hf]

theorem handFan_resolved (s : State) (f : Side) (new : FanRecord) (h : (s.fans.get f).state ≠ new.state)
    (hl : s.isLoading = false) : Resolved (handFan s f new) := by
  unfold handFan
  dsimp only
  refine fanChanged_resolved _ _ _ _ h ?_
  rw [← hl]
  apply isLoading_congr
  split <;> rfl

/-- With the state kept a fan's record changes the record alone, and its probe's report. -/
theorem handFan_still (s : State) (f : Side) (new : FanRecord) (h : (s.fans.get f).state = new.state) :
    handFan s f new =
      if (s.fans.get f).probeFault = new.probeFault then { s with fans := s.fans.set f new }
      else reportProbe { s with fans := s.fans.set f new } (.flow f) (s.fans.get f).probeFault := by
  unfold handFan fanChanged
  dsimp only
  rw [if_pos h]

@[simp] theorem handFan_fans (s : State) (f : Side) (x : FanRecord) : (handFan s f x).fans = s.fans.set f x := by
  unfold handFan; dsimp only; rw [fanChanged_fans]; split <;> rfl

/-- What a fan's record handed back can change. -/
theorem handFan_frame (s : State) (f : Side) (x : FanRecord) :
    handFan s f x = { s with
      fans := (handFan s f x).fans, runner := (handFan s f x).runner, op := (handFan s f x).op,
      damper := (handFan s f x).damper, links := (handFan s f x).links, log := (handFan s f x).log } := by
  apply State.eq_of_fields <;> simp

/-! ### Probes -/

/-- What an airstream probe's record handed back tells (R65). -/
theorem Told.handAirProbe (s : State) (n : AirProbe) (new : ProbeRecord) :
    Told s (handAirProbe s n new)
      (if (s.frost.probes.get n).isFaulted = new.isFaulted then []
       else [.probe (.air n) (s.frost.probes.get n).isFaulted])
      (byMap s (if (s.frost.probes.get n).isFaulted = new.isFaulted then [] else [.probeFault])) := by
  unfold Machine.handAirProbe
  dsimp only
  split
  · exact Told.of_eq rfl rfl rfl rfl
  · exact (Told.reportProbe { s with frost := { s.frost with probes := s.frost.probes.set n new } } _ _).congr
      rfl rfl rfl rfl rfl rfl rfl rfl

theorem handAirProbe_frost (s : State) (n : AirProbe) (new : ProbeRecord) :
    (handAirProbe s n new).frost = { s.frost with probes := s.frost.probes.set n new } := by
  unfold handAirProbe; dsimp only; split <;> rfl

/-- What a filter probe's record handed back tells (R136). -/
theorem Told.handFilterProbe (s : State) (f : Side) (new : FilterRecord) :
    Told s (handFilterProbe s f new)
      (if (s.filters.records.get f).probeFault = new.probeFault then []
       else [.probe (.filter f) (s.filters.records.get f).probeFault])
      (byMap s (if (s.filters.records.get f).probeFault = new.probeFault then [] else [.probeFault])) := by
  unfold Machine.handFilterProbe
  dsimp only
  split
  · exact Told.of_eq rfl rfl rfl rfl
  · exact (Told.reportProbe (setFilter s f new) _ _).congr rfl rfl rfl rfl rfl rfl rfl rfl

theorem handFilterProbe_filters (s : State) (f : Side) (new : FilterRecord) :
    (handFilterProbe s f new).filters = { s.filters with records := s.filters.records.set f new } := by
  unfold handFilterProbe; dsimp only; split <;> rfl

/-! ### The control step -/

/-- The flow conversion of a side at a control step. -/
def flowInput (i : ControlInputs) : Side → Conversion
  | .supply => i.supplyFlow
  | .extract => i.extractFlow

/-- The filter conversion of a side at a control step. -/
def filterInput (i : ControlInputs) : Side → Conversion
  | .supply => i.supplyFilter
  | .extract => i.extractFilter

/-- The conversion of an airstream probe at a control step. -/
def airInput (i : ControlInputs) : AirProbe → Int
  | .oda => i.oda
  | .sup => i.sup
  | .eta => i.eta
  | .eha => i.eha

/-- The target of a side in an operating point. -/
def OperatingPoint.target (o : OperatingPoint) : Side → Nat
  | .supply => o.s
  | .extract => o.e

/-- Each fan's record after the fan block's control step (R49). -/
theorem fansStep_fans (s : State) (i : ControlInputs) (f : Side) :
    (fansStep s i.supplyFlow i.extractFlow).fans.get f =
      (s.fans.get f).step s.settings (s.settings.nat (ringKey f)) (s.op.target f) (flowInput i f) := by
  have e : (fanStep s .supply s.op.s i.supplyFlow).settings = s.settings := settings_congr (by simp)
  cases f
  · simp only [fansStep, fanStep, handFan_fans, PerSide.get_set]; rfl
  · simp only [fansStep]
    rw [fanStep, handFan_fans, PerSide.get_set, if_pos rfl, e, fanStep, handFan_fans, PerSide.get_set,
      if_neg (by decide)]
    rfl

/-- Each fan's record after a control step (R49). -/
theorem controlStep_fans (s : State) (i : ControlInputs) (f : Side) :
    (controlStep s i).fans.get f =
      (s.fans.get f).step s.settings (s.settings.nat (ringKey f)) (s.op.target f) (flowInput i f) := by
  rw [← fansStep_fans]; simp [controlStep]

@[simp] theorem judgeTruths_record (s : State) : (judgeTruths s).frost.record = s.frost.record := by
  unfold judgeTruths; dsimp only; split <;> rfl

@[simp] theorem judgeTruths_probes (s : State) : (judgeTruths s).frost.probes = s.frost.probes := by
  unfold judgeTruths; dsimp only; split <;> rfl

@[simp] theorem overheat_probes (s : State) : (overheat s).frost.probes = s.frost.probes := by
  unfold overheat; split <;> rfl

@[simp] theorem interlock_probes (s : State) : (interlock s).frost.probes = s.frost.probes := rfl

@[simp] theorem readAirProbe_record (s : State) (n : AirProbe) (v : Int) :
    (readAirProbe s n v).frost.record = s.frost.record := by rw [readAirProbe, handAirProbe_frost]

theorem readAirProbe_probes (s : State) (n : AirProbe) (v : Int) (m : AirProbe) :
    (readAirProbe s n v).frost.probes.get m =
      if m = n then (s.frost.probes.get n).read v else s.frost.probes.get m := by
  rw [readAirProbe, handAirProbe_frost, PerProbe.get_set]

/-- Each airstream probe after the frost guard's control step (R64, R65). -/
theorem frostControl_probes (s : State) (i : ControlInputs) (n : AirProbe) :
    (frostControl s i).frost.probes.get n = (s.frost.probes.get n).read (airInput i n) := by
  simp only [frostControl, overheat_probes, interlock_probes, judgeTruths_probes]
  cases n <;> simp [readAirProbe_probes, airInput]

theorem controlStep_probes (s : State) (i : ControlInputs) (n : AirProbe) :
    (controlStep s i).frost.probes.get n = (s.frost.probes.get n).read (airInput i n) := by
  simp only [controlStep, filtersControl_frost, frostControl_probes]
  simp [fansStep]

/-- Each filter's record after a control step (R136). -/
theorem controlStep_filters (s : State) (i : ControlInputs) (f : Side) :
    (controlStep s i).filters.records.get f = (s.filters.records.get f).judgeProbe (filterInput i f) := by
  cases f <;> simp [controlStep, filtersControl, readFilterProbe, handFilterProbe_filters, filterInput]

end Sys2Proof.Machine
end

