-- ==== Sys2Proof/Laws/Fans.lean ====
section
/-! SUPPORT. A fan's control step taken apart: what its measurements leave, and what the action of its state keeps
of them. -/

namespace Sys2Proof.Machine

/-- A fan's record once its target is latched and its speed and flow are measured (R46 to R49). -/
def FanRecord.probed (x : FanRecord) (k w : Nat) (c : Conversion) : FanRecord :=
  ({ x with target := w }.count).judgeProbe k c

theorem FanRecord.probed_keeps (x : FanRecord) (k w : Nat) (c : Conversion) :
    (x.probed k w c).target = w ∧ (x.probed k w c).speed = min (x.pulses * 30) 9990 ∧
      (x.probed k w c).pulses = 0 ∧ (x.probed k w c).band = x.band ∧ (x.probed k w c).state = x.state ∧
      (x.probed k w c).phase = x.phase ∧ (x.probed k w c).duty = x.duty ∧
      (x.probed k w c).lowSpeed = x.lowSpeed ∧ (x.probed k w c).run = x.run ∧
      (x.probed k w c).attempts = x.attempts := by
  unfold FanRecord.probed FanRecord.judgeProbe FanRecord.loseProbe FanRecord.regainProbe FanRecord.count
  (repeat' split) <;> exact ⟨rfl, rfl, rfl, rfl, rfl, rfl, rfl, rfl, rfl, rfl⟩

theorem FanRecord.runStep_keeps (x : FanRecord) (t : Settings) :
    (x.runStep t).target = x.target ∧ (x.runStep t).speed = x.speed ∧ (x.runStep t).pulses = x.pulses ∧
      (x.runStep t).flow = x.flow ∧ (x.runStep t).probeFault = x.probeFault ∧
      (x.runStep t).probeCount = x.probeCount ∧ (x.runStep t).band = x.band := by
  unfold FanRecord.runStep; split <;> exact ⟨rfl, rfl, rfl, rfl, rfl, rfl, rfl⟩

/-- The action of a state leaves the measurements as they are (R49). -/
theorem FanRecord.act_keeps (x : FanRecord) (t : Settings) :
    (x.act t).target = x.target ∧ (x.act t).speed = x.speed ∧ (x.act t).pulses = x.pulses ∧
      (x.act t).flow = x.flow ∧ (x.act t).probeFault = x.probeFault ∧ (x.act t).probeCount = x.probeCount ∧
      (x.act t).band = x.band := by
  unfold FanRecord.act FanRecord.endRetry
  (repeat' split) <;> first | exact ⟨rfl, rfl, rfl, rfl, rfl, rfl, rfl⟩ | exact FanRecord.runStep_keeps _ _

theorem FanRecord.judgeShortfall_keeps (x : FanRecord) (t : Settings) :
    x.judgeShortfall t =
      { x with
        shortfall := (x.judgeShortfall t).shortfall, shortfallCount := (x.judgeShortfall t).shortfallCount } := by
  unfold FanRecord.judgeShortfall FanRecord.noShortfall
  (repeat' split) <;> rfl

/-- A control step is the action of the state on the measured record, with the band and the shortfall judged after
it (R49). -/
theorem FanRecord.step_shape (x : FanRecord) (t : Settings) (k w : Nat) (c : Conversion) :
    ∃ u v, x.step t k w c =
      { (x.probed k w c).act t with
        shortfall := u, shortfallCount := v
        band := if (x.probed k w c).probeFault then x.band else bandOf w (x.probed k w c).flow } := by
  have e : x.step t k w c = (((x.probed k w c).act t).judgeBand).judgeShortfall t := rfl
  rw [e, FanRecord.judgeShortfall_keeps]
  generalize (((x.probed k w c).act t).judgeBand).judgeShortfall t = z
  refine ⟨z.shortfall, z.shortfallCount, ?_⟩
  obtain ⟨target, -, -, flow, fault, -, band⟩ := FanRecord.act_keeps (x.probed k w c) t
  obtain ⟨latched, -, -, held, -⟩ := FanRecord.probed_keeps x k w c
  simp only [FanRecord.judgeBand, target, flow, fault, band, latched, held]

/-- The whole square root of R46: the largest number up to the bound whose square does not exceed it. -/
theorem sqrtUpTo_spec (x n : Nat) :
    sqrtUpTo x n * sqrtUpTo x n ≤ x ∧ (x < (n + 1) * (n + 1) → x < (sqrtUpTo x n + 1) * (sqrtUpTo x n + 1)) := by
  induction n with
  | zero => simp [sqrtUpTo]
  | succ n ih =>
    unfold sqrtUpTo; split
    · rename_i h; exact ⟨h, fun h => h⟩
    · rename_i h; exact ⟨ih.1, fun _ => ih.2 (by omega)⟩

end Sys2Proof.Machine
end

