-- ==== Sys2Proof/Laws/Frost.lean ====
section
/-! SUPPORT. The frost guard's moves, each said once: what a change of stage tells the log, the links and the
procedure runner, and what a move between frost steps leaves. -/

namespace Sys2Proof.Machine

theorem tellStage_eq (s : State) (g : Stage) :
    tellStage s g = if g.bars then abortProcedure s .abortedFrost else s := by cases g <;> rfl

theorem Told.tellStage (s : State) (g : Stage) :
    Told s (tellStage s g) (if g.bars then endBodies s.runner.procedure .abortedFrost else [])
      (fun l k => g.bars && endGiven s .abortedFrost l k) := by
  rw [tellStage_eq]
  cases h : g.bars
  · simpa using Told.refl s
  · simpa [abortProcedure] using Told.finishProcedure s .abortedFrost _

/-- What a change of stage tells (R74, R151). -/
theorem Told.stageChanged (s : State) (old new : Stage) (h : old ≠ new) :
    Told s (stageChanged s old new)
      (.frostStage old new s.frost.record.f ::
        if new.bars then endBodies s.runner.procedure .abortedFrost else [])
      (fun l k => byMap s (if new = .lockout then [.frostStage, .frostLockout] else [.frostStage]) l k ||
        (new.bars && endGiven s .abortedFrost l k)) := by
  unfold Machine.stageChanged
  rw [if_neg h]
  dsimp only
  have a := (Told.raise s .frostStage rfl).trans
    (Told.writeLog (Machine.raise s .frostStage) (.frostStage old new s.frost.record.f))
  generalize hs1 : Machine.writeLog (Machine.raise s .frostStage) (.frostStage old new s.frost.record.f) = s1 at *
  have e1 : s1.runner = s.runner ∧ s1.store = s.store := by subst hs1; exact ⟨rfl, rfl⟩
  have b : Told s1 (if new = .lockout then Machine.raise s1 .frostLockout else s1) []
      (byMap s (if new = .lockout then [.frostLockout] else [])) := by
    split
    · rw [← byMap_congr e1.2]; exact Told.raise s1 .frostLockout rfl
    · exact (Told.refl s1).mono rfl fun l k _ => rfl
  generalize hs2 : (if new = .lockout then Machine.raise s1 .frostLockout else s1) = s2 at *
  have e2 : s2.runner = s.runner ∧ s2.store = s.store := by subst hs2; split <;> exact e1
  have c := Told.tellStage s2 new
  rw [e2.1, endGiven_congr e2.1 e2.2] at c
  refine (a.trans (b.trans c)).mono (by simp) fun l k _ => ?_
  split
  · have := byMap_append s [.frostStage] [.frostLockout] l k
    simp only [List.cons_append, List.nil_append] at this
    rw [this]; simp [Bool.or_assoc]
  · simp

theorem stageChanged_runner (s : State) (old new : Stage) (h : old ≠ new) :
    (stageChanged s old new).runner =
      if new.bars then endedRunner s .abortedFrost ⟨none, none⟩ else s.runner := by
  unfold stageChanged
  rw [if_neg h]
  dsimp only
  rw [tellStage_eq]
  split
  · rename_i hb
    rw [abortProcedure, finishProcedure_runner]
    apply endedRunner_congr <;> split <;> rfl
  · split <;> rfl

/-- The end of a THAW reported (R79, R87). -/
theorem Told.thawEnded (s : State) (e : Option ThawEnd) :
    Told s (thawEnded s e) (match e with | none => [] | some x => [.thaw x.outcome x.seconds])
      (byMap s (match e with
        | none => []
        | some x => if x.outcome = .interrupted then [] else [.thawEnd])) := by
  unfold Machine.thawEnded
  cases e with
  | none => exact (Told.refl s).mono rfl fun l k _ => rfl
  | some x =>
    dsimp only
    split
    · exact (Told.writeLog s _).mono rfl fun l k _ => rfl
    · exact ((Told.raise s .thawEnd rfl).trans (Told.writeLog _ _)).mono rfl fun l k _ => by simp

@[simp] theorem applyFrostMove_frost (s : State) (m : FrostMove) :
    (applyFrostMove s m).frost = { s.frost with record := m.record } := by
  simp [applyFrostMove, setFrost]

/-- A move that changes the stage tells the end of the THAW first, and then the stage (R74, R79). -/
theorem Told.applyFrostMove (s : State) (m : FrostMove) (h : s.frost.record.stage ≠ m.record.stage) :
    Told s (applyFrostMove s m)
      ((match m.thawEnd with | none => [] | some x => [.thaw x.outcome x.seconds]) ++
        .frostStage s.frost.record.stage m.record.stage m.record.f ::
          if m.record.stage.bars then endBodies s.runner.procedure .abortedFrost else [])
      (fun l k => byMap s ((match m.thawEnd with
          | none => []
          | some x => if x.outcome = .interrupted then [] else [.thawEnd]) ++
            if m.record.stage = .lockout then [.frostStage, .frostLockout] else [.frostStage]) l k ||
        (m.record.stage.bars && endGiven s .abortedFrost l k)) := by
  unfold Machine.applyFrostMove
  have z : Told s (setFrost s m.record) [] fun _ _ => false := Told.of_eq rfl rfl rfl rfl
  have a := Told.thawEnded (setFrost s m.record) m.thawEnd
  have e : (Machine.thawEnded (setFrost s m.record) m.thawEnd).runner = s.runner ∧
      (Machine.thawEnded (setFrost s m.record) m.thawEnd).store = s.store ∧
      (Machine.thawEnded (setFrost s m.record) m.thawEnd).frost.record.f = m.record.f := by
    unfold Machine.thawEnded
    split
    · exact ⟨rfl, rfl, rfl⟩
    · split <;> exact ⟨rfl, rfl, rfl⟩
  generalize Machine.thawEnded (setFrost s m.record) m.thawEnd = u at *
  have b := Told.stageChanged u _ _ h
  rw [e.2.2, e.1, endGiven_congr e.1 e.2.1, byMap_congr e.2.1] at b
  rw [byMap_congr (s := s) (t := setFrost s m.record) rfl] at a
  exact (z.trans (a.trans b)).mono (by simp) fun l k _ => by rw [byMap_append]; simp [Bool.or_assoc]

theorem applyFrostMove_runner (s : State) (m : FrostMove) (h : s.frost.record.stage ≠ m.record.stage) :
    (applyFrostMove s m).runner =
      if m.record.stage.bars then endedRunner s .abortedFrost ⟨none, none⟩ else s.runner := by
  unfold applyFrostMove
  rw [stageChanged_runner _ _ _ h]
  have e : (thawEnded (setFrost s m.record) m.thawEnd).runner = s.runner ∧
      (thawEnded (setFrost s m.record) m.thawEnd).time = s.time := by
    unfold thawEnded
    split
    · exact ⟨rfl, rfl⟩
    · split <;> exact ⟨rfl, rfl⟩
  split
  · exact endedRunner_congr e.1 e.2 _ _
  · exact e.1

/-- With the stage kept and no THAW ended a move changes the record alone. -/
theorem applyFrostMove_still (s : State) (m : FrostMove) (h : s.frost.record.stage = m.record.stage)
    (ht : m.thawEnd = none) : applyFrostMove s m = setFrost s m.record := by
  unfold applyFrostMove stageChanged thawEnded
  rw [ht, if_pos h]

/-- A move that changes the stage, taken between frost steps, ends in a notice (R74). -/
theorem takeFrostMove_notice (s : State) (m : FrostMove) (h : s.frost.record.stage ≠ m.record.stage) :
    takeFrostMove s m = notice (applyFrostMove s m) := by
  unfold takeFrostMove
  dsimp only
  rw [if_pos]
  simp [frostShapeChanged, h]

theorem takeFrostMove_frost (s : State) (m : FrostMove) :
    (takeFrostMove s m).frost = { s.frost with record := m.record } := by
  unfold takeFrostMove; dsimp only; split <;> simp

/-- What a frost step leaves in the frost guard (R67, R83). -/
theorem frostStep_frost (s : State) :
    (frostStep s).frost =
      { s.frost with
        record := frostDriven s, heaterOn := decide (0 < (frostDriven s).duty), steps := s.frost.steps + 1 } := by
  unfold frostStep; dsimp only; split <;> simp

theorem healthy_of_good {p : ProbeRecord} {v : Int} (h : p.status = .good v) : p.healthy? = some v := by
  simp [ProbeRecord.healthy?, h]

theorem healthy_of_notGood {p : ProbeRecord} (h : ∀ v, p.status ≠ .good v) : p.healthy? = none := by
  unfold ProbeRecord.healthy?
  split
  · rename_i v e; exact absurd e (h v)
  · rfl

theorem endBodies_length (p : Procedure) (o : ProcedureOutcome) : (endBodies p o).length ≤ 1 := by
  unfold endBodies; split <;> simp

end Sys2Proof.Machine
end

