-- ==== Sys2Proof/Laws/Requests.lean ====
section
/-! SUPPORT. How a request on a link that is ready for one comes to its owner's answer, and what the reply then
leaves: said once for every request (R157 to R159). -/

namespace Sys2Proof.Machine

/-! ### The owner's answer -/

/-- On a ready link a request whose class the link has is answered by its owner (R157, R159). -/
theorem takeRequest_ready {s : State} {l : Link} (h : Ready s l) (tag : Byte) (r : Request)
    (hc : r.serviceClass = true → l = .service) : takeRequest s l tag r = reply l tag r.kind (answer s l r) := by
  unfold takeRequest serve LinkRecord.canReceive
  rw [h.2, h.1]
  simp only [if_true, Bool.false_eq_true, if_false]
  rw [if_neg]
  rintro ⟨a, b⟩; exact b (hc a)

/-- A link that can receive a frame takes its request, whatever comes of it (R157). -/
theorem takeRequest_listening {s : State} {l : Link} (h : (s.links.get l).state = .listening) (tag : Byte)
    (r : Request) : takeRequest s l tag r = reply l tag r.kind (serve s l r) := by
  unfold takeRequest LinkRecord.canReceive; rw [h]; rfl

/-! ### The reply -/

theorem reply_plain (s : State) (l : Link) (tag kind : Byte) (c : ResultCode) :
    reply l tag kind (Answer.plain s c) = onlyReply s l tag kind c [] := rfl

theorem reply_ok (s : State) (l : Link) (tag kind : Byte) (p : List Byte) :
    reply l tag kind (Answer.ok s p) = onlyReply s l tag kind .ok p := rfl

@[simp] theorem Answer.ok_state (s : State) (p : List Byte) : (Answer.ok s p).state = s := rfl
@[simp] theorem Answer.plain_state (s : State) (c : ResultCode) : (Answer.plain s c).state = s := rfl

theorem reply_links (l m : Link) (tag kind : Byte) (a : Answer) :
    (reply l tag kind a).links.get m =
      if m = l then
        { a.state.links.get l with
          state := .replying
          frame := []
          reply := some { tag := tag, kind := kind, result := a.result, payload := a.payload } }
      else a.state.links.get m := by simp [reply, setLink]

theorem reply_replies (l : Link) (tag kind : Byte) (a : Answer) :
    Replies (reply l tag kind a) l tag kind a.result a.payload := by unfold Replies; rw [reply_links]; simp

/-- A reply gives no kind. -/
theorem reply_given {s : State} {l : Link} {tag kind : Byte} {a : Answer} {g : Link → EventKind → Bool}
    (h : Given s a.state g) : Given s (reply l tag kind a) g := by
  intro m k hk
  rw [reply_links, ← h m k hk]
  split
  · rename_i e; subst e; rfl
  · rfl

/-- A reply touches no other link. -/
theorem reply_othersKept {s : State} {l : Link} {tag kind : Byte} {a : Answer} (h : othersKept s a.state l) :
    othersKept s (reply l tag kind a) l := by
  intro m hm; rw [reply_links, if_neg hm]; exact h m hm

/-- Links of the same records are the others kept. -/
theorem othersKept_of_eq {s t : State} (l : Link) (h : t.links = s.links) : othersKept s t l := by
  intro m _; rw [h]

theorem Given.of_links {s t : State} (h : t.links = s.links) : Given s t fun _ _ => false :=
  (Delivered.of_links h).given

/-- A kind given by the map is pending on every link the map gives it (R162). -/
theorem Given.byMap {s t : State} {ks : List EventKind} (h : Given s t (Machine.byMap s ks)) {k : EventKind}
    (hk : k ∈ ks) (hn : k ≠ .logAlmostFull) :
    ∀ l, hasKind (s.settings.eventMap.get l) k = true → hasKind (t.links.get l).pending k = true := by
  intro l hm; rw [h l k hn]; simp [Machine.byMap, hk, hm]

/-! ### The resolver's notice -/

@[simp] theorem notice_isLoading (s : State) : (notice s).isLoading = s.isLoading := rfl

theorem notice_op {u : State} (h : u.isLoading = false) : (notice u).op = resolve u := by simp [notice, h]

end Sys2Proof.Machine
end

