-- ==== Sys2Proof/Laws/Humidity.lean ====
section
/-! SUPPORT. What carrying out a zone's move does, said once: the zone's record, the table by the action, the
records and events, and the notice (R18 to R20, R124, R125). -/

namespace Sys2Proof.Machine

/-! ### Reports -/

/-- A sensor's report (R125). -/
theorem Told.reportSensor (s : State) (n : Sensor) (r : Bool) :
    Told s (reportSensor s n r) [.probe (.sensor n) r] (byMap s [.sensorStale]) :=
  ((Told.raise s .sensorStale rfl).trans (Told.writeLog _ _)).mono rfl fun l k _ => by simp

theorem Told.zoneRecords (n : Zone) (ah : Option Nat) (rs : List (ZoneState × ZoneCause)) (s : State) :
    Told s (rs.foldl (fun s r => Machine.writeLog s (.zone n r.1 ah r.2)) s)
      (rs.map fun r => LogBody.zone n r.1 ah r.2) fun _ _ => false := by
  induction rs generalizing s with
  | nil => exact Told.refl s
  | cons r rs ih =>
    exact ((Told.writeLog s _).trans (ih _)).mono rfl fun l k _ => by simp

/-- The changes of a zone's state reported (R124). -/
theorem Told.reportZone (s : State) (n : Zone) (ah : Option Nat) (rs : List (ZoneState × ZoneCause)) :
    Told s (reportZone s n ah rs) (rs.map fun r => LogBody.zone n r.1 ah r.2)
      (byMap s (if rs = [] then [] else [.zoneState])) := by
  unfold Machine.reportZone
  cases rs with
  | nil => exact Told.refl s
  | cons r rs =>
    exact ((Told.raise s .zoneState rfl).trans (Told.zoneRecords n ah (r :: rs) _)).mono rfl fun l k _ => by simp

/-! ### The table -/

/-- The table after what a zone asks of it, the entry's values clamped (R18 to R20). -/
def zoneTable (s : State) (n : Zone) : ZoneAction → DemandTable
  | .keep => s.table
  | .place =>
    s.table.place (zoneSlot n) (.zone n) (.raise (clampLevel (s.settings.nat (.zone n .boostLevel)))) none
      s.time.stamp
  | .standing => if s.table.isLive (zoneSlot n) then s.table.retime (zoneSlot n) none else s.table
  | .timed =>
    if s.table.isLive (zoneSlot n) then
      s.table.retime (zoneSlot n) (some (clampNat 1 1440 (s.settings.nat (.zone n .overrun))))
    else s.table
  | .remove => if s.table.isLive (zoneSlot n) then s.table.vacate (zoneSlot n) else s.table

theorem zoneAct_table (s : State) (n : Zone) (a : ZoneAction) : (zoneAct s n a).table = zoneTable s n a := by
  cases a <;> simp only [zoneAct, zoneTable, placeInternal, retimeInternal, removeInternal, Want.clamped,
    clampRemaining, Option.map] <;> (try split) <;> rfl

/-- What a zone asks of the table changes nothing, or ends in a notice (R18 to R20). -/
theorem zoneAct_cases (s : State) (n : Zone) (a : ZoneAction) :
    (zoneAct s n a = s ∧ (a = .keep ∨ a ≠ .place ∧ s.table.isLive (zoneSlot n) = false)) ∨
      (zoneAct s n a = notice { s with table := zoneTable s n a } ∧ a ≠ .keep) := by
  cases a <;> simp only [zoneAct, zoneTable, placeInternal, retimeInternal, removeInternal, Want.clamped,
    clampRemaining, Option.map] <;> (try split) <;> simp_all

/-! ### The move -/

/-- The records of a zone's move, its sensor's before its own (R124, R125). -/
def zoneBodies (n : Zone) (m : ZoneMove) : List LogBody :=
  (match m.sensor with
   | none => []
   | some r => [.probe (.sensor (.zone n)) r]) ++
    m.reports.map fun r => LogBody.zone n r.1 (m.record.last.map Sample.ah) r.2

/-- The kinds of a zone's move (R124, R125). -/
def zoneKinds (m : ZoneMove) : List EventKind :=
  (if m.sensor.isSome then [.sensorStale] else []) ++ if m.reports = [] then [] else [.zoneState]

theorem applyZoneMove_humidity (s : State) (n : Zone) (m : ZoneMove) :
    (applyZoneMove s n m).humidity = { s.humidity with zones := s.humidity.zones.set n m.record } := by
  unfold applyZoneMove; cases m.sensor <;> simp

theorem applyZoneMove_table (s : State) (n : Zone) (m : ZoneMove) :
    (applyZoneMove s n m).table = zoneTable s n m.action := by
  unfold applyZoneMove
  dsimp only
  rw [zoneAct_table]
  cases m.sensor <;> cases m.action <;> simp [zoneTable, State.settings]

/-- What a zone's move tells (R124, R125). -/
theorem Told.applyZoneMove (s : State) (n : Zone) (m : ZoneMove) :
    Told s (applyZoneMove s n m) (zoneBodies n m) (byMap s (zoneKinds m)) := by
  generalize hs1 : ({ s with humidity := { s.humidity with zones := s.humidity.zones.set n m.record } } : State) = s1
  have a : Told s s1 [] fun _ _ => false := by subst hs1; exact .of_eq rfl rfl rfl rfl
  generalize hs2 : (match m.sensor with
    | none => s1
    | some recovered => Machine.reportSensor s1 (.zone n) recovered) = s2
  have b : Told s1 s2 (match m.sensor with | none => [] | some r => [.probe (.sensor (.zone n)) r])
      (byMap s (if m.sensor.isSome then [.sensorStale] else [])) := by
    subst hs2
    cases m.sensor with
    | none => exact Told.refl s1
    | some r => have := Told.reportSensor s1 (.zone n) r; rw [byMap_congr a.2.2.2] at this; exact this
  have c := Told.reportZone s2 n (m.record.last.map Sample.ah) m.reports
  rw [byMap_congr (b.2.2.2.trans a.2.2.2)] at c
  have d := (a.trans (b.trans c)).congr (t' := Machine.applyZoneMove s n m) rfl rfl rfl rfl
    (by unfold Machine.applyZoneMove; subst hs2 hs1; cases m.sensor <;> simp)
    (by unfold Machine.applyZoneMove; subst hs2 hs1; cases m.sensor <;> simp)
    (by unfold Machine.applyZoneMove; subst hs2 hs1; cases m.sensor <;> simp)
    (by unfold Machine.applyZoneMove; subst hs2 hs1; cases m.sensor <;> simp)
  exact d.mono (by simp [zoneBodies]) fun l k _ => by simp [zoneKinds, byMap_append]

/-- A zone's move that changes the table notifies the resolver (R18 to R20). -/
theorem applyZoneMove_resolved (s : State) (n : Zone) (m : ZoneMove) (hl : s.isLoading = false)
    (h : Resolved s ∨ m.action = .place ∨ (m.action ≠ .keep ∧ s.table.isLive (zoneSlot n) = true)) :
    Resolved (applyZoneMove s n m) := by
  unfold applyZoneMove
  dsimp only
  generalize hs1 : reportZone (match m.sensor with
      | none => ({ s with humidity := { s.humidity with zones := s.humidity.zones.set n m.record } } : State)
      | some recovered =>
        reportSensor { s with humidity := { s.humidity with zones := s.humidity.zones.set n m.record } } (.zone n)
          recovered) n (m.record.last.map Sample.ah) m.reports = s1
  have hst : s1.store = s.store := by subst hs1; cases m.sensor <;> simp
  have htb : s1.table = s.table := by subst hs1; cases m.sensor <;> simp
  rcases zoneAct_cases s1 n m.action with ⟨e, h'⟩ | ⟨e, -⟩
  · rw [e]
    have hr : Resolved s := by
      rcases h with h | h | ⟨h1, h2⟩
      · exact h
      · rcases h' with h' | ⟨h', _⟩
        · rw [h] at h'; cases h'
        · exact absurd h h'
      · rcases h' with h' | ⟨_, h'⟩
        · exact absurd h' h1
        · rw [htb, h2] at h'; cases h'
    subst hs1
    refine hr.congr ?_ hst htb ?_ ?_ ?_ ?_ ?_ <;> cases m.sensor <;> simp
  · rw [e]
    refine Resolved.notice _ ?_
    rw [isLoading_congr (s := s) (by simp [hst])]; exact hl

/-- A zone's move touches nothing else. -/
theorem applyZoneMove_frame (s : State) (n : Zone) (m : ZoneMove) :
    applyZoneMove s n m =
      { s with
        humidity := (applyZoneMove s n m).humidity
        table := (applyZoneMove s n m).table
        links := (applyZoneMove s n m).links
        log := (applyZoneMove s n m).log
        op := (applyZoneMove s n m).op
        damper := (applyZoneMove s n m).damper } := by
  apply State.eq_of_fields <;> simp

/-- Entries of other slots stay, in their order. -/
theorem zoneTable_others (s : State) (n : Zone) (a : ZoneAction) :
    (zoneTable s n a).entries.filter (fun e => !(e.slot == zoneSlot n))
      = s.table.entries.filter (fun e => !(e.slot == zoneSlot n)) := by
  have hf : ∀ (es : List Entry) (r : Option Nat), (es.map fun e =>
      if e.slot = zoneSlot n then { e with remaining := r } else e).filter (fun e => !(e.slot == zoneSlot n))
        = es.filter (fun e => !(e.slot == zoneSlot n)) := by
    intro es r
    induction es with
    | nil => rfl
    | cons e es ih =>
      by_cases h : e.slot = zoneSlot n
      · simp [h, ih]
      · simp [h, ih]
  cases a <;> simp only [zoneTable]
  · simp [DemandTable.place, DemandTable.vacate, List.filter_append]
  · split
    · exact hf ..
    · rfl
  · split
    · exact hf ..
    · rfl
  · split
    · simp [DemandTable.vacate]
    · rfl

end Sys2Proof.Machine
end

