-- ==== Sys2Proof/Laws/Settings.lean ====
section
/-! SUPPORT. The settings table under the clamps of a load, each said once: what every key holds after the clamp to
the ranges and after the clamp against the related keys, and that the result is in range and relation. -/

namespace Sys2Proof.Machine

theorem allKeys_nodup : allKeys.Nodup := by decide

theorem mem_allKeys (k : Key) : k ∈ allKeys := by
  cases k with
  | zone z k => cases z <;> cases k <;> decide
  | _ => decide

/-- The table places its keys in the order of the image (R193). -/
theorem keyPlace_of_allKeys : ∀ i : Fin 63, ∀ k, allKeys[i.val]? = some k → (keyPlace k).val = i.val := by decide

theorem clampToRange_bounds (k : Key) (v : Int) :
    (keyRange k).1 ≤ clampToRange k v ∧ clampToRange k v ≤ (keyRange k).2 := by
  have ends : (keyRange k).1 ≤ (keyRange k).2 := by
    cases k <;> simp [keyRange]
    rename_i z k; cases k <;> simp [zoneKeyRange]
  unfold clampToRange clampInt; omega

/-! ### Keys put one after the other -/

/-- Each key of a list replaced by a value computed from the table so far. -/
theorem foldl_put_groups (l : List Key) (f : Settings → Key → Int) (t : Settings) :
    (l.foldl (fun t k => t.put k (f t k)) t).thresholds = t.thresholds ∧
      (l.foldl (fun t k => t.put k (f t k)) t).eventMap = t.eventMap := by
  induction l generalizing t with
  | nil => exact ⟨rfl, rfl⟩
  | cons a l ih => exact ih _

theorem foldl_put_other (f : Settings → Key → Int) (k : Key) (l : List Key) (t : Settings) (h : k ∉ l) :
    (l.foldl (fun t k => t.put k (f t k)) t).get k = t.get k := by
  induction l generalizing t with
  | nil => rfl
  | cons a l ih =>
    simp only [List.mem_cons, not_or] at h
    rw [List.foldl, ih _ h.2, Settings.get_put, if_neg h.1]

theorem foldl_put_own (g : Key → Int → Int) (k : Key) (l : List Key) (t : Settings) (distinct : l.Nodup)
    (h : k ∈ l) : (l.foldl (fun t k => t.put k (g k (t.get k))) t).get k = g k (t.get k) := by
  induction l generalizing t with
  | nil => cases h
  | cons a l ih =>
    rw [List.nodup_cons] at distinct
    rw [List.foldl]
    by_cases later : k ∈ l
    · rw [ih _ distinct.2 later, Settings.get_put, if_neg]
      rintro rfl; exact distinct.1 later
    · obtain rfl : k = a := by simpa [later] using h
      rw [foldl_put_other (fun t k => g k (t.get k)) k l _ later, Settings.get_put, if_pos rfl]

/-! ### The two clamps of a load (R183) -/

@[simp] theorem rangeAll_get (t : Settings) (k : Key) : (rangeAll t).get k = clampToRange k (t.get k) :=
  foldl_put_own clampToRange k _ t allKeys_nodup (mem_allKeys k)

@[simp] theorem rangeAll_thresholds (t : Settings) : (rangeAll t).thresholds = t.thresholds :=
  (foldl_put_groups _ (fun t k => clampToRange k (t.get k)) t).1

@[simp] theorem rangeAll_eventMap (t : Settings) : (rangeAll t).eventMap = t.eventMap :=
  (foldl_put_groups _ (fun t k => clampToRange k (t.get k)) t).2

@[simp] theorem relateAll_thresholds (t : Settings) : (relateAll t).thresholds = t.thresholds :=
  (foldl_put_groups _ (fun t k => clampToRelated t k (t.get k)) t).1

@[simp] theorem relateAll_eventMap (t : Settings) : (relateAll t).eventMap = t.eventMap :=
  (foldl_put_groups _ (fun t k => clampToRelated t k (t.get k)) t).2

/-- A key without related keys keeps its value. -/
theorem relateAll_other (t : Settings) (k : Key) (h : k ∉ relatedKeys) : (relateAll t).get k = t.get k :=
  foldl_put_other (fun t k => clampToRelated t k (t.get k)) k _ t h

@[simp] theorem imageSettings_thresholds (bs : List Byte) : (imageSettings bs).thresholds = imageThresholds bs := by
  simp [imageSettings]

@[simp] theorem imageSettings_eventMap (bs : List Byte) : (imageSettings bs).eventMap = imageEventMap bs := by
  simp [imageSettings]

end Sys2Proof.Machine
end

