-- ==== Sys2Proof/Tests/Slice0.lean ====
section
/-! SUPPORT. Tests of the model on small states: the smoke tests of `wellFormed`, the worked cases of the manual,
and for each statement with hypotheses a state and operands that meet them. -/

namespace Sys2Proof.Machine.Tests

set_option maxRecDepth 20000
set_option Elab.async false

/-! ### Well-formed operands: each check refuses a term that is none -/

/-- A control step in still air with every probe good. -/
def stillAir : ControlInputs where
  supplyFlow := .reading 0
  extractFlow := .reading 0
  oda := 140
  sup := 200
  eta := 215
  eha := 100
  supplyFilter := .reading 600
  extractFilter := .reading 600

theorem test_wellFormed_controlStep : (Instr.controlStep stillAir).wellFormed = true := by decide

theorem test_illFormed_flowConversion :
    (Instr.controlStep { stillAir with supplyFlow := .reading 5001 }).wellFormed = false := by decide

theorem test_illFormed_filterConversion :
    (Instr.controlStep { stillAir with extractFilter := .reading 5001 }).wellFormed = false := by decide

theorem test_illFormed_flowProbeRecover : (Instr.flowProbeRecover .supply 5001).wellFormed = false := by decide

theorem test_illFormed_filterProbeRecover : (Instr.filterProbeRecover .extract 5001).wellFormed = false := by
  decide

theorem test_illFormed_tempProbeRecover :
    (Instr.tempProbeRecover .oda (-401)).wellFormed = false ∧
      (Instr.tempProbeRecover .oda 851).wellFormed = false ∧
      (Instr.tempProbeRecover .oda (-400)).wellFormed = true := by decide

theorem test_illFormed_knownKind :
    (Instr.unknownRequestKind .panel 0 0x13#8 []).wellFormed = false ∧
      (Instr.unknownRequestKind .panel 0 0x14#8 []).wellFormed = true := by decide

theorem test_illFormed_longPayload :
    (Instr.unknownRequestKind .panel 0 0x14#8 (List.replicate 49 0x00#8)).wellFormed = false := by decide

theorem test_illFormed_readBack :
    (Instr.imageWriteEnd true []).wellFormed = false ∧ (Instr.imageWriteEnd false []).wellFormed = true := by
  decide

/-- No row of the table gives bits. -/
theorem test_no_word_decodes : decodeTableWord 16 0xA502 = none := by decide

/-! ### The manual's worked values -/

/-- The CRC of the single byte 0x01 (section 11.1). -/
theorem test_crc8 : crc8 [0x01#8] = 0x07#8 := by decide

/-- A STATUS request with tag 0x00 (section 11.1). -/
theorem test_statusFrame :
    frameBytes 0x00#8 0x01#8 [] = [0xA5#8, 0x02#8, 0x00#8, 0x01#8, 0xD1#8] := by decide

/-- The example of R46. -/
theorem test_measuredFlow :
    flowOf 1000 1000 = 316 ∧ flowOf 1200 1000 = 379 ∧ flowOf 2000 5000 = 1200 := by decide +kernel

/-- The first two worked cases of section 6.1.1. -/
theorem test_absoluteHumidity : 650 * satDensity 213 / 1000 = 1221 ∧ 800 * satDensity (-73) / 1000 = 218 := by
  decide

/-- The examples of R68, and the fall of R69 at 50. -/
theorem test_frostIndex :
    frostRise 10 (-25) (some 1221) = 5 ∧ frostRise 10 (-90) none = 10 ∧ frostFall 10 50 = 10 := by decide

/-- A fan that runs at a duty. -/
def runningFan (duty target q : Nat) : FanRecord :=
  { FanRecord.reset with state := .running, duty := duty, target := target, flow := q }

/-- The examples of R51: Δ is 19 at Q 262 and −15 at Q 330. -/
theorem test_closedLoop :
    closedLoopDuty defaultSettings (runningFan 400 300 262) = 419 ∧
      closedLoopDuty defaultSettings (runningFan 400 300 330) = 385 := by decide +kernel

/-- The example of R52. -/
theorem test_openLoop : openLoopDuty defaultSettings (runningFan 150 300 0) = 405 := by decide +kernel

/-- The bands of R53 at their bounds. -/
theorem test_band :
    bandOf 300 270 = .inBand ∧ bandOf 300 269 = .below ∧ bandOf 300 330 = .inBand ∧ bandOf 300 331 = .above ∧
      bandOf 0 10 = .inBand := by decide

/-- The commit of section 7.9.3 takes a floor of 10 (R149). -/
theorem test_cleanReference : cleanReference [1, 2, 3, 4, 5, 6] = 10 := by decide

/-! ### States for the worked cases and the witnesses -/

/-- The state a command leaves. -/
def after (c : Instr) (s : State) : State :=
  match exec c s with
  | .next t => t
  | .fault _ => s
  | .refused _ => s

/-- A part whose load has ended with the default table, with its bus idle. -/
def ready : State := { State.reset with store := { Store.reset with state := .defaulted, changed := true } }

/-- A part with a fan record in place. -/
def withFan (f : Side) (x : FanRecord) (s : State) : State := { s with fans := s.fans.set f x }

/-- A part with a frost record in place. -/
def withFrost (g : FrostRecord) (s : State) : State := { s with frost := { s.frost with record := g } }

/-- A part with an airstream probe that reads good. -/
def withAir (n : AirProbe) (v : Int) (s : State) : State :=
  { s with frost := { s.frost with probes := s.frost.probes.set n { status := .good v, reads := 0 } } }

/-- A part with a filter record in place. -/
def withFilter (f : Side) (x : FilterRecord) (s : State) : State :=
  { s with filters := { s.filters with records := s.filters.records.set f x } }

/-- A part with a zone record in place. -/
def withZone (n : Zone) (z : ZoneRecord) (s : State) : State :=
  { s with humidity := { s.humidity with zones := s.humidity.zones.set n z } }

/-- An entry of a source that asks for a flow. -/
def entry (slot gen : Fin 16) (source : Source) (want : Want) : Entry :=
  { slot := slot, gen := gen, source := source, want := want, remaining := none,
    posted := { minutes := 0#32, unsynced := true } }

/-- A part with a demand table of these entries. -/
def withEntries (es : List Entry) (s : State) : State := { s with table := { s.table with entries := es } }

/-- A link of a part whose load has ended is ready to be asked when it is LISTENING. -/
theorem readyOf (s : State) (l : Link) (h : s.isLoading = false ∧ (s.links.get l).state = .listening) : Ready s l := h

/-! ### Worked cases on a state -/

/-- Section 2.5.2: UNBALANCE at r 300 with a wanted flow of 650, and then THAW. -/
theorem test_unbalanceTargets :
    let s := withEntries [entry 0 1 (.link .panel) (.raise 350), entry 1 1 (.link .heating) (.setback 200),
      entry 12 1 (.zone .z2) (.raise 650)] ready
    let u := resolve (withFrost { FrostRecord.reset with stage := .unbalance, r := 300 } s)
    let t := resolve (withFrost { FrostRecord.reset with stage := .thaw, r := 300 } s)
    u.w = 650 ∧ u.b = 200 ∧ u.s = 455 ∧ u.e = 605 ∧ t.s = 0 ∧ t.e = 150 := by decide +kernel

/-- Section 7.9.1: the filter step on a loading supply filter. -/
theorem test_filterStep :
    let kept : Persisted := { clean := some 650, volume := 180000, running := 0, age := 288000, changes := 0 }
    let x := { FilterRecord.reset with kept := kept, smoothed := some 1039, lastGood := some 823 }
    let y := (after .filterStep (withFan .supply (runningFan 500 352 352) (withFilter .supply x ready))
      ).filters.records.supply
    y.smoothed = some 1040 ∧ y.loading = 40 ∧ y.missing = 0 ∧ y.lifeUsed = 54 ∧ y.state = .loading := by
  decide +kernel

/-- Section 7.9.2: the first tick of the extract filter's volume. -/
theorem test_volumeTick :
    let kept : Persisted := { Persisted.reset with volume := 4000 }
    let y := (after .minuteTick (withFan .extract (runningFan 500 300 300)
      (withFilter .extract { FilterRecord.reset with kept := kept } ready))).filters.records.extract
    y.kept.volume = 4001 ∧ y.carry = 800 := by decide +kernel

/-- Section 1.10, step c: the duration is clamped and the level is absent. -/
theorem test_postBypass :
    ((after (.post .heating 0 2 999 2000) ready).links.heating.reply.map Reply.payload)
      = some [0x01#8, 0xFF#8, 0xFF#8, 0x05#8, 0xA0#8, 0x01#8] := by decide +kernel

/-! ### Witnesses: for each statement with hypotheses, a state and operands that meet them

Each theorem lists, clause by clause, the hypotheses of the statement it is named after. -/

/-- A part whose queue holds a minute tick. -/
def ticking : State := { ready with pending := [.minuteTick] }

theorem witness_StepTakesTheFrontCommand : ticking.pending = .minuteTick :: [] := rfl

theorem witness_EmptyQueueCountsOneSecond :
    State.reset.pending = [] ∧ State.reset.isLoading = true ∧ State.reset.store.changed = false ∧
      ready.pending = [] ∧ ready.isLoading = false ∧ ready.store.changed = true ∧ ready.time.seconds < 59 ∧
      ready.store.writing = false ∧ (after .writeBehindStart ready).store.writing = false ∧
      (after (.setKey .service 0 1 200)
        (after .writeBehindStart { ready with store := { ready.store with quiet := 5 } })).store.writing = true ∧
      (after (.setKey .service 0 1 200)
        (after .writeBehindStart { ready with store := { ready.store with quiet := 5 } })).store.changed = true := by
  decide +kernel

theorem witness_settingsOk : ready.settings.Ok where
  range := by
    intro k
    cases k with
    | zone z k => cases z <;> cases k <;> decide +kernel
    | _ => decide +kernel
  healthNominal := by decide +kernel
  nominalUnit := by decide +kernel
  healthCap := by decide +kernel
  refUnit := by decide +kernel
  dutyOrder := by decide +kernel
  startLow := by decide +kernel
  startHigh := by decide +kernel
  boostOrder := by intro z; cases z <;> decide +kernel
  dryOrder := by decide +kernel
  thresholds := by decide +kernel

/-- A part whose queue holds the end of a load with this read. -/
def loadingFrom (r : ImageRead) : State := { State.reset with pending := [.loadEnd r] }

theorem witness_SettingsStayInRangeAndRelation :
    ticking.settings.Ok ∧ ticking.settings.GroupsAccepted ∧ (∀ r rest, ticking.pending ≠ .loadEnd r :: rest) ∧
      (loadingFrom .notAcknowledged).settings.GroupsAccepted ∧
      (loadedFrom .notAcknowledged).settings.GroupsAccepted ∧
      (∃ t, step ticking = .next t) ∧ ∃ t, step (loadingFrom .notAcknowledged) = .next t :=
  ⟨witness_settingsOk, ⟨by decide +kernel, by decide +kernel⟩, (by intro r rest h; cases h),
    ⟨by decide +kernel, by decide +kernel⟩, ⟨by decide +kernel, by decide +kernel⟩, ⟨_, rfl⟩, _, rfl⟩

theorem witness_LinkRecordsStayConsistent :
    (∀ l, (ticking.links.get l).Ok) ∧ ∃ t, step ticking = .next t := by
  refine ⟨fun l => ?_, _, rfl⟩
  have r : (ticking.links.get l).state = .listening ∧ (ticking.links.get l).frame = [] ∧
      (ticking.links.get l).attention = ((ticking.links.get l).pending != 0#14) ∧
      (ticking.links.get l).addressed = 0#14 ∧ (ticking.links.get l).expired = [] := by cases l <;> decide +kernel
  obtain ⟨listening, noFrame, line, noMarks, noHandles⟩ := r
  exact { attention := line
          marks := by rw [noMarks]; simp
          expired := by rw [noHandles]; decide
          receiving := fun h => by rw [listening] at h; cases h
          otherwise := fun _ => noFrame }

theorem witness_LogPositionsStayInOrder : ticking.log.Ok ∧ ∃ t, step ticking = .next t :=
  ⟨by constructor <;> decide +kernel, _, rfl⟩

/-- A part with one entry of a link, placed by POST, and a zone that boosts. -/
def demanding : State :=
  { after (.post .panel 0 0 350 30)
      (placeInternal (withZone .z1 { ZoneRecord.reset with zoneType := .shower, state := .boosting } ready) 11
        (.zone .z1) (.raise 700) none) with pending := [.minuteTick] }

theorem demanding_entries :
    demanding.table.entries =
      [entry 11 1 (.zone .z1) (.raise 700),
        { entry 0 1 (.link .panel) (.raise 350) with remaining := some 30 }] := by decide +kernel

theorem witness_DemandTableStaysWellFormed : demanding.table.Ok ∧ ∃ t, step demanding = .next t := by
  refine ⟨⟨by decide +kernel, ?_, fun l => by cases l <;> decide +kernel⟩, _, rfl⟩
  intro e he
  rw [demanding_entries] at he
  have hg : demanding.table.tags.get 11 = 1 ∧ demanding.table.tags.get 0 = 1 := by decide +kernel
  simp only [List.mem_cons, List.not_mem_nil, or_false] at he
  rcases he with rfl | rfl
  · exact ⟨rfl, hg.1.symm, by intro v h; cases h; decide, by intro n h; cases h⟩
  · exact ⟨by show _ ∈ sharedSlots; decide, hg.2.symm, by intro v h; cases h; decide, by intro n h; cases h; decide⟩

theorem witness_ZonesHoldTheirEntries :
    demanding.table.Ok ∧ (∀ n, ZoneOk demanding n) ∧ demanding.isLoading = false ∧
      ∃ t, step demanding = .next t :=
  ⟨witness_DemandTableStaysWellFormed.1, fun n => by cases n <;> exact ⟨by decide +kernel, by decide +kernel⟩,
    by decide +kernel, _, rfl⟩

/-- A part with a pass-through of SERVICE in flight. -/
def passing : State := { after (.probe .service 0 3 1 0) ready with pending := [.requestSent] }

theorem witness_SensorBusStaysConsistent :
    passing.bus.Ok passing.settings ∧ ∃ t, step passing = .next t := by
  have h : passing.bus.transaction =
      some { originator := .passThrough .service, request := { address := 3, command := .sample, register := 0 },
             phase := .sending, reply := [] } := by decide +kernel
  have hp : passing.bus.pass = ⟨.idle, .idle, .active { address := 3, command := .sample, register := 0 } false⟩ := by
    decide +kernel
  have hq : passing.bus.passQueue = [] := by decide +kernel
  refine ⟨⟨by decide +kernel, by decide +kernel, by decide +kernel, ?_, ?_⟩, _, rfl⟩
  · intro x hx; rw [h] at hx; cases hx; decide
  · intro l
    cases l <;> simp [Bus.passOk, hp, h, hq, PerLink.get]

theorem witness_fanOk : FanRecord.reset.Ok := by constructor <;> decide

theorem witness_FanAndDamperRecordsStayInRange :
    ticking.settings.Ok ∧ ticking.op.s ≤ 1200 ∧ ticking.op.e ≤ 1200 ∧ (∀ f, (ticking.fans.get f).Ok) ∧
      ticking.damper.Ok ∧ ∃ t, step ticking = .next t :=
  ⟨witness_settingsOk, by decide, by decide, fun f => by cases f <;> exact witness_fanOk,
    by constructor <;> decide, _, rfl⟩

theorem witness_frostOk : FrostRecord.reset.Ok := by constructor <;> decide

theorem witness_FrostRecordStaysInRange :
    ticking.settings.Ok ∧ ticking.frost.record.Ok ∧ ∃ t, step ticking = .next t :=
  ⟨witness_settingsOk, witness_frostOk, _, rfl⟩

/-- The counts of a THAW one step from both its ends, and those it holds after them. -/
theorem witness_thawCounts :
    FrostRecord.Ok { FrostRecord.reset with stage := .thaw, elapsed := 359, success := 17 } ∧
      FrostRecord.Ok { FrostRecord.reset with stage := .unbalance, elapsed := 360, success := 18 } := by
  constructor <;> constructor <;> decide

theorem witness_filterOk : FilterRecord.reset.Ok := by
  constructor <;> first | decide | exact fun d h => by cases h

theorem witness_FilterRecordsStayInRange :
    (∀ f, (ticking.filters.records.get f).Ok) ∧ ticking.runner.procedure.Ok ∧ ∃ t, step ticking = .next t :=
  ⟨fun f => by cases f <;> exact witness_filterOk, trivial, _, rfl⟩

/-- Filter records with a reading, as a procedure needs them. -/
def withReadings (s : State) : State :=
  withFilter .supply { FilterRecord.reset with lastGood := some 600 }
    (withFilter .extract { FilterRecord.reset with lastGood := some 600 } s)

/-- A part on which a procedure has been started. -/
def measuringSoon : State := after (.start .panel 0 2) (withReadings ready)

theorem witness_RunningProcedureStandsClear :
    ProcedureClear measuringSoon ∧ measuringSoon.runner.procedure.isRunning = true ∧
      ∃ t, step measuringSoon = .next t := by
  have clear : measuringSoon.isLoading = false ∧ measuringSoon.frost.record.stage.bars = false ∧
      measuringSoon.op.s = 400 ∧ measuringSoon.op.e = 400 ∧ measuringSoon.settings.nat .qRef = 400 := by decide +kernel
  obtain ⟨loaded, stage, supply, extract, reference⟩ := clear
  refine ⟨fun _ => ⟨loaded, stage, fun f => ?_, supply.trans reference.symm, extract.trans reference.symm⟩,
    by decide +kernel, _, rfl⟩
  cases f <;> decide +kernel

theorem witness_TargetsStandInRelation :
    ready.settings.Ok ∧ ready.runner.procedure.isRunning = false ∧
      (withFrost { FrostRecord.reset with stage := .thaw } ready).frost.record.stage = .thaw ∧
      ((withFan .extract { FanRecord.reset with state := .stalled } ready).fans.get .extract).state = .stalled ∧
      (∀ f, decide ((ready.fans.get f).state = .stalled) = false) ∧ (resolve ready).w = 300 ∧
      (resolve measuringSoon).flags.procedure = true :=
  ⟨witness_settingsOk, by decide +kernel, rfl, rfl, fun f => by cases f <;> decide, by decide +kernel,
    by decide +kernel⟩

theorem witness_WantedFlowFollowsTheEntries :
    let s := withEntries [entry 0 1 (.link .panel) (.raise 350)] ready
    s.settings.Ok ∧ (∀ e ∈ s.table.entries, ∀ v, e.want = .raise v → v ≤ 350) ∧ (resolve s).b ≤ 350 ∧
      (∃ e ∈ s.table.entries, e.want = .raise 350) ∧ (resolve ready).b = 300 := by
  refine ⟨witness_settingsOk, ?_, by decide +kernel, ⟨_, List.mem_singleton.2 rfl, rfl⟩, by decide +kernel⟩
  intro e he v hv
  cases List.mem_singleton.1 he
  cases hv; decide

/-- A part with two entries, the older of PANEL and the newer of HEATING. -/
def withTwo (older newer : Want) : State :=
  withEntries [entry 0 1 (.link .panel) older, entry 1 1 (.link .heating) newer] ready

/-- The background at the levels where its clauses meet, `health_min` 150 and `nominal_flow` 300, and the entry
that sets the flow (R28, R29). -/
theorem witness_contributingEntries :
    (resolve (withTwo (.setback 150) (.setback 150))).contributing = some 1 ∧
      (resolve (withTwo (.setback 149) (.setback 100))).contributing = none ∧
      (resolve (withTwo (.setback 300) .bypass)).flags.setbackApplied = false ∧
      (resolve (withTwo (.setback 299) (.raise 299))).contributing = some 1 ∧
      (resolve (withTwo (.setback 299) (.raise 300))).contributing = some 17 := by decide +kernel

/-! Encodings, power-on and the image. -/

theorem witness_RequestsReadBackFromTheirBytes :
    (Request.clearUnknown 4).canonical ∧ (Request.setUnknown 0x01#8 (Vector.replicate 14 0)).canonical ∧
      Request.status.canonical :=
  ⟨by show (3 : Nat) < _; decide, ⟨by decide, by decide⟩, trivial⟩

theorem witness_FrameBytesTakeTheRequest :
    Request.status.canonical ∧ (ready.links.get .panel).state = .listening := ⟨trivial, by decide +kernel⟩

theorem witness_ImageReadsBack :
    defaultSettings.Ok ∧ ∀ side, (∀ d, ((PerSide.mk { Persisted.reset with clean := some 10 } Persisted.reset).get
        side).clean = some d → 10 ≤ d ∧ d ≤ 5000) :=
  ⟨witness_settingsOk, fun side d h => by cases side <;> cases h <;> decide⟩

/-- The image of the default table. -/
def defaultImage : List Byte := imageBytes defaultSettings ⟨Persisted.reset, Persisted.reset⟩

theorem witness_LoadEndHandsTheTableOn :
    State.reset.isLoading = true ∧ defaultImage.length = 315 ∧
      (loadedFrom (.bytes defaultImage)).outcome = .image ∧
      (loadedFrom .notAcknowledged).outcome = .defaulted ∧
      (defaultImage.take 314).length ≠ 315 ∧ ((0x02#8 :: defaultImage.drop 1).getD 0 0#8 ≠ 0x01#8) ∧
      crc16 ((defaultImage.set 5 0xFF#8).take 313) ≠
        (defaultImage.set 5 0xFF#8).getD 313 0#8 ++ (defaultImage.set 5 0xFF#8).getD 314 0#8 := by decide +kernel

/-- The bus as the load finds it, and the first sensor of the first scan round on the default zones. -/
theorem witness_loadStartsTheScanner :
    State.reset.bus.transaction = none ∧ State.reset.bus.scanQueue = [] ∧ State.reset.bus.passQueue = [] ∧
      Sensor.zone .z1 :: [.zone .z2, .zone .z3, .extract] =
        (if defaultSettings.zoneType .z1 = .unused then [] else [Sensor.zone .z1])
        ++ (if defaultSettings.zoneType .z2 = .unused then [] else [.zone .z2])
        ++ (if defaultSettings.zoneType .z3 = .unused then [] else [.zone .z3])
        ++ (if defaultSettings.zoneType .z4 = .unused then [] else [.zone .z4]) ++ [.extract] := by decide +kernel

/-- A good image whose thresholds do not rise and lie partly outside 1 to 9000, and whose map gives PROBE_READY a
link: each threshold is installed, clamped to its range, and the map as it stands (R72, R183). -/
def oddImage : List Byte :=
  imageBytes
    { defaultSettings with
      thresholds := { defaultThresholds with watchOn := 0, preheatOff := 2000, thawOn := 9500 }
      eventMap := { defaultEventMap with panel := oneKind .probeReady } }
    ⟨Persisted.reset, Persisted.reset⟩

theorem test_imageGroups :
    oddImage.length = 315 ∧ oddImage.getD 0 0#8 = 0x01#8 ∧
      crc16 (oddImage.take 313) = oddImage.getD 313 0#8 ++ oddImage.getD 314 0#8 ∧
      (loadedFrom (.bytes oddImage)).settings.thresholds.toList = [1, 2000, 1500, 2000, 2500, 3000, 9000] ∧
      (loadedFrom (.bytes oddImage)).settings.eventMap.panel = oneKind .probeReady ∧
      Key.scanPeriod ∉ relatedKeys := by decide +kernel

/-- A part that writes its image. -/
def writing : State := after .writeBehindStart { ready with store := { ready.store with quiet := 5 } }

theorem witness_WriteBehindWritesTheImage :
    ready.store.writing = false ∧ ready.store.changed = true ∧
      ({ ready.store with quiet := 5 } : Store).quiet = 5 ∧
      (handOverFields ready).store.urgent = true ∧ (handOverFields ready).store.writing = false ∧
      writing.store.writing = true ∧ writing.store.image = defaultImage ∧
      { writing.store with state := StoreState.fault }.writing = true := by decide +kernel

/-! The control step, the fans and the probes. -/

/-- A fan record at a bad or good reading that reaches its count. -/
def faultedFan (count : Nat) : FanRecord := { FanRecord.reset with probeFault := true, probeCount := count }

theorem witness_ControlStepJudgesTheFlowProbe :
    (ready.fans.get .supply) = FanRecord.reset ∧ FanRecord.reset.probeFault = false ∧ stillAir.supplyFlow = .reading 0 ∧
      { stillAir with supplyFlow := .reading 5000 }.supplyFlow = .reading 5000 ∧
      { stillAir with supplyFlow := .outOfRange }.supplyFlow = .outOfRange ∧
      (faultedFan 1).probeFault = true ∧ (faultedFan 1).probeCount < 2 ∧ 2 ≤ (faultedFan 2).probeCount ∧
      (withFan .supply (faultedFan 2) ready).fans.get .supply = faultedFan 2 := by decide

/-- A part whose supply fan runs towards a target of 300. -/
def driving (x : FanRecord) : State := { withFan .supply x ready with op := { ready.op with s := 300 } }

theorem witness_RunningFanSetsItsDuty :
    let x := { runningFan 150 300 262 with lowSpeed := 3 }
    (driving x).fans.get .supply = x ∧ (driving x).op.s = 300 ∧ x.state = .running ∧ x.lowSpeed < 4 ∧
      ¬200 ≤ x.pulses * 30 ∧ ¬x.duty < (driving x).settings.nat .dutyMin ∧
      ¬(-(ready.settings.get .deadband) ≤ (300 : Int) - x.flow ∧ (300 : Int) - x.flow ≤ ready.settings.get .deadband)
      ∧ (-(ready.settings.get .deadband) ≤ (300 : Int) - 305 ∧ (300 : Int) - 295 ≤ ready.settings.get .deadband) := by
  decide +kernel

/-- The shortfall counter one short of each of its ends, and the steps that reach them. -/
theorem witness_shortfallCounts :
    let low := { runningFan 1000 300 0 with pulses := 50, shortfallCount := 58 }
    let high := { low with shortfallCount := 59 }
    let y := (after (.controlStep stillAir) (driving low)).fans.supply
    let z := (after (.controlStep stillAir) (driving high)).fans.supply
    y.probeFault = false ∧ y.duty = ready.settings.nat .dutyMax ∧ y.band = .below ∧ y.shortfallCount = 59 ∧
      z.shortfall = true := by decide +kernel

theorem witness_ControlStepFollowsTheFanTable :
    FanRecord.reset.state = .stopped ∧ ready.op.s = 0 ∧ 0 < (driving FanRecord.reset).op.s ∧
      ({ FanRecord.reset with state := .starting, phase := 2 } : FanRecord).phase = 2 ∧
      ({ FanRecord.reset with state := .starting, phase := 1 } : FanRecord).phase = 1 ∧
      (let x := { runningFan 150 300 0 with lowSpeed := 4, pulses := 6 }
       x.state = .running ∧ x.pulses * 30 < 200 ∧ ready.settings.nat .dutyMin ≤ x.duty ∧ x.lowSpeed = 4) ∧
      ({ FanRecord.reset with state := .stalled, phase := 1 } : FanRecord).phase = 1 ∧
      (let x := { FanRecord.reset with state := .retrying, phase := 1, pulses := 7, attempts := 2 }
       x.state = .retrying ∧ 200 ≤ x.pulses * 30 ∧ x.attempts < 3) ∧
      (let x := { FanRecord.reset with state := .retrying, phase := 1, pulses := 6, attempts := 3 }
       x.pulses * 30 < 200 ∧ x.attempts = 3) := by decide +kernel

theorem witness_ControlStepReadsTheProbes :
    (ready.frost.probes.get .oda).status = .noValue ∧
      ((withAir .oda 850 ready).frost.probes.get .oda).status = .good 850 ∧
      (¬(-400 ≤ (851 : Int) ∧ (851 : Int) ≤ 850)) ∧
      ({ status := .faulted (some 850), reads := 2 } : ProbeRecord).reads = 2 ∧
      ready.filters.records.get .supply = FilterRecord.reset ∧ stillAir.supplyFilter = .reading 600 ∧
      ({ FilterRecord.reset with probeFault := true, probeCount := 2 } : FilterRecord).probeCount = 2 := by decide

/-- The first control step changes the bypass truths, and the same readings again change none. -/
theorem witness_bypassTruths :
    let t := after (.controlStep stillAir) ready
    t.frost.truths ≠ ready.frost.truths ∧ (after (.controlStep stillAir) t).frost.truths = t.frost.truths ∧
      (t.fans.get .supply).state = (ready.fans.get .supply).state := by decide +kernel

theorem witness_ControlStepStopsThePreheater :
    let g := { FrostRecord.reset with stage := .preheat, duty := 500 }
    let s := withFan .supply { runningFan 500 300 300 with pulses := 50 } (withFrost g ready)
    let cold := { stillAir with supplyFlow := .reading 1000, sup := 400 }
    let hot := { stillAir with supplyFlow := .reading 1000, sup := 401 }
    let s' := { s with op := { s.op with s := 300 } }
    0 < (after (.controlStep cold) s').frost.record.duty ∧
      (after (.controlStep hot) s').frost.record.fault = true ∧ s'.frost.record.fault = false ∧
      s'.settings.get .preheaterFitted = 1 ∧ 0 < s'.frost.record.duty ∧
      ((after (.controlStep hot) s').fans.get .supply).state = .running ∧
      s'.settings.nat .preheatMinFlow ≤ ((after (.controlStep hot) s').fans.get .supply).flow ∧
      ((after (.controlStep hot) s').frost.probes.get .sup).status = .good 401 := by decide +kernel

theorem witness_FanCountersReachTheirEnds :
    (let x := { FanRecord.reset with state := .starting, phase := 1, target := 300 }
     (withFan .supply x ready).fans.get .supply = x ∧ 0 < x.target) ∧
      (let x := { runningFan 1000 300 0 with band := .below, shortfallCount := 59 }
       x.probeFault = false ∧ x.shortfall = false ∧ x.duty = ready.settings.nat .dutyMax) ∧
      (let x := { runningFan 1000 300 300 with band := .inBand, shortfall := true, shortfallCount := 9 }
       x.state = .running ∧ x.probeFault = false ∧ x.shortfallCount = 9) ∧
      ({ runningFan 500 300 300 with run := 59 } : FanRecord).run = 59 := by decide +kernel

theorem witness_FanStallsRetriesAndIsJudged :
    (let x := { runningFan 150 300 0 with lowSpeed := 4, speed := 199 }
     (withFan .extract x ready).fans.get .extract = x ∧ 0 < x.target ∧ x.speed < 200 ∧
        ready.settings.nat .dutyMin ≤ x.duty ∧ 4 ≤ x.lowSpeed) ∧
      (let x := { FanRecord.reset with state := .stalled, phase := 1 }
       x.state = .stalled ∧ x.phase = 1) ∧
      (let x := { FanRecord.reset with state := .retrying, phase := 1, speed := 200 }
       x.state = .retrying ∧ 200 ≤ x.speed) ∧
      (let x := { FanRecord.reset with state := .retrying, phase := 1, speed := 199, attempts := 2 }
       x.speed < 200 ∧ x.attempts < 3) ∧
      (let x := { FanRecord.reset with state := .retrying, phase := 1, speed := 199, attempts := 3 }
       x.speed < 200 ∧ 3 ≤ x.attempts) := by decide +kernel

theorem witness_ProbesFaultAndRecover :
    ({ FanRecord.reset with probeCount := 2 } : FanRecord).probeFault = false ∧ (faultedFan 2).probeFault = true ∧
      (faultedFan 2).probeCount = 2 ∧
      (∀ held, ({ status := .good 100, reads := 2 } : ProbeRecord).status ≠ .faulted held) ∧
      ({ status := .faulted none, reads := 2 } : ProbeRecord).status = .faulted none ∧
      ({ FilterRecord.reset with probeCount := 2 } : FilterRecord).probeFault = false ∧
      ({ FilterRecord.reset with probeFault := true, probeCount := 2 } : FilterRecord).probeCount = 2 :=
  ⟨rfl, rfl, rfl, (fun _ h => by cases h), rfl, rfl, rfl⟩

/-! The frost guard. -/

/-- A part in a frost stage, at T_eha −2.5 degrees C. -/
def icing (g : FrostRecord) : State := withAir .eha (-25) (withFrost g ready)

theorem witness_FrostStepMovesTheIndexAndTheStage :
    FrostRecord.reset.Ok ∧ (icing FrostRecord.reset).frost.record = FrostRecord.reset ∧
      (icing FrostRecord.reset).isLoading = false ∧ FrostRecord.reset.stage = .normal ∧
      ({ FrostRecord.reset with stage := .unbalance, r := 500, f := 6000 } : FrostRecord).Ok ∧
      ({ FrostRecord.reset with stage := .watch } : FrostRecord).Ok ∧
      ({ FrostRecord.reset with stage := .preheat, pinned := 180 } : FrostRecord).Ok ∧
      ((icing FrostRecord.reset).frost.probes.get .eha).status = .good (-25) ∧
      (icing FrostRecord.reset).humidity.extract.stale = false :=
  ⟨witness_frostOk, rfl, by decide, rfl, by constructor <;> decide, by constructor <;> decide,
    by constructor <;> decide, rfl, rfl⟩

/-- The pinned count rises at `preheat_max` with F rising, and a stage change of WATCH is reported (R74, R85). -/
theorem witness_pinnedCount :
    let s := withAir .sup 100 (withFan .supply (runningFan 500 300 100)
      (icing { FrostRecord.reset with stage := .preheat, f := 2000, duty := 1000, pinned := 179 }))
    (after .frostStep s).frost.record.duty = s.settings.nat .preheatMax ∧
      (after .frostStep s).frost.record.pinned = 180 ∧
      (after .frostStep (icing { FrostRecord.reset with stage := .watch, f := 1500 })).frost.record.stage = .preheat
      := by decide +kernel

theorem witness_FrostStepSetsThePreheaterDuty :
    let s := withAir .sup 100 (withFan .supply (runningFan 500 300 100)
      (icing { FrostRecord.reset with stage := .preheat, f := 2000 }))
    s.isLoading = false ∧ (s.frost.probes.get .eha).status = .good (-25) ∧
      0 < (after .frostStep s).frost.record.duty ∧ (after .frostStep ready).frost.record.duty = 0 := by
  decide +kernel

theorem witness_BlindIsEnteredAndLeft :
    (∀ v, (ready.frost.probes.get .eha).status ≠ .good v) ∧ ready.isLoading = false ∧
      ready.frost.record.stage = .normal ∧
      (withFrost { FrostRecord.reset with stage := .thaw, elapsed := 120 } ready).frost.record.stage = .thaw ∧
      (let g := { FrostRecord.reset with stage := .blind, blindPhase := some .run, blindCount := 300 }
       (icing g).frost.record = g ∧ ((icing g).frost.probes.get .eha).status = .good (-25)) :=
  ⟨(fun v h => by cases h), by decide, rfl, rfl, rfl, rfl⟩

/-- A part in a phase of BLIND, at a count. -/
def blindPart (phase : BlindPhase) (count : Nat) : State :=
  withFrost { FrostRecord.reset with stage := .blind, blindPhase := some phase, blindCount := count } ready

/-- A frost step in BLIND at the counts where its clauses meet. -/
theorem witness_blindStep :
    ((blindPart .run 2).frost.probes.get .eha).status = .noValue ∧
      (after .frostStep (blindPart .run 2)).frost.record.blindCount = 1 ∧
      (after .frostStep (blindPart .run 1)).frost.record.blindPhase = some .thaw ∧
      (after .frostStep (withAir .oda (-30) (blindPart .run 1))).frost.record.blindPhase = some .run ∧
      (after .frostStep (blindPart .thaw 2)).frost.record.blindPhase = some .thaw ∧
      (after .frostStep (blindPart .thaw 1)).frost.record.r = 500 := by decide +kernel

theorem witness_ThawEndsInSuccessOrTimeout :
    (let g := { FrostRecord.reset with stage := .thaw, success := 17 }
     let s := withAir .eha 50 (withFrost g ready)
     s.frost.record = g ∧ (s.frost.probes.get .eha).status = .good 50 ∧ s.settings.get .thawEnd ≤ 50) ∧
      (let g := { FrostRecord.reset with stage := .thaw, success := 16, elapsed := 119, failures := 2 }
       let s := withAir .eha 50 (withFrost g ready)
       g.success < 17 ∧ s.settings.nat .thawMax * 6 ≤ g.elapsed + 1 ∧ 2 ≤ g.failures) ∧
      (let g := { FrostRecord.reset with stage := .thaw, success := 17, elapsed := 119, failures := 1 }
       let s := withAir .eha 49 (withFrost g ready)
       (49 : Int) < s.settings.get .thawEnd ∧ s.settings.nat .thawMax * 6 ≤ g.elapsed + 1) := by decide +kernel

/-- A frost step in THAW at the counts where its clauses meet. -/
theorem witness_thawStep :
    let g := { FrostRecord.reset with stage := .thaw, success := 16, elapsed := 118 }
    let s := fun g => withAir .eha 50 (withFrost g ready)
    (s g).isLoading = false ∧ (after .frostStep (s g)).frost.record.stage = .thaw ∧
      (after .frostStep (s { g with success := 17 })).frost.record.f = 2000 ∧
      (after .frostStep (s { g with elapsed := 119, failures := 1 })).frost.record.stage = .unbalance ∧
      (after .frostStep (s { g with elapsed := 119, failures := 2 })).frost.record.stage = .lockout := by
  decide +kernel

/-- A frost step in LOCKOUT one short of its release, and at it. -/
theorem witness_lockoutStep :
    let s := fun n => withAir .oda 30 (withFrost { FrostRecord.reset with stage := .lockout, warmth := n } ready)
    (after .frostStep (s 358)).frost.record.warmth = 359 ∧ (after .frostStep (s 359)).frost.record.stage = .normal ∧
      (after .frostStep (withAir .oda 29 (s 359))).frost.record.warmth = 0 := by decide +kernel

theorem witness_FrostCountsReachTheirEnds :
    (let g := { FrostRecord.reset with gap := 179 }
     g.gap < ready.settings.nat .thawGap * 6 ∧ ready.settings.nat .thawGap * 6 ≤ g.gap + 1) ∧
      (let g := { FrostRecord.reset with stage := .lockout, warmth := 359 }
       359 ≤ g.warmth ∧ ready.settings.get .lockoutRelease ≤ 30) ∧
      ((withAir .oda 30 ready).frost.probes.get .oda).status = .good 30 ∧
      (let g := { FrostRecord.reset with stage := .blind, blindPhase := some .thaw, blindCount := 1 }
       g.stage = .blind ∧ g.blindCount = 1) ∧
      ready.frost.record.duty < 1000 := by decide +kernel

theorem witness_blindSchedule :
    (∀ v, (ready.frost.probes.get .oda).status = .good v → v < -30) ∧
      ¬(∀ v, ((withAir .oda (-30) ready).frost.probes.get .oda).status = .good v → v < -30) :=
  ⟨(fun v h => by cases h), fun h => absurd (h (-30) rfl) (by decide)⟩

theorem witness_ClearReleasesWhatIsLatched :
    Ready ready .service ∧
      ((withFan .supply { FanRecord.reset with state := .failed } ready).fans.get .supply).state = .failed ∧
      ((withFan .supply { FanRecord.reset with state := .stalled } ready).fans.get .supply).state = .stalled ∧
      (ready.fans.get .supply).state = .stopped ∧
      (withFrost { FrostRecord.reset with stage := .lockout } ready).frost.record.stage = .lockout ∧
      ready.frost.record.stage ≠ .lockout ∧ ready.frost.record.fault = false ∧
      (withFrost { FrostRecord.reset with fault := true } ready).frost.record.fault = true :=
  ⟨⟨by decide, rfl⟩, rfl, rfl, rfl, rfl, by decide, rfl, rfl⟩

theorem witness_damperOk (d : Damper) (h : d ∈ [⟨.opening, 88, false⟩, ⟨.opening, 89, false⟩, ⟨.opening, 90, false⟩,
    ⟨.closing, 2, false⟩, ⟨.closing, 1, true⟩, ⟨.closing, 0, false⟩, (⟨.closed, 0, false⟩ : Damper)]) : d.Ok := by
  have all : ∀ d ∈ [⟨.opening, 88, false⟩, ⟨.opening, 89, false⟩, ⟨.opening, 90, false⟩, ⟨.closing, 2, false⟩,
      ⟨.closing, 1, true⟩, ⟨.closing, 0, false⟩, (⟨.closed, 0, false⟩ : Damper)],
      d.position ≤ 90 ∧ (d.state = .closed → d.position = 0) ∧ (d.state = .opened → d.position = 90) ∧
        (d.homing = true → d.state = .closing) := by decide
  exact ⟨(all d h).1, (all d h).2.1, (all d h).2.2.1, (all d h).2.2.2⟩

theorem witness_DamperFollowsTheOutcome :
    (∀ n ∈ [88, 89, 90], Damper.Ok ⟨.opening, n, false⟩) ∧ (∀ n ∈ [2, 0], Damper.Ok ⟨.closing, n, false⟩) ∧
      Damper.Ok ⟨.closing, 1, true⟩ ∧ Damper.Ok ⟨.closed, 0, false⟩ ∧ ready.isLoading = false :=
  ⟨fun n h => witness_damperOk _ (by revert n; decide), fun n h => witness_damperOk _ (by revert n; decide),
    witness_damperOk _ (by decide), witness_damperOk _ (by decide), by decide⟩

/-! The minute, the humidity monitor and the filters. -/

theorem witness_MinuteTickCountsAMinute :
    ready.isLoading = false ∧ State.reset.isLoading = true ∧ (ready.fans.get .supply).state ≠ .running ∧
      ((withFan .supply (runningFan 500 300 300) ready).fans.get .supply).state = .running ∧
      ¬(ready.frost.record.stage = .thaw ∨ ready.frost.record.stage = .lockout) ∧
      (withFrost { FrostRecord.reset with stage := .thaw } ready).frost.record.stage = .thaw ∧
      ({ ready.filters with hourTicks := 59 } : FilterMonitor).hourTicks = 59 ∧ ready.filters.hourTicks < 59 ∧
      ready.table.entries = [] ∧ ready.log.hourly.ticks < 59 ∧ (ready.humidity.zones.get .z1).state ≠ .boosting ∧
      ({ ZoneRecord.reset with state := .boosting } : ZoneRecord).boostTimer + 1
        < ready.settings.nat (.zone .z1 .maxBoost) := by decide +kernel

/-- An entry of a link at its last minute. -/
def lastMinute : Entry := { entry 0 1 (.link .panel) (.raise 350) with remaining := some 1 }

/-- A recovering zone's entry at its last minute. -/
def lastMinuteOfZone : Entry := { entry 11 1 (.zone .z1) (.raise 700) with remaining := some 1 }

theorem witness_ExpiredEntriesAreReported :
    ([lastMinute].filter fun e => e.remaining == some 1) = [lastMinute] ∧
      (∀ e ∈ (withEntries [lastMinute] ready).table.entries, ∀ n, e.remaining = some n → 1 ≤ n) ∧
      (∀ e ∈ [lastMinute], ∃ l, e.source = .link l) ∧ (∀ l, (ready.links.get l).expired.length ≤ 4) ∧
      ([lastMinuteOfZone].filter fun e => e.remaining == some 1) = [lastMinuteOfZone] ∧
      lastMinuteOfZone.source = .zone .z1 ∧
      ((withZone .z1 { ZoneRecord.reset with zoneType := .shower, state := .recovering } ready).humidity.zones.get
        .z1).state = .recovering := by
  refine ⟨rfl, ?_, ?_, fun l => by cases l <;> decide, rfl, rfl, rfl⟩
  · intro e he n hn; cases List.mem_singleton.1 he; cases hn; decide
  · intro e he; cases List.mem_singleton.1 he; exact ⟨_, rfl⟩

theorem witness_HourEndsInARecordAndAHandover :
    ready.isLoading = false ∧ ({ Hourly.reset with ticks := 59 } : Hourly).ticks = 59 ∧
      ({ FilterMonitor.reset with hourTicks := 59 } : FilterMonitor).hourTicks = 59 := by decide

/-- A shower zone in a state. -/
def shower (state : ZoneState) (failures : Nat) : ZoneRecord :=
  { ZoneRecord.reset with zoneType := .shower, state := state, baseline := some 900, failures := failures }

/-- A part whose zone 1 boosts with its entry in place. -/
def boostingPart (timer failures : Nat) : State :=
  withEntries [entry 11 1 (.zone .z1) (.raise 700)]
    (withZone .z1 { shower .boosting failures with boostTimer := timer } ready)

theorem witness_SensorsGoStaleAndZonesRebaseline :
    ((boostingPart 239 2).humidity.zones.get .z1).state = .boosting ∧
      ready.settings.nat (.zone .z1 .maxBoost) ≤
        ((boostingPart (ready.settings.nat (.zone .z1 .maxBoost) - 1) 2).humidity.zones.get .z1).boostTimer + 1 ∧
      (boostingPart 0 2).table.isLive (zoneSlot .z1) = true ∧ (shower .quiet 2).zoneType ≠ .unused ∧
      (shower .quiet 2).failures = 2 ∧ (shower .recovering 2).state = .recovering ∧
      ({ ready.humidity.extract with failures := 2 } : ExtractRecord).failures = 2 := by decide +kernel

/-- A part that has taken seven reply bytes of a sample: RH 52.0 % and 20.0 degrees C. -/
def answering (n : Sensor) (d0 d1 : Byte) (z : ZoneRecord) : State :=
  withZone .z1 z
    { ready with
      bus :=
        { Bus.reset with
          transaction := some
            { originator := .scanner n
              request := { address := 1, command := .sample, register := 0 }
              phase := .awaiting
              reply := [0x69#8, 0x01#8, 0x00#8, d0, d1, 0x00#8, 0xC8#8] } } }

/-- The absolute humidity of RH 52.0 % at 20.0 degrees C is 899, the third case of section 6.1.1. -/
theorem witness_ZonesJudgeTheirSamples :
    (answering (.zone .z1) 0x02#8 0x08#8 (shower .quiet 0)).bus.transaction = some
        { originator := .scanner (.zone .z1)
          request := { address := 1, command := .sample, register := 0 }
          phase := .awaiting
          reply := [0x69#8, 0x01#8, 0x00#8, 0x02#8, 0x08#8, 0x00#8, 0xC8#8] } ∧
      (0x01#8).toNat = 1 ∧ 520 = (0x02#8).toNat * 256 + (0x08#8).toNat ∧ (0x00#8 ++ 0xC8#8 : Half).toInt = 200 ∧
      520 * satDensity 200 / 1000 = 899 ∧
      (899 : Int) - 900 < ready.settings.get (.zone .z1 .boostOn) ∧
      (899 : Int) - 900 ≤ ready.settings.get (.zone .z1 .boostOff) ∧
      850 = (0x03#8).toNat * 256 + (0x52#8).toNat ∧
      ready.settings.get (.zone .z1 .boostOn) ≤ (899 : Int) - 100 := by decide +kernel

/-- A good sample of a stale zone is reported with its PROBE record and its ZONE record (R124, R125). -/
theorem test_freshSample :
    let s := answering (.zone .z1) 0x02#8 0x08#8 { shower .stale 3 with stale := true }
    (after (.busReply (crc8 [0x01#8, 0x00#8, 0x02#8, 0x08#8, 0x00#8, 0xC8#8])) s).log.ring.map LogRecord.body =
      [.powerUp none, .probe (.sensor (.zone .z1)) true, .zone .z1 .quiet (some 899) .fresh] := by decide +kernel

theorem witness_DryGuardDecidesAtTheExtractSample :
    (answering .extract 0x00#8 0xC8#8 (shower .quiet 0)).bus.transaction = some
        { originator := .scanner .extract
          request := { address := 1, command := .sample, register := 0 }
          phase := .awaiting
          reply := [0x69#8, 0x01#8, 0x00#8, 0x00#8, 0xC8#8, 0x00#8, 0xC8#8] } ∧
      200 = (0x00#8).toNat * 256 + (0xC8#8).toNat ∧ 200 < ready.settings.nat .dryOn ∧
      ((withAir .oda (-1) ready).frost.probes.get .oda).status = .good (-1) ∧ ready.humidity.dryPlaced = none ∧
      ready.settings.nat .dryLevel ≠ 100 ∧ 200 < ready.settings.nat .dryOff := by decide +kernel

theorem witness_FilterStepJudgesEachFilter :
    ready.isLoading = false ∧ FilterRecord.reset.lastGood = none ∧
      (let x := { FilterRecord.reset with lastGood := some 823 }
       x.probeFault = false ∧ x.lastGood = some 823) ∧
      200 ≤ (runningFan 500 200 200).flow := by decide

theorem witness_ProcedureStartsAndIsAborted :
    Ready ready .panel ∧ 2 < (3#8).toNat ∧ (2#8).toNat = selectionCode .both ∧
      ready.runner.procedure = .idle ∧ ready.runner.procedure.isRunning = false ∧
      (withReadings ready).frost.record.stage = .normal ∧
      (∀ f, ((withReadings ready).fans.get f).state = .stopped) ∧
      (∀ f, ((withReadings ready).fans.get f).probeFault = false ∧
        ((withReadings ready).filters.records.get f).lastGood = some 600) ∧
      (∃ f, (ready.filters.records.get f).lastGood.isNone = true) ∧
      measuringSoon.runner.procedure.running? = some (.panel, .both) ∧ Ready (after (.replySent .panel) measuringSoon) .panel := by
  refine ⟨readyOf _ _ (by decide), by decide, by decide, rfl, rfl, rfl, fun f => ?_, fun f => ?_, ⟨.supply, rfl⟩,
    by decide +kernel, readyOf _ _ (by decide +kernel)⟩
  · cases f <;> rfl
  · cases f <;> exact ⟨rfl, rfl⟩

/-- A part in a procedure, both sides at a flow. -/
def inProcedure (p : Procedure) (q : Nat) : State :=
  { withFan .supply (runningFan 500 400 q) (withFan .extract (runningFan 500 400 q) (withReadings ready)) with
    runner := { Runner.reset with procedure := p } }

theorem witness_ProcedureSecondsCheckSampleAndCommit :
    (inProcedure (.settling .panel .both 88) 360).runner.procedure = .settling .panel .both 88 ∧
      (inProcedure (.settling .panel .both 89) 360).runner.procedure = .settling .panel .both 89 ∧
      (decide (400 - 400 / 10 ≤ 360) && decide (360 ≤ 400 + 400 / 10)) = true ∧
      (decide (400 - 400 / 10 ≤ 359) && decide (359 ≤ 400 + 400 / 10)) = false ∧
      ready.settings.nat .qRef = 400 ∧
      (inProcedure (.measuring .panel .both 49 ⟨[600], [600]⟩) 400).runner.procedure =
        .measuring .panel .both 49 ⟨[600], [600]⟩ ∧
      (58 + 1) % 10 ≠ 0 ∧ (59 + 1) % 10 = 0 ∧ 49 + 1 < 60 ∧ Selection.has .both .supply = true := by decide +kernel

/-! The sensor bus and the links. -/

theorem witness_ScanRoundsAndReplyBytesAreTaken :
    [Sensor.extract] =
        (if (ready.humidity.zones.get .z1).zoneType = .unused then [] else [Sensor.zone .z1])
        ++ (if (ready.humidity.zones.get .z2).zoneType = .unused then [] else [.zone .z2])
        ++ (if (ready.humidity.zones.get .z3).zoneType = .unused then [] else [.zone .z3])
        ++ (if (ready.humidity.zones.get .z4).zoneType = .unused then [] else [.zone .z4]) ++ [.extract] ∧
      State.reset.isLoading = true ∧ ready.bus.transaction = none ∧ ready.bus.scanQueue = [] ∧
      ready.bus.passQueue = [] ∧ (∃ x, passing.bus.transaction = some x) ∧
      (after (.requestSent) passing).bus.transaction.map Transaction.phase = some .awaiting ∧
      (after (.busReplyByte 0x69#8) (after (.requestSent) passing)).bus.transaction.map Transaction.reply =
        some [0x69#8] := by
  refine ⟨by decide, by decide, rfl, rfl, rfl, ⟨_, rfl⟩, by decide +kernel, by decide +kernel⟩

theorem witness_TransactionsEndInTheirOutcome :
    (answering (.zone .z1) 0x02#8 0x08#8 (shower .quiet 1)).bus.transaction.map Transaction.phase = some .awaiting ∧
      (shower .quiet 1).failures < 2 ∧ (shower .quiet 1).zoneType ≠ .unused ∧
      passing.bus.pass.get .service = .active { address := 3, command := .sample, register := 0 } false ∧
      (after (.linkReset .service) passing).bus.pass.get .service =
        .active { address := 3, command := .sample, register := 0 } true ∧
      (after (.linkReset .service) passing).bus.passQueue = [] ∧
      (crc8 [0x01#8, 0x00#8, 0x02#8, 0x08#8, 0x00#8, 0xC8#8] ≠ 0x00#8) := by decide +kernel

/-- A part in the reply window of zone 1's sample, with a scanner queue, with SERVICE waiting, and a credit. -/
def waiting (queue : List Sensor) (credit : Nat) : State :=
  let s := answering (.zone .z1) 0x02#8 0x08#8 (shower .quiet 1)
  { s with bus :=
    { s.bus with
      scanQueue := queue, credit := credit, passQueue := [.service], pass := ⟨.idle, .idle, .queued ⟨3, .sample, 0⟩⟩ } }

/-- The grant at the end of a transaction (R100, R107): the credit one short of `scan_quota` 4 and at it, and an entry
of a zone that is UNUSED dropped before the extract sensor's. -/
theorem witness_grant :
    ((waiting [.zone .z2, .extract] 2).humidity.zones.get .z2).zoneType = .unused ∧
      (waiting [] 0).bus.pass.get .service = .queued ⟨3, .sample, 0⟩ ∧
      (after .busReplyTimeout (waiting [.zone .z2, .extract] 2)).bus.transaction.map Transaction.originator =
        some (.scanner .extract) ∧
      (after .busReplyTimeout (waiting [.zone .z2, .extract] 3)).bus.scanQueue = [.zone .z2, .extract] ∧
      (after .busReplyTimeout (waiting [.zone .z2] 2)).bus.transaction.map Transaction.originator =
        some (.passThrough .service) := by decide +kernel

/-- A failed sample of the extract sensor, one short of stale and far from it. -/
theorem witness_extractFails :
    let s := fun n => { answering .extract 0x00#8 0xC8#8 (shower .quiet 0) with
      humidity := { Humidity.reset with extract := { last := some (200, 100), failures := n, stale := false } } }
    (after .busReplyTimeout (s 1)).humidity.extract.failures = 2 ∧
      (after .busReplyTimeout (s 2)).humidity.extract.stale = true ∧
      (after .busReplyTimeout (withAir .oda (-1) (s 1))).humidity.dryPlaced = some 200 := by decide +kernel

/-- A part with a pass-through record of SERVICE in place. -/
def withPass (p : PassRecord) : State := { ready with bus := { Bus.reset with pass := ⟨.idle, .idle, p⟩ } }

theorem witness_ProbeAndFetchFollowTheRecord :
    Ready ready .service ∧ ready.bus.pass.get .service = .idle ∧ 14 < (15#8).toNat ∧ 31 < (32#8).toNat ∧
      (1 ≤ (1#8).toNat ∧ (14#8).toNat ≤ 14 ∧ (31#8).toNat ≤ 31) ∧ ready.bus.transaction = none ∧
      ready.bus.scanQueue = [] ∧ ready.bus.passQueue = [] ∧
      (∀ p ∈ [PassRecord.queued ⟨1, .sample, 0⟩, .done ⟨1, .sample, 0⟩ .timeout],
        Ready (withPass p) .service ∧ (withPass p).bus.pass.get .service = p) := by
  refine ⟨readyOf _ _ (by decide), rfl, by decide, by decide, by decide, rfl, rfl, rfl, fun p _ => ?_⟩
  exact ⟨readyOf _ _ ⟨rfl, rfl⟩, rfl⟩

/-- A link that has received the beginning of a frame. -/
def receivingLink (frame : List Byte) : LinkRecord := { LinkRecord.reset with state := .receiving, frame := frame }

theorem witness_LinksReceiveByTheirTable :
    (ready.links.get .panel).state = .listening ∧ (receivingLink [0xA5#8]).frame = [0xA5#8] ∧
      2 ≤ (0x02#8).toNat ∧ (0x32#8).toNat ≤ 50 ∧ (0x01#8).toNat < 2 ∧ 50 < (0x33#8).toNat ∧
      [0x00#8].length < (0x02#8).toNat ∧ [0x00#8, 0x01#8].length = (0x02#8).toNat ∧
      crc8 [0x02#8, 0x00#8, 0x01#8] ≠ 0x00#8 ∧
      ((after (.status .panel 0) ready).links.get .panel).state = .replying ∧
      ((after (.linkReset .panel) ready).links.get .panel).state = .inBreak := by decide +kernel

theorem witness_LinkResetClearsTheLinksState :
    measuringSoon.runner.procedure.running? = some (.panel, .both) ∧ measuringSoon.isLoading = false ∧
      (∀ e ∈ ready.table.entries, e.source ≠ .link .panel) ∧ ready.log.armed = true ∧
      ready.runner.procedure.running? ≠ some (.panel, .both) ∧ ready.bus.pass.get .panel = .idle ∧
      (withEntries [lastMinute] ready).isLoading = false ∧ lastMinute.source = .link .panel := by decide +kernel

theorem witness_ReadingRequestsReply :
    Ready ready .panel ∧ (70 < (71#8).toNat ∧ (71#8) ≠ 0xF0#8) ∧
      (withEntries [lastMinute] ready).table.entries[(0#8).toNat + 0]? = some lastMinute ∧
      (∃ owner sel n, measuringSoon.runner.procedure = .settling owner sel n) ∧
      ready.runner.procedure = .idle ∧ ready.settings.thresholds.thawOn = 6000 :=
  ⟨readyOf _ _ (by decide), by decide, by decide, ⟨_, _, _, rfl⟩, rfl, by decide +kernel⟩

/-- Entries of PANEL in the slots below a number, two of which are HEATING's. -/
def postedEntries (n : Nat) : List Entry :=
  (List.range n).map fun i =>
    entry (Fin.ofNat 16 i) 0 (.link (if i < 5 then .panel else if i < 9 then .heating else .service)) .bypass

theorem witness_PostAndWithdrawKeepTheTable :
    Ready ready .panel ∧ 2 < (3#8).toNat ∧ (2#8).toNat ≤ 2 ∧
      5 ≤ (withEntries (postedEntries 5) ready).table.holding .panel ∧
      (withEntries (postedEntries 11) ready).table.holding .service < 5 ∧
      (∀ slot : Fin 16, slot.val ≤ 10 → (withEntries (postedEntries 11) ready).table.isLive slot = true) ∧
      (withEntries (postedEntries 10) ready).table.isLive 10 = false ∧
      (∀ lower : Fin 16, lower < 10 → (withEntries (postedEntries 10) ready).table.isLive lower = true) ∧
      ready.table.holding .panel < 5 ∧ ready.table.isLive 0 = false ∧
      (∀ e ∈ (withEntries [lastMinute] ready).table.entries, e.slot.val * 16 + e.gen.val ≠ (2#8).toNat) :=
  ⟨⟨by decide, rfl⟩, by decide +kernel⟩

theorem witness_withdrawOwnEntry :
    demanding.table.Ok ∧ { entry 0 1 (.link .panel) (.raise 350) with remaining := some 30 } ∈ demanding.table.entries ∧
      (0 : Fin 16).val * 16 + (1 : Fin 16).val = (1#8).toNat ∧ (11 : Fin 16).val * 16 + (1 : Fin 16).val = (177#8).toNat :=
  ⟨witness_DemandTableStaysWellFormed.1, by rw [demanding_entries]; simp, by decide, by decide⟩

theorem witness_LogRequestsMoveThePositions : Ready ready .service ∧ ready.log = Log.reset ∧ Log.reset.Ok :=
  ⟨readyOf _ _ (by decide), rfl, by constructor <;> decide⟩

/-! The settings, the time and every request. -/

theorem witness_SetClampsAndStores :
    63 < (64#8).toNat ∧ Ready ready .service ∧ Ready ready .panel ∧
      (let k : Key := .nominalFlow
       ((1001#32).toNat : Int) = 1001 ∧ clampToRelated ready.settings k (min (max 1001 (keyRange k).1) (keyRange k).2)
         = 1000 ∧ ready.settings.get k ≠ 1000 ∧ occupantKey k = true) ∧
      (let k : Key := .zone .z1 .zoneType
       (decide ((keyRange k).1 ≤ 5) && decide ((5 : Int) ≤ (keyRange k).2)) = false ∧ occupantKey k = false ∧
         (decide ((keyRange k).1 ≤ 4) && decide ((4 : Int) ≤ (keyRange k).2)) = true) ∧
      measuringSoon.runner.procedure.isRunning = true ∧ Ready measuringSoon .service ∧
      clampToRelated ready.settings .qRef 400 = ready.settings.get .qRef := by
  refine ⟨by decide, readyOf _ _ (by decide), readyOf _ _ (by decide), ?_, ?_, ?_, readyOf _ _ (by decide +kernel), ?_⟩
    <;> decide +kernel

theorem witness_SetGroupStoresOrRefuses :
    Ready ready .service ∧
      (let v : Vector Half 7 := #v[1#16, 2#16, 3#16, 4#16, 5#16, 6#16, 9000#16]
       (decide (1 ≤ v[0].toNat) && decide (v[0].toNat < v[1].toNat) && decide (v[5].toNat < v[6].toNat)
         && decide (v[6].toNat ≤ 9000)) = true ∧ (thresholdsOf v).ordered = true) ∧
      (thresholdsOf #v[0#16, 2#16, 3#16, 4#16, 5#16, 6#16, 9000#16]).ordered = false ∧
      (thresholdsOf #v[1#16, 2#16, 3#16, 4#16, 5#16, 6#16, 9001#16]).ordered = false ∧
      (let v : Vector Byte 14 := Vector.replicate 14 0x07#8
       (decide (v[12].toNat % 8 = 0) && decide (v[13].toNat % 8 = 0)) = false) ∧
      (let v : Vector Byte 14 := Vector.replicate 14 0x08#8
       (decide (v[12].toNat % 8 = 0) && decide (v[13].toNat % 8 = 0)) = true) :=
  ⟨readyOf _ _ (by decide), by decide +kernel, by decide +kernel⟩

theorem witness_TimeIsSetByItsSource :
    Ready ready .panel ∧ ready.time.source = none ∧ ready.time.synced = false ∧
      (let s := { ready with time := { TimeBase.reset with synced := true, source := some .panel } }
       Ready s .panel ∧ s.time.source = some .panel ∧ s.time.minutes = 0#32 ∧ s.time.synced = true ∧
         Link.panel ≠ .heating ∧ Ready s .heating) :=
  ⟨readyOf _ _ (by decide), rfl, rfl, readyOf _ _ (by decide), rfl, rfl, rfl, by decide, readyOf _ _ (by decide)⟩

theorem witness_RequestsAreCheckedBeforeTheirOwner :
    requestOf (.fetch .panel 0) = some (.panel, 0, .fetch) ∧ (State.reset.links.get .panel).state = .listening ∧
      State.reset.isLoading = true ∧ ready.isLoading = false ∧ Request.fetch.kind = 0x0F#8 ∧
      (receivingLink [0xA5#8, 0x02#8]).frame ++ ([0x00#8, 0x0F#8, crc8 [0x02#8, 0x00#8, 0x0F#8]] : List Byte)
        = frameBytes 0#8 0x0F#8 [] ∧
      (∀ rest, (receivingLink [0xA5#8, 0x03#8]).frame ++ rest ≠ frameBytes 0#8 0x0F#8 []) ∧
      ((after (.status .panel 0) ready).links.get .panel).state = .replying ∧
      (0x13 < (0x14#8).toNat ∧ (List.replicate 48 0#8).length ≤ 48 ∧ 3 < (4#8).toNat ∧ (0x00#8 : Byte) ≠ 0xF0#8) := by
  refine ⟨rfl, rfl, by decide, by decide, rfl, by decide, ?_, by decide +kernel, by decide⟩
  intro rest h
  simp [receivingLink, frameBytes, frameBody, byte1, frameStart] at h

theorem witness_CrossingRowsWaitForTheirMoment :
    (ready.fans.get .supply).state ≠ .starting ∧ (ready.fans.get .supply).state ≠ .running ∧
      (ready.fans.get .supply).shortfallCount < 9 ∧ (ready.fans.get .supply).probeCount ≠ 2 ∧
      (ready.filters.records.get .supply).probeCount ≠ 2 ∧ ready.frost.record.stage ≠ .thaw ∧
      ready.settings.nat .thawGap * 6 ≤ ready.frost.record.gap ∧ ready.frost.record.stage ≠ .lockout ∧
      ready.frost.record.stage ≠ .blind ∧ ready.table.entries = [] ∧ ready.log.hourly.ticks ≠ 59 ∧
      ready.filters.hourTicks ≠ 59 ∧ (ready.humidity.zones.get .z1).state ≠ .boosting ∧
      (ready.humidity.zones.get .z1).failures ≠ 2 ∧ ready.runner.procedure = .idle ∧
      ready.store.writing = false ∧ State.reset.store.changed = false ∧ ready.isLoading = false := by
  decide +kernel

end Sys2Proof.Machine.Tests
end

section
/-! PROOFS. The demand table's minute tick taken apart: which entries leave the table, what the report of each does to
its link or its zone, and the notice that ends the tick (R14, R15, R122). -/

namespace Sys2Proof.Machine

/-! ### The countdown -/

@[simp] theorem Entry.countDown_source (e : Entry) : e.countDown.source = e.source := rfl
@[simp] theorem Entry.countDown_handle (e : Entry) : e.countDown.handle = e.handle := rfl

/-- An entry with no count at 0 leaves the table at the tick that finds its count at 1 (R14). -/
theorem Entry.isSpent_countDown {e : Entry} (h : ∀ n, e.remaining = some n → 1 ≤ n) :
    e.countDown.isSpent = (e.remaining == some 1) := by
  cases hr : e.remaining with
  | none => simp [isSpent, countDown, hr]
  | some n =>
    have := h n hr
    have pred : n - 1 = 0 ↔ n = 1 := by omega
    rw [Bool.eq_iff_iff]
    simp [isSpent, countDown, hr, pred]

/-- The removed entries are those at their last minute, in posting order (R14). -/
theorem DemandTable.spent_eq {t : DemandTable}
    (h : ∀ e ∈ t.entries, ∀ n, e.remaining = some n → 1 ≤ n) :
    t.spent = (t.entries.filter fun e => e.remaining == some 1).map Entry.countDown := by
  rw [spent, List.filter_map]
  exact congrArg _ (List.filter_congr fun e he => Entry.isSpent_countDown (h e he))

/-- The entries that stay are counted down (R14). -/
theorem DemandTable.ticked_eq {t : DemandTable}
    (h : ∀ e ∈ t.entries, ∀ n, e.remaining = some n → 1 ≤ n) :
    t.ticked =
      { t with entries := (t.entries.filter fun e => !(e.remaining == some 1)).map Entry.countDown } := by
  rw [ticked, List.filter_map]
  exact congrArg (fun es => { t with entries := es.map Entry.countDown })
    (List.filter_congr fun e he => congrArg not (Entry.isSpent_countDown (h e he)))

/-! ### A handle handed to its link -/

/-- A link record that is told of an expired entry (R15). -/
def LinkRecord.takeExpired (r : LinkRecord) (h : Nat) : LinkRecord :=
  { r with expired := joinExpired r.expired h }.deliver .demandExpired true

/-- No map gives DEMAND_EXPIRED to a link: it goes by address alone (R15, R165). -/
@[simp] theorem hasKind_deliveryMap_demandExpired (t : Settings) (m : Link) :
    hasKind ((deliveryMap t .demandExpired).get m) .demandExpired = false := by
  cases m <;> simp [deliveryMap]

/-- The report of a link's entry is the link's own: no other link hears of it (R15). -/
theorem reportExpired_link {e : Entry} {l : Link} (h : e.source = .link l) (s : State) :
    reportExpired s e = { s with links := s.links.set l ((s.links.get l).takeExpired e.handle) } := by
  have raised : reportExpired s e =
      { s with
        links := deliverAll (deliveryMap s.settings .demandExpired) .demandExpired (some l)
          (s.links.set l
            { s.links.get l with expired := joinExpired (s.links.get l).expired e.handle }) } := by
    rw [reportExpired, h]; rfl
  rw [raised]
  congr 1
  apply PerLink.ext_get
  intro m
  by_cases hm : m = l
  · simp [deliverAll, hm, LinkRecord.takeExpired]
  · simp [deliverAll, hm, Ne.symm hm]

/-- The handles of a link's entries, in posting order. -/
def handlesOf (l : Link) (es : List Entry) : List Nat :=
  (es.filter fun e => e.source == .link l).map Entry.handle

@[simp] theorem handlesOf_countDown (l : Link) (es : List Entry) :
    handlesOf l (es.map Entry.countDown) = handlesOf l es := by
  simp [handlesOf, List.filter_map, Function.comp_def]

theorem handlesOf_cons {e : Entry} {l : Link} (h : e.source = .link l) (es : List Entry) (m : Link) :
    handlesOf m (e :: es) = if m = l then e.handle :: handlesOf m es else handlesOf m es := by
  by_cases hm : m = l
  · simp [handlesOf, h, hm]
  · simp [handlesOf, h, hm, Ne.symm hm]

/-- The reports of links' entries hand each link its handles, and touch nothing else (R15). -/
theorem reportAll_links (es : List Entry) (h : ∀ e ∈ es, ∃ l, e.source = .link l) (s : State) :
    es.foldl reportExpired s =
      { s with links := s.links.mapWith fun l r => (handlesOf l es).foldl LinkRecord.takeExpired r } := by
  induction es generalizing s with
  | nil => rfl
  | cons e es ih =>
    obtain ⟨l, hl⟩ := h e (by simp)
    rw [List.foldl_cons, ih fun e he => h e (by simp [he]), reportExpired_link hl]
    congr 1
    apply PerLink.ext_get
    intro m
    by_cases hm : m = l <;> simp [handlesOf_cons hl, hm]

/-! ### What a link's handles leave of its record -/

/-- Handles that join one after the other leave the last 4 of the whole list (R15). -/
theorem foldl_joinExpired (hs : List Nat) {xs : List Nat} (hx : xs.length ≤ 4) :
    hs.foldl joinExpired xs = (xs ++ hs).drop ((xs ++ hs).length - 4) := by
  induction hs generalizing xs with
  | nil =>
    have all : (xs ++ []).length - 4 = 0 := by rw [List.append_nil]; omega
    rw [all, List.drop_zero, List.append_nil, List.foldl_nil]
  | cons h hs ih =>
    have hlen : (joinExpired xs h).length ≤ 4 := by
      simp only [joinExpired, expiredLimit, List.length_drop]; omega
    have joined : joinExpired xs h ++ hs = (xs ++ h :: hs).drop ((xs ++ [h]).length - 4) := by
      rw [joinExpired, expiredLimit, ← List.drop_append_of_le_length (by omega), List.append_assoc,
        List.singleton_append]
    rw [List.foldl_cons, ih hlen, joined, List.drop_drop, List.length_drop]
    congr 1
    simp only [List.length_append, List.length_cons, List.length_nil]
    omega

/-- Handles are listed one after the other; DEMAND_EXPIRED and its mark are set as soon as there is one (R15, R163). -/
theorem foldl_takeExpired (hs : List Nat) (r : LinkRecord) :
    hs.foldl LinkRecord.takeExpired r =
      { r with
        expired := hs.foldl joinExpired r.expired
        pending := if hs = [] then r.pending else r.pending ||| oneKind .demandExpired
        addressed := if hs = [] then r.addressed else r.addressed ||| oneKind .demandExpired
        attention := if hs = [] then r.attention else true } := by
  induction hs generalizing r with
  | nil => rfl
  | cons h hs ih =>
    rw [List.foldl_cons, ih]
    simp [LinkRecord.takeExpired, LinkRecord.deliver, BitVec.or_assoc]

/-! ### The tick -/

/-- The tick of a table with entries at their last minute: the reports and one notice (R14). -/
theorem execEntryExpiry_eq {s : State} {last : List Entry}
    (hlast : last = s.table.entries.filter fun e => e.remaining == some 1) (hne : last ≠ [])
    (h : ∀ e ∈ s.table.entries, ∀ n, e.remaining = some n → 1 ≤ n) :
    exec .entryExpiry s =
      .next (notice ((last.map Entry.countDown).foldl reportExpired { s with table := s.table.ticked })) := by
  have hs : s.table.spent = last.map Entry.countDown := hlast ▸ DemandTable.spent_eq h
  have hempty : s.table.spent.isEmpty = false := by simpa [hs] using hne
  show Host.Outcome.next (if s.table.spent.isEmpty then s else demandMinute s) = _
  rw [hempty, if_neg (by decide), demandMinute, hempty, if_neg (by decide), hs]

/-- A RECOVERING zone's expired entry: the zone is QUIET or STALE, with its boost timer at 0 (R122). -/
theorem zoneExpired_recovering {z : ZoneRecord} (h : z.state = .recovering) (t : Settings) (n : Zone) :
    zoneExpired t n z =
      { record := { z with state := if z.stale then .stale else .quiet, boostTimer := 0 }
        reports := [(if z.stale then .stale else .quiet, .expired)]
        action := .keep
        sensor := none } := by
  simp [zoneExpired, h]

/-- The report of a RECOVERING zone's entry (R122, R124). -/
theorem reportExpired_recovering {s : State} {e : Entry} {n : Zone} {z : ZoneRecord} (he : e.source = .zone n)
    (hz : s.humidity.zones.get n = z) (hr : z.state = .recovering) :
    (reportExpired s e).humidity = { s.humidity with
      zones := s.humidity.zones.set n
        { z with state := if z.stale then .stale else .quiet, boostTimer := 0 } } ∧
    (reportExpired s e).table = s.table ∧
    Told s (reportExpired s e)
      [.zone n (if z.stale then .stale else .quiet) (z.last.map Sample.ah) .expired] (byMap s [.zoneState]) := by
  have eq : reportExpired s e = applyZoneMove s n (zoneExpired s.settings n z) := by
    simp [reportExpired, he, hz]
  rw [eq, zoneExpired_recovering hr]
  exact ⟨applyZoneMove_humidity .., applyZoneMove_table .., Told.applyZoneMove ..⟩

end Sys2Proof.Machine

namespace Sys2Proof

open Machine

/-- Settles O40: by the closed form of the reports over links' entries, and by the move of a RECOVERING zone. -/
theorem expiredEntriesAreReported : Obligations.ExpiredEntriesAreReported := by
  intro s last hlast hne hpos
  have run := execEntryExpiry_eq hlast hne hpos
  have ticked := DemandTable.ticked_eq hpos
  refine ⟨fun hlinks hlen => ⟨_, run, ?_⟩, ?_⟩
  · have reports := reportAll_links (last.map Entry.countDown) (by simpa using hlinks)
      { s with table := s.table.ticked }
    rw [reports]
    refine ⟨ticked, ?_, fun hload => Resolved.notice _ hload, rfl⟩
    intro l hs (hhs : hs = handlesOf l last)
    have record : ((s.links.mapWith fun l r =>
        (handlesOf l (last.map Entry.countDown)).foldl LinkRecord.takeExpired r).get l) = _ :=
      (PerLink.get_mapWith ..).trans (foldl_takeExpired ..)
    rw [handlesOf_countDown, ← hhs] at record
    simp only [notice_links]
    rw [record]
    refine ⟨foldl_joinExpired hs (hlen l), rfl, rfl, rfl, fun k => ?_⟩
    by_cases hnil : hs = [] <;> simp [hnil]
  · rintro e n z rfl he hz hr
    refine ⟨_, run, ?_⟩
    obtain ⟨humidity, table, told⟩ :=
      reportExpired_recovering (s := { s with table := s.table.ticked }) (e := e.countDown) he hz hr
    simp only [List.map_cons, List.map_nil, List.foldl_cons, List.foldl_nil]
    have told' := told.congr (s' := s) (t' := notice _) rfl rfl rfl rfl rfl rfl rfl rfl
    refine ⟨table.trans ticked, humidity, told'.1.wrote (by simp), told'.2.1, fun hload => Resolved.notice _ ?_, ?_⟩
    · rw [isLoading_congr (s := s) (by simp)]; exact hload
    · apply State.eq_of_fields <;> simp

end Sys2Proof
end

section
/-! PROOFS. The flow probe at a control step: what each reading leaves of the measurement, the square root of R46,
and the band judged on what the step leaves (R46, R48, R53). -/

namespace Sys2Proof.Machine

/-! ### The judgement of a reading -/

theorem goodReading_reading {dp : Nat} (h : dp ≤ 5000) : goodReading (.reading dp) = some dp := if_pos h

section
variable {x : FanRecord} {c : Conversion} {dp : Nat} (k w : Nat)

/-- A good reading of a healthy probe sets Q (R46, R48). -/
theorem FanRecord.probed_good (hf : x.probeFault = false) (hc : goodReading c = some dp) :
    (x.probed k w c).flow = flowOf k dp ∧ (x.probed k w c).probeFault = false := by
  simp [probed, judgeProbe, count, hf, hc]

/-- A bad reading of a healthy probe holds Q, and makes the fault when two bad ones went before it (R48). -/
theorem FanRecord.probed_bad (hf : x.probeFault = false) (hc : goodReading c = none) :
    (x.probed k w c).flow = x.flow ∧ (x.probed k w c).probeFault = decide (2 ≤ x.probeCount) := by
  by_cases few : x.probeCount < 2
  · simp [probed, judgeProbe, count, hf, hc, few]
  · simp [probed, judgeProbe, count, loseProbe, hf, hc, few, Nat.not_lt.mp few]

/-- A bad reading of a faulted probe starts the count towards recovery again (R48). -/
theorem FanRecord.probed_faulted_bad (hf : x.probeFault = true) (hc : goodReading c = none) :
    (x.probed k w c).flow = x.flow ∧ (x.probed k w c).probeFault = true ∧ (x.probed k w c).probeCount = 0 := by
  simp [probed, judgeProbe, count, hf, hc]

/-- The first two good readings of a faulted probe are counted, with Q held (R48). -/
theorem FanRecord.probed_faulted_counts (hf : x.probeFault = true) (hc : goodReading c = some dp)
    (few : x.probeCount < 2) :
    (x.probed k w c).flow = x.flow ∧ (x.probed k w c).probeFault = true ∧
      (x.probed k w c).probeCount = x.probeCount + 1 := by
  simp [probed, judgeProbe, count, hf, hc, few]

/-- The third good reading of a faulted probe ends the fault and sets Q (R48). -/
theorem FanRecord.probed_recovers (hf : x.probeFault = true) (hc : goodReading c = some dp)
    (third : 2 ≤ x.probeCount) :
    (x.probed k w c).flow = flowOf k dp ∧ (x.probed k w c).probeFault = false ∧
      (x.probed k w c).probeCount = 0 := by
  simp [probed, judgeProbe, count, regainProbe, hf, hc, Nat.not_lt.mpr third]

end

/-! ### The root term -/

/-- The bound of 707 is enough for every good reading: the term is the whole square root itself (R46). -/
theorem rootTerm_spec {dp : Nat} (h : dp ≤ 5000) :
    rootTerm dp * rootTerm dp ≤ dp * 100 ∧ dp * 100 < (rootTerm dp + 1) * (rootTerm dp + 1) := by
  obtain ⟨below, above⟩ := sqrtUpTo_spec (dp * 100) 707
  exact ⟨below, above (by omega)⟩

/-! ### What the rest of the step leaves -/

/-- After its measurement a step leaves Q, the probe's fault and count, and the target (R49). -/
theorem FanRecord.step_measures (x : FanRecord) (t : Settings) (k w : Nat) (c : Conversion) :
    (x.step t k w c).flow = (x.probed k w c).flow ∧
      (x.step t k w c).probeFault = (x.probed k w c).probeFault ∧
      (x.step t k w c).probeCount = (x.probed k w c).probeCount ∧ (x.step t k w c).target = w := by
  obtain ⟨u, v, shape⟩ := FanRecord.step_shape x t k w c
  obtain ⟨target, -, -, flow, fault, count, -⟩ := FanRecord.act_keeps (x.probed k w c) t
  rw [shape]
  exact ⟨flow, fault, count, target.trans (FanRecord.probed_keeps x k w c).1⟩

/-- The band is judged on the Q and the target a step leaves, and held while the probe is faulted (R53). -/
theorem FanRecord.step_band (x : FanRecord) (t : Settings) (k w : Nat) (c : Conversion) :
    (x.step t k w c).band =
      if (x.step t k w c).probeFault then x.band
      else bandOf (x.step t k w c).target (x.step t k w c).flow := by
  obtain ⟨flow, fault, -, target⟩ := FanRecord.step_measures x t k w c
  obtain ⟨u, v, shape⟩ := FanRecord.step_shape x t k w c
  rw [flow, fault, target, shape]

end Sys2Proof.Machine

namespace Sys2Proof

open Machine

/-- Settles O24: the step leaves what the judgement of the reading set, and the band is read off that. -/
theorem controlStepJudgesTheFlowProbe : Obligations.ControlStepJudgesTheFlowProbe := by
  intro s inp f x p hx hp
  have conversion : p = flowInput inp f := by rw [hp]; cases f <;> rfl
  refine ⟨_, rfl, ?_⟩
  rw [controlStep_fans, hx, ← conversion]
  generalize s.settings.nat (ringKey f) = k
  generalize s.op.target f = w
  obtain ⟨flow, fault, count, -⟩ := FanRecord.step_measures x s.settings k w p
  have band := FanRecord.step_band x s.settings k w p
  refine ⟨?good, ?bad, ?faultedBad, ?faultedCounts, ?recovers, ?held, ?judged⟩
  case good =>
    rintro dp rfl hdp hf
    obtain ⟨set, healthy⟩ := FanRecord.probed_good k w hf (goodReading_reading hdp)
    obtain ⟨below, above⟩ := rootTerm_spec hdp
    exact ⟨fault.trans healthy, rootTerm dp, below, above, flow.trans set⟩
  case bad =>
    rintro rfl hf
    rw [flow, fault]
    exact FanRecord.probed_bad k w hf rfl
  case faultedBad =>
    rintro rfl hf
    rw [flow, fault, count]
    exact FanRecord.probed_faulted_bad k w hf rfl
  case faultedCounts =>
    rintro dp rfl hdp hf few
    rw [flow, fault, count]
    exact FanRecord.probed_faulted_counts k w hf (goodReading_reading hdp) few
  case recovers =>
    rintro dp rfl hdp hf third
    rw [flow, fault, count]
    exact FanRecord.probed_recovers k w hf (goodReading_reading hdp) third
  case held =>
    intro hf
    rw [band, if_pos hf]
  case judged =>
    intro hf
    rw [band, hf]
    exact if_neg (by decide)

end Sys2Proof
end

section
/-! PROOFS. The rows that name a crossing: one lemma for each, that it changes nothing before its moment
(assumption 1). -/

namespace Sys2Proof.Machine

/-- A guarded row leaves the state as it is while its guard does not hold. -/
theorem next_of_guard_fails {c : Prop} [Decidable c] {s t : State} (h : ¬c) :
    (Host.Outcome.next (if c then t else s) : Host.Outcome State Fault Refusal) = .next s := by
  rw [if_neg h]

/-! ### The fan block -/

section
variable {s : State} {f : Side} {x : FanRecord}

/-- Below the count of 4, or at speed, a control step does not bring the low-speed count to 5 (R55). -/
theorem FanRecord.lowSpeedNext_lt (t : Settings) (h : x.lowSpeed < 4 ∨ 200 ≤ x.speed) : x.lowSpeedNext t < 5 := by
  unfold FanRecord.lowSpeedNext
  split <;> omega

/-- The shortfall flag is not set before the count reaches 59 (R54). -/
theorem FanRecord.judgeShortfall_unset (t : Settings) (h : x.shortfall = false) (hc : x.shortfallCount < 59) :
    (x.judgeShortfall t).shortfall = false := by
  have early : ¬59 ≤ x.shortfallCount := by omega
  unfold FanRecord.judgeShortfall
  by_cases judged : x.state = .running ∧ 0 < x.target ∧ x.probeFault = false
  · rw [if_pos judged, if_neg (by simp [h]), if_neg early]
    split <;> exact h
  · rw [if_neg judged]
    exact h

/-- The shortfall flag is not cleared before the count reaches 9 (R54). -/
theorem FanRecord.judgeShortfall_set (t : Settings) (h : x.shortfall = true) (hc : x.shortfallCount < 9) :
    (x.judgeShortfall t).shortfall = true := by
  have early : ¬9 ≤ x.shortfallCount := by omega
  unfold FanRecord.judgeShortfall
  by_cases judged : x.state = .running ∧ 0 < x.target ∧ x.probeFault = false
  · rw [if_pos judged, if_pos h, if_neg early]
    split <;> exact h
  · rw [if_neg judged]
    exact h

theorem fanRunningEntry_waits (hx : s.fans.get f = x) (h : x.state ≠ .starting ∨ x.phase ≠ 1 ∨ x.target = 0) :
    exec (.fanRunningEntry f) s = .next s := by
  subst hx
  refine next_of_guard_fails ?_
  rintro ⟨starting, phase, target⟩
  obtain h | h | h := h
  · exact h starting
  · exact h phase
  · omega

theorem fanStall_waits (hx : s.fans.get f = x) (h : x.state ≠ .running ∨ x.lowSpeed < 4 ∨ 200 ≤ x.speed) :
    exec (.fanStall f) s = .next s := by
  subst hx
  refine next_of_guard_fails ?_
  rintro ⟨running, -, low⟩
  obtain h | h := h
  · exact h running
  · exact absurd low (Nat.not_le.mpr (FanRecord.lowSpeedNext_lt _ h))

theorem fanRetryStart_waits (hx : s.fans.get f = x) (h : x.state ≠ .stalled ∨ x.phase ≠ 1) :
    exec (.fanRetryStart f) s = .next s := by
  subst hx
  exact next_of_guard_fails fun ⟨inState, last⟩ => h.elim (· inState) (· last)

theorem fanRetryEnd_waits (hx : s.fans.get f = x) (h : x.state ≠ .retrying ∨ x.phase ≠ 1) :
    exec (.fanRetryEnd f) s = .next s := by
  subst hx
  exact next_of_guard_fails fun ⟨inState, last⟩ => h.elim (· inState) (· last)

theorem shortfallSet_waits (hx : s.fans.get f = x) (h : x.shortfall = true ∨ x.shortfallCount < 59) :
    exec (.shortfallSet f) s = .next s := by
  subst hx
  refine next_of_guard_fails ?_
  rintro ⟨clear, sets⟩
  have early := h.resolve_left (by simp [clear])
  simp [FanRecord.judgeShortfall_unset _ clear early] at sets

theorem shortfallCleared_waits (hx : s.fans.get f = x) (h : x.shortfall = false ∨ x.shortfallCount < 9) :
    exec (.shortfallCleared f) s = .next s := by
  subst hx
  refine next_of_guard_fails ?_
  rintro ⟨set, clears⟩
  have early := h.resolve_left (by simp [set])
  simp [FanRecord.judgeShortfall_set _ set early] at clears

theorem attemptCountReset_waits (hx : s.fans.get f = x) (h : x.state ≠ .running ∨ x.run ≠ 59) :
    exec (.attemptCountReset f) s = .next s := by
  subst hx
  exact next_of_guard_fails fun ⟨inState, last⟩ => h.elim (· inState) (· last)

theorem flowProbeFault_waits (hx : s.fans.get f = x) (h : x.probeFault = true ∨ x.probeCount ≠ 2) :
    exec (.flowProbeFault f) s = .next s := by
  subst hx
  refine next_of_guard_fails ?_
  rintro ⟨healthy, third⟩
  simp [healthy, third] at h

theorem flowProbeRecover_waits (hx : s.fans.get f = x) (h : x.probeFault = false ∨ x.probeCount ≠ 2) (dp : Nat) :
    exec (.flowProbeRecover f dp) s = .next s := by
  subst hx
  refine next_of_guard_fails ?_
  rintro ⟨faulted, third, -⟩
  simp [faulted, third] at h

end

/-! ### The filter monitor -/

section
variable {s : State} {f : Side} {x : FilterRecord}

theorem filterProbeFault_waits (hx : s.filters.records.get f = x) (h : x.probeFault = true ∨ x.probeCount ≠ 2) :
    exec (.filterProbeFault f) s = .next s := by
  subst hx
  refine next_of_guard_fails ?_
  rintro ⟨healthy, third⟩
  simp [healthy, third] at h

theorem filterProbeRecover_waits (hx : s.filters.records.get f = x) (h : x.probeFault = false ∨ x.probeCount ≠ 2)
    (dp : Nat) : exec (.filterProbeRecover f dp) s = .next s := by
  subst hx
  refine next_of_guard_fails ?_
  rintro ⟨faulted, third, -⟩
  simp [faulted, third] at h

end

section
variable {s : State}

theorem filterFieldsHandover_waits (h : s.filters.hourTicks ≠ 59) : exec .filterFieldsHandover s = .next s :=
  next_of_guard_fails fun ⟨_, due⟩ => h due

/-! ### The frost guard -/

/-- A frost step adds at most 1 to the success count (R78). -/
theorem FrostRecord.countThaw_success_le (g : FrostRecord) (t : Settings) (eha : Int) :
    (g.countThaw t eha).success ≤ g.success + 1 := by
  unfold FrostRecord.countThaw
  dsimp only
  split <;> omega

theorem thawSuccess_waits (h : s.frost.record.stage ≠ .thaw ∨ s.frost.record.success < 17) :
    exec .thawSuccess s = .next s := by
  show execThawSuccess s = _
  unfold execThawSuccess
  split
  · rfl
  · rename_i v _
    refine next_of_guard_fails ?_
    rintro ⟨thaw, reached⟩
    have early := h.resolve_left (not_not_intro thaw)
    have counted := s.frost.record.countThaw_success_le s.settings v
    omega

theorem thawTimeout_waits
    (h : s.frost.record.stage ≠ .thaw ∨ s.frost.record.elapsed + 1 < s.settings.nat .thawMax * 6) :
    exec .thawTimeout s = .next s := by
  show execThawTimeout s = _
  unfold execThawTimeout
  split
  · rfl
  · refine next_of_guard_fails ?_
    rintro ⟨thaw, -, (reached : s.settings.nat .thawMax * 6 ≤ s.frost.record.elapsed + 1)⟩
    exact absurd reached (Nat.not_le.mpr (h.resolve_left (not_not_intro thaw)))

theorem thawGapElapsed_waits
    (h : s.settings.nat .thawGap * 6 ≤ s.frost.record.gap ∨
      s.frost.record.gap + 1 < s.settings.nat .thawGap * 6) :
    exec .thawGapElapsed s = .next s := by
  refine next_of_guard_fails ?_
  rintro ⟨before, reached⟩
  have short := of_decide_eq_false before
  have counted : s.settings.nat .thawGap * 6 ≤ min (s.frost.record.gap + 1) 720 := of_decide_eq_true reached
  omega

theorem lockoutRelease_waits (h : s.frost.record.stage ≠ .lockout ∨ s.frost.record.warmth < 359) :
    exec .lockoutRelease s = .next s := by
  refine next_of_guard_fails ?_
  rintro ⟨lockout, reached, -⟩
  have early := h.resolve_left (not_not_intro lockout)
  omega

theorem blindPhaseEnd_waits (h : s.frost.record.stage ≠ .blind ∨ s.frost.record.blindCount ≠ 1) :
    exec .blindPhaseEnd s = .next s :=
  next_of_guard_fails fun ⟨blind, last, _⟩ => h.elim (· blind) (· last)

/-! ### The minute tick -/

/-- With more than a minute left in every timed entry none leaves the table at the tick (R14). -/
theorem DemandTable.spent_eq_nil {t : DemandTable} (h : ∀ e ∈ t.entries, ∀ n, e.remaining = some n → 1 < n) :
    t.spent = [] := by
  rw [DemandTable.spent_eq fun e he n hn => Nat.le_of_lt (h e he n hn), List.map_eq_nil_iff, List.filter_eq_nil_iff]
  intro e he last
  exact absurd (h e he 1 (by simpa using last)) (Nat.lt_irrefl 1)

theorem entryExpiry_waits (h : ∀ e ∈ s.table.entries, ∀ n, e.remaining = some n → 1 < n) :
    exec .entryExpiry s = .next s := by
  show Host.Outcome.next (if s.table.spent.isEmpty then s else demandMinute s) = _
  rw [DemandTable.spent_eq_nil h, List.isEmpty_nil, if_pos rfl]

theorem hourlyRecord_waits (h : s.log.hourly.ticks ≠ 59) : exec .hourlyRecord s = .next s :=
  next_of_guard_fails fun ⟨_, due⟩ => h due

/-! ### The humidity sensors -/

theorem boostRebaseline_waits {n : Zone} (h : (s.humidity.zones.get n).state ≠ .boosting) :
    exec (.boostRebaseline n) s = .next s :=
  next_of_guard_fails (by simp [boostSpent, h])

theorem sensorStale_waits {n : Zone} (h : (s.humidity.zones.get n).failures ≠ 2) :
    exec (.sensorStale (.zone n)) s = .next s :=
  next_of_guard_fails fun ⟨third, _⟩ => h third

/-! ### The procedure and the store -/

/-- With the runner IDLE no row of a procedure is taken (R145). -/
theorem procedureRows_wait (h : s.runner.procedure = .idle) :
    exec .procedureSecond s = .next s ∧ exec .flowCheck s = .next s ∧ exec .procedureSample s = .next s := by
  refine ⟨?_, ?_, ?_⟩
  · show Host.Outcome.next (procedureSecond s) = _
    simp [procedureSecond, h]
  · show execFlowCheck s = _
    simp [execFlowCheck, h]
  · show execProcedureSample s = _
    simp [execProcedureSample, h]

theorem imageWriteEnd_waits (h : s.store.writing = false) (acked : Bool) (bytes : List Byte) :
    exec (.imageWriteEnd acked bytes) s = .next s :=
  next_of_guard_fails (by simp [h])

theorem writeBehindStart_waits (h : s.store.changed = false) : exec .writeBehindStart s = .next s := by
  have notDue : s.store.startDue = false := by simp [Store.startDue, h]
  show Host.Outcome.next { s with store := if s.store.startDue then s.store.startWrite else s.store } = _
  rw [notDue, if_neg (by decide)]

theorem loadEnd_waits (h : s.isLoading = false) (r : ImageRead) : exec (.loadEnd r) s = .next s :=
  next_of_guard_fails (by simp [h])

end

end Sys2Proof.Machine

namespace Sys2Proof

open Machine

/-- Settles O60: row by row, each guard fails before the row's moment. -/
theorem crossingRowsWaitForTheirMoment : Obligations.CrossingRowsWaitForTheirMoment := by
  intro s
  refine ⟨fun f x hx => ?fans, fun f x hx => ?filters, ?others⟩
  case fans =>
    exact ⟨fanRunningEntry_waits hx, fanStall_waits hx, fanRetryStart_waits hx, fanRetryEnd_waits hx,
      shortfallSet_waits hx, shortfallCleared_waits hx, attemptCountReset_waits hx, flowProbeFault_waits hx,
      flowProbeRecover_waits hx⟩
  case filters => exact ⟨filterProbeFault_waits hx, filterProbeRecover_waits hx⟩
  case others =>
    exact ⟨thawSuccess_waits, thawTimeout_waits, thawGapElapsed_waits, lockoutRelease_waits, blindPhaseEnd_waits,
      entryExpiry_waits, hourlyRecord_waits, filterFieldsHandover_waits, fun _ => boostRebaseline_waits,
      fun _ => sensorStale_waits, procedureRows_wait, imageWriteEnd_waits, writeBehindStart_waits, loadEnd_waits⟩

end Sys2Proof
end

section
/-! PROOFS. The sensor bus controller taken apart: the reply window, the grant decision and a link's pass-through
record, each said once (R95, R96, R100, R105, R107). -/

namespace Sys2Proof.Machine

section
variable {b : Bus} {t : Settings} {z : PerZone ZoneRecord} {l : Link} {waiting : List Link}

/-! ### The reply window -/

/-- A transaction whose window is open takes the bytes and the ends (R95, R96). -/
theorem Bus.awaiting?_eq {x : Transaction} (hx : b.transaction = some x) (hp : x.phase = .awaiting) :
    b.awaiting? = some x := by simp [awaiting?, hx, hp]

/-- Outside the window there is nothing to take (R92, R96). -/
theorem Bus.awaiting?_eq_none (h : ∀ x, b.transaction = some x → x.phase = .sending) : b.awaiting? = none := by
  unfold awaiting?
  cases ht : b.transaction with
  | none => rfl
  | some x => simp [h x ht]

/-! ### A pass-through's start (R105) -/

theorem Bus.startPass_queued {req : BusRequest} (h : b.pass.get l = .queued req) (rest : List Link) :
    b.startPass l rest =
      { b with
        passQueue := rest
        pass := b.pass.set l (.active req false)
        transaction := some { originator := .passThrough l, request := req, phase := .sending, reply := [] }
        credit := 0 } := by
  rw [startPass, h]; rfl

/-- A start touches no record but a QUEUED one. -/
theorem Bus.startPass_pass {m : Link} (h : ∀ req, b.pass.get m ≠ .queued req) (rest : List Link) :
    (b.startPass l rest).pass.get m = b.pass.get m := by
  unfold startPass
  split
  next req queued =>
    have other : m ≠ l := fun e => h req (e ▸ queued)
    simp [other]
  next => rfl

/-! ### The selection (R100, R107) -/

/-- With no one waiting on either queue the bus stays idle. -/
theorem Bus.select_nil (noPass : b.passQueue = []) : b.select t z [] = { b with scanQueue := [] } := by
  simp [select, noPass]

/-- A waiting pass-through has the bus when no scanner entry is left. -/
theorem Bus.select_nil_pass (first : b.passQueue = l :: waiting) :
    b.select t z [] = ({ b with scanQueue := [] } : Bus).startPass l waiting := by
  simp [select, first]

/-- A waiting pass-through has the bus when the credit has reached `scan_quota`. -/
theorem Bus.select_quota (first : b.passQueue = l :: waiting) (due : t.nat .scanQuota ≤ b.credit)
    (q : List Sensor) : b.select t z q = ({ b with scanQueue := q } : Bus).startPass l waiting := by
  cases q with
  | nil => exact select_nil_pass first
  | cons n ns => simp [select, first, due]

/-- While the scanner has its turn an entry of an UNUSED zone is dropped. -/
theorem Bus.select_unused (turn : b.passQueue = [] ∨ b.credit < t.nat .scanQuota) {n : Sensor}
    (h : sensorUnused z n = true) (ns : List Sensor) : b.select t z (n :: ns) = b.select t z ns := by
  rw [select]
  split
  next => rw [if_pos h]
  next l rest first =>
    have early : b.credit < t.nat .scanQuota := turn.resolve_left (by simp [first])
    rw [if_neg (Nat.not_le.mpr early), if_pos h]

theorem Bus.select_dropped (turn : b.passQueue = [] ∨ b.credit < t.nat .scanQuota) {dropped : List Sensor}
    (h : ∀ n ∈ dropped, sensorUnused z n = true) (later : List Sensor) :
    b.select t z (dropped ++ later) = b.select t z later := by
  induction dropped with
  | nil => rfl
  | cons n ns ih =>
    rw [List.cons_append, select_unused turn (h n (by simp)), ih fun m hm => h m (by simp [hm])]

/-- While the scanner has its turn its oldest entry that is not dropped starts. -/
theorem Bus.select_scan (turn : b.passQueue = [] ∨ b.credit < t.nat .scanQuota) {n : Sensor}
    (h : sensorUnused z n = false) (ns : List Sensor) : b.select t z (n :: ns) = b.startScan t n ns := by
  rw [select]
  split
  next => rw [if_neg (by simp [h])]
  next l rest first =>
    have early : b.credit < t.nat .scanQuota := turn.resolve_left (by simp [first])
    rw [if_neg (Nat.not_le.mpr early), if_neg (by simp [h])]

/-- A selection touches no pass-through record but a QUEUED one. -/
theorem Bus.select_pass {m : Link} (h : ∀ req, b.pass.get m ≠ .queued req) (q : List Sensor) :
    (b.select t z q).pass.get m = b.pass.get m := by
  have started : ∀ q l rest, (({ b with scanQueue := q } : Bus).startPass l rest).pass.get m = b.pass.get m :=
    fun q _ rest => startPass_pass (b := { b with scanQueue := q }) h rest
  induction q with
  | nil =>
    rw [select]
    split
    next => rfl
    next => exact started ..
  | cons n ns ih =>
    rw [select]
    split
    next =>
      split
      next => exact ih
      next => rfl
    next =>
      split
      next => exact started ..
      next =>
        split
        next => exact ih
        next => rfl

end

/-! ### The grant decision on a state (R107) -/

section
variable {s : State}

/-- No grant is made while a transaction is in flight. -/
theorem grant_busy {x : Transaction} (h : s.bus.transaction = some x) : grant s = s := by
  simp [grant, Bus.grant, h, setBus]

theorem grant_idle (h : s.bus.transaction = none) :
    grant s = setBus s (s.bus.select s.settings s.humidity.zones s.bus.scanQueue) := by
  simp [grant, Bus.grant, h]

/-- With no one waiting a grant decision changes nothing. -/
theorem grant_no_one (idle : s.bus.transaction = none) (noScan : s.bus.scanQueue = [])
    (noPass : s.bus.passQueue = []) : grant s = s := by
  rw [grant_idle idle, noScan, Bus.select_nil noPass, ← noScan]
  rfl

/-- A grant decision touches no pass-through record but a QUEUED one. -/
theorem grant_pass {m : Link} (h : ∀ req, s.bus.pass.get m ≠ .queued req) :
    (grant s).bus.pass.get m = s.bus.pass.get m := by
  unfold grant Bus.grant setBus
  split
  next => rfl
  next => exact Bus.select_pass h _

end

end Sys2Proof.Machine
end

section
/-! PROOFS. PROBE and FETCH: which request the values of a PROBE give, and the answer in each state of the link's
record (R102 to R104). -/

namespace Sys2Proof.Machine

section
variable {s : State} {l : Link} {a c r : Byte}

/-! ### The values of a PROBE (R103) -/

theorem busCommandOf_eq_none (sample : c ≠ 0x01#8) (read : c ≠ 0x02#8) : busCommandOf c = none := by
  unfold busCommandOf
  split
  next h => exact absurd (BitVec.eq_of_toNat_eq h) sample
  next h => exact absurd (BitVec.eq_of_toNat_eq h) read
  next => rfl

theorem probeRequest_bad
    (h : a.toNat < 1 ∨ 14 < a.toNat ∨ (c ≠ 0x01#8 ∧ c ≠ 0x02#8) ∨ (c = 0x02#8 ∧ 31 < r.toNat)) :
    probeRequest a c r = none := by
  unfold probeRequest
  by_cases address : 1 ≤ a.toNat ∧ a.toNat ≤ 14
  · rw [if_pos address]
    obtain h | h | ⟨sample, read⟩ | ⟨rfl, h⟩ := h
    · omega
    · omega
    · rw [busCommandOf_eq_none sample read]
    · exact if_neg (Nat.not_le.mpr h)
  · exact if_neg address

theorem probeRequest_sample (low : 1 ≤ a.toNat) (high : a.toNat ≤ 14) :
    probeRequest a 0x01#8 r = some { address := a.toNat, command := .sample, register := 0 } :=
  if_pos ⟨low, high⟩

theorem probeRequest_readReg (low : 1 ≤ a.toNat) (high : a.toNat ≤ 14) (hr : r.toNat ≤ 31) :
    probeRequest a 0x02#8 r = some { address := a.toNat, command := .readReg, register := r.toNat } :=
  (if_pos ⟨low, high⟩).trans (if_pos hr)

/-! ### The answers by the record's state -/

theorem answerProbe_bad (h : probeRequest a c r = none) : answerProbe s l a c r = .plain s .bad := by
  rw [answerProbe, h]

/-- A link that waits or is served already is BUSY (R103). -/
theorem answerProbe_busy {req : BusRequest} (h : probeRequest a c r = some req)
    (taken : (∃ q, s.bus.pass.get l = .queued q) ∨ ∃ q m, s.bus.pass.get l = .active q m) :
    answerProbe s l a c r = .plain s .busy := by
  rw [answerProbe, h]
  obtain ⟨q, state⟩ | ⟨q, m, state⟩ := taken <;> simp [state]

/-- From IDLE or DONE the request is taken (R103). -/
theorem answerProbe_taken {req : BusRequest} (h : probeRequest a c r = some req)
    (free : s.bus.pass.get l = .idle ∨ ∃ q o, s.bus.pass.get l = .done q o) :
    answerProbe s l a c r = .plain (queuePass s l req) .pending := by
  rw [answerProbe, h]
  obtain state | ⟨q, o, state⟩ := free <;> simp [state]

/-- Behind a transaction in flight the link waits at the end of the queue (R103). -/
theorem queuePass_busy {x : Transaction} (h : s.bus.transaction = some x) (req : BusRequest) :
    queuePass s l req =
      { s with bus :=
        { s.bus with passQueue := s.bus.passQueue ++ [l], pass := s.bus.pass.set l (.queued req) } } :=
  grant_busy h

/-- On an idle bus the pass-through is in flight at once (R103, R105, R107). -/
theorem queuePass_idle (idle : s.bus.transaction = none) (noScan : s.bus.scanQueue = [])
    (noPass : s.bus.passQueue = []) (req : BusRequest) :
    queuePass s l req =
      { s with bus :=
        { s.bus with
          pass := s.bus.pass.set l (.active req false)
          credit := 0
          transaction := some
            { originator := .passThrough l, request := req, phase := .sending, reply := [] } } } := by
  unfold queuePass
  rw [grant_idle (by exact idle)]
  simp only [setBus, noScan, noPass, List.nil_append]
  rw [Bus.select_nil_pass rfl, Bus.startPass_queued (req := req) (by simp)]
  simp

theorem answerFetch_done {q : BusRequest} {o : BusOutcome} (h : s.bus.pass.get l = .done q o) :
    answerFetch s l =
      .ok { s with bus := { s.bus with pass := s.bus.pass.set l .idle } } (q.body ++ fetchOutcomeBytes o) := by
  rw [answerFetch, h]; rfl

end

/-! ### The requests on a ready SERVICE link -/

section
variable {s : State} (ready : Ready s .service) (tag : Byte)
include ready

/-- PROBE is the answer of R103, sent as its reply. -/
theorem exec_probe_service {a c r : Byte} {u : State} {code : ResultCode}
    (h : answerProbe s .service a c r = .plain u code) :
    exec (.probe .service tag a c r) s = .next (onlyReply u .service tag 0x0E#8 code []) := by
  have taken := takeRequest_ready ready tag (.probe a c r) fun _ => rfl
  exact congrArg _ (taken.trans (congrArg (reply .service tag 0x0E#8) h))

/-- FETCH is the answer of R104, sent as its reply. -/
theorem exec_fetch_service :
    exec (.fetch .service tag) s = .next (reply .service tag 0x0F#8 (answerFetch s .service)) :=
  congrArg _ (takeRequest_ready ready tag .fetch fun _ => rfl)

theorem exec_fetch_plain {code : ResultCode} (h : answerFetch s .service = .plain s code) :
    exec (.fetch .service tag) s = .next (onlyReply s .service tag 0x0F#8 code []) := by
  rw [exec_fetch_service ready, h]; rfl

end

end Sys2Proof.Machine

namespace Sys2Proof

open Machine

/-- Settles O50: the values of a PROBE give its request, and the record's state its answer. -/
theorem probeAndFetchFollowTheRecord : Obligations.ProbeAndFetchFollowTheRecord := by
  rintro s tag p ready rfl
  refine ⟨?bad, ?probe, ?idle, ?queued, ?active, ?done⟩
  case bad => exact fun a c r h => exec_probe_service ready tag (answerProbe_bad (probeRequest_bad h))
  case probe =>
    intro a c r req low high values
    have request : probeRequest a c r = some req := by
      obtain ⟨rfl, rfl⟩ | ⟨rfl, hr, rfl⟩ := values
      · exact probeRequest_sample low high
      · exact probeRequest_readReg low high hr
    refine ⟨fun taken => exec_probe_service ready tag (answerProbe_busy request taken), fun free => ?_⟩
    have sent := exec_probe_service ready tag (answerProbe_taken request free)
    refine ⟨fun x inFlight => ?_, fun idle noScan noPass => ?_⟩
    · rw [sent, queuePass_busy inFlight]
    · rw [sent, queuePass_idle idle noScan noPass]
  case idle => exact fun h => exec_fetch_plain ready tag (by rw [answerFetch, h])
  case queued => exact fun q h => exec_fetch_plain ready tag (by rw [answerFetch, h])
  case active => exact fun q m h => exec_fetch_plain ready tag (by rw [answerFetch, h])
  case done =>
    intro q o h
    refine ⟨q.body ++ fetchOutcomeBytes o, ?_, rfl, ?_⟩
    · rw [exec_fetch_service ready, answerFetch_done h, reply_ok]
    · cases o <;> rfl

end Sys2Proof
end

section
/-! PROOFS. A scan round and the bytes of a reply: which sensors join the queue, and what each byte of the window
does (R95, R96, R98, R99). -/

namespace Sys2Proof.Machine

/-! ### The sensors of a round (R99) -/

/-- The round's sensors, one after the other: a zone's when it is typed, and always the extract sensor. -/
theorem roundSensors_eq (z : PerZone ZoneRecord) :
    roundSensors z =
      (if (z.get .z1).zoneType = .unused then [] else [Sensor.zone .z1])
        ++ (if (z.get .z2).zoneType = .unused then [] else [Sensor.zone .z2])
        ++ (if (z.get .z3).zoneType = .unused then [] else [Sensor.zone .z3])
        ++ (if (z.get .z4).zoneType = .unused then [] else [Sensor.zone .z4]) ++ [Sensor.extract] := by
  have one : ∀ n : Zone, [Sensor.zone n].filter (fun n => !sensorUnused z n) =
      if (z.get n).zoneType = .unused then [] else [.zone n] := by
    intro n
    by_cases h : (z.get n).zoneType = .unused <;> simp [sensorUnused, h]
  have all : [Sensor.zone .z1, .zone .z2, .zone .z3, .zone .z4, .extract] =
      [Sensor.zone .z1] ++ [Sensor.zone .z2] ++ [Sensor.zone .z3] ++ [Sensor.zone .z4] ++ [Sensor.extract] := rfl
  rw [roundSensors, all]
  simp only [List.filter_append, one]
  rfl

theorem roundSensors_nodup (z : PerZone ZoneRecord) : (roundSensors z).Nodup := by
  have all : [Sensor.zone .z1, .zone .z2, .zone .z3, .zone .z4, .extract].Nodup := by decide
  exact List.Pairwise.filter _ all

theorem roundSensors_used {z : PerZone ZoneRecord} {n : Sensor} (h : n ∈ roundSensors z) :
    sensorUnused z n = false := by
  simpa using (List.mem_filter.mp h).2

/-- Sensors that join one after the other are those that do not wait already, in their order (R99). -/
theorem foldl_joinScan {ns : List Sensor} (distinct : ns.Nodup) (q : List Sensor) :
    ns.foldl joinScan q = q ++ ns.filter fun n => decide (n ∉ q) := by
  induction ns generalizing q with
  | nil => simp
  | cons n ns ih =>
    obtain ⟨fresh, distinct⟩ := List.nodup_cons.mp distinct
    rw [List.foldl_cons, ih distinct]
    by_cases waits : n ∈ q
    · simp [joinScan, waits]
    · have others : (ns.filter fun m => decide (m ∉ q ++ [n])) = ns.filter fun m => decide (m ∉ q) :=
        List.filter_congr fun m hm => by
          have : m ≠ n := fun e => fresh (e ▸ hm)
          simp [this]
      rw [joinScan, if_neg waits, others]
      simp [waits]

/-! ### The round (R98, R99) -/

section
variable {s : State}

/-- After the load a round is taken (R98, R109). -/
theorem exec_scanRound (loaded : s.isLoading = false) : exec .scanRound s = .next (scanRound s) :=
  congrArg Host.Outcome.next (if_neg (by simp [loaded]))

/-- During a transaction the sensors join, and no grant is made. -/
theorem scanRound_busy {x : Transaction} (h : s.bus.transaction = some x) :
    scanRound s =
      { s with bus :=
        { s.bus with
          scanQueue :=
            s.bus.scanQueue ++ (roundSensors s.humidity.zones).filter fun n => decide (n ∉ s.bus.scanQueue)
          roundCount := 0 } } := by
  unfold scanRound
  dsimp only
  rw [foldl_joinScan (roundSensors_nodup _), grant_busy (by exact h)]
  exact ite_self _

/-- On an idle bus with no one waiting the round's first sensor starts and the others wait. -/
theorem scanRound_idle {n : Sensor} {rest : List Sensor} (idle : s.bus.transaction = none)
    (noScan : s.bus.scanQueue = []) (noPass : s.bus.passQueue = [])
    (round : roundSensors s.humidity.zones = n :: rest) :
    scanRound s = setBus s (({ s.bus with roundCount := 0 } : Bus).startScan s.settings n rest) := by
  have joined : (roundSensors s.humidity.zones).foldl joinScan s.bus.scanQueue = n :: rest := by
    rw [foldl_joinScan (roundSensors_nodup _), noScan, round]; simp
  have used : sensorUnused s.humidity.zones n = false := roundSensors_used (round ▸ List.mem_cons_self)
  unfold scanRound
  rw [joined, if_neg (by simp [noScan]), grant_idle (by exact idle)]
  exact congrArg (setBus s) (Bus.select_scan (by exact .inl noPass) (by exact used) rest)

/-! ### The request and its reply bytes (R95, R96) -/

section
variable {x : Transaction} (hx : s.bus.transaction = some x)
include hx

/-- The end of the request opens the window (R95). -/
theorem exec_requestSent (hp : x.phase = .sending) :
    exec .requestSent s = .next { s with bus := { s.bus with transaction := some { x with phase := .awaiting } } } := by
  show execRequestSent s = _
  simp [execRequestSent, hx, hp, setBus]

variable (hp : x.phase = .awaiting)
include hp

/-- Before the start byte any other is disregarded (R96). -/
theorem exec_busReplyByte_noise (before : x.reply = []) {b : Byte} (hb : b ≠ busReplyStart) :
    exec (.busReplyByte b) s = .next s := by
  show execBusReplyByte b s = _
  simp [execBusReplyByte, Bus.awaiting?_eq hx hp, before, hb]

/-- The start byte and the six after it are taken (R96). -/
theorem exec_busReplyByte_taken {b : Byte}
    (h : x.reply = [] ∧ b = busReplyStart ∨ (1 ≤ x.reply.length ∧ x.reply.length < 7)) :
    exec (.busReplyByte b) s = .next (setReply s x (x.reply ++ [b])) := by
  show execBusReplyByte b s = _
  rw [execBusReplyByte, Bus.awaiting?_eq hx hp]
  dsimp only
  split
  next before =>
    obtain ⟨-, rfl⟩ | ⟨started, -⟩ := h
    · rw [if_pos rfl, before]; rfl
    · simp [before] at started
  next started =>
    obtain ⟨before, -⟩ | ⟨-, few⟩ := h
    · simp [before] at started
    · have room : ¬8 ≤ (x.reply ++ [b]).length := by simp; omega
      rw [takeReplyByte, if_neg room]

/-- The eighth byte is BUS_REPLY (R96, R97). -/
theorem exec_busReplyByte_eighth (seven : x.reply.length = 7) (b : Byte) :
    exec (.busReplyByte b) s = exec (.busReply b) s := by
  show execBusReplyByte b s = execBusReply b s
  have whole : 8 ≤ (x.reply ++ [b]).length := by simp [seven]
  rw [execBusReplyByte, execBusReply, Bus.awaiting?_eq hx hp]
  dsimp only
  rw [if_pos seven]
  split
  next before => simp [before] at seven
  next => rw [takeReplyByte, if_pos whole]

end

/-- Outside the window a byte is disregarded (R92, R96). -/
theorem exec_busReplyByte_closed (h : ∀ x, s.bus.transaction = some x → x.phase = .sending) (b : Byte) :
    exec (.busReplyByte b) s = .next s := by
  show execBusReplyByte b s = _
  rw [execBusReplyByte, Bus.awaiting?_eq_none h]

end

end Sys2Proof.Machine

namespace Sys2Proof

open Machine

/-- Settles O48: by the closed form of the joining sensors, and byte by byte through the window. -/
theorem scanRoundsAndReplyBytesAreTaken : Obligations.ScanRoundsAndReplyBytesAreTaken := by
  intro s round hround
  rw [← roundSensors_eq] at hround
  subst hround
  refine ⟨?loading, ?busy, ?idle, ?sent, ?none, ?window⟩
  case loading => exact fun loading => congrArg Host.Outcome.next (if_pos loading)
  case busy =>
    intro x loaded inFlight
    rw [exec_scanRound loaded, scanRound_busy inFlight]
  case idle =>
    intro n rest loaded idle noScan noPass round
    rw [exec_scanRound loaded, scanRound_idle idle noScan noPass round]
    cases n <;> rfl
  case sent =>
    intro x inFlight sending
    refine ⟨exec_requestSent inFlight sending, exec_busReplyByte_closed fun y hy => ?_⟩
    rw [inFlight] at hy
    exact Option.some.inj hy ▸ sending
  case none => exact fun idle => exec_busReplyByte_closed fun y hy => by simp [idle] at hy
  case window =>
    intro x b inFlight awaiting
    exact ⟨fun before noise => exec_busReplyByte_noise inFlight awaiting before noise,
      exec_busReplyByte_taken inFlight awaiting,
      fun seven => exec_busReplyByte_eighth inFlight awaiting seven b⟩

end Sys2Proof
end

section
/-! PROOFS. The dry guard's decision and the extract sensor's failed outcome, case by case (R126, R129, R130). -/

namespace Sys2Proof.Machine

/-! ### The table's reserved slots -/

/-- A free slot holds no entry to leave (R20). -/
theorem DemandTable.vacate_of_free {t : DemandTable} {slot : Fin 16} (free : t.isLive slot = false) :
    t.vacate slot = t := by
  have others : ∀ e ∈ t.entries, (!(e.slot == slot)) = true := by
    intro e he
    simpa using (List.any_eq_false.mp free) e he
  rw [vacate, List.filter_eq_self.mpr others]

/-- An internal removal leaves the slot free (R20). -/
theorem removeInternal_table (s : State) (slot : Fin 16) : (removeInternal s slot).table = s.table.vacate slot := by
  unfold removeInternal
  split
  next => rfl
  next free => exact (DemandTable.vacate_of_free (Bool.eq_false_iff.mpr free)).symm

/-! ### What turns the guard (R129) -/

section
variable {t : Settings} {e : ExtractRecord} {oda : Option Int}

theorem ExtractRecord.rhEta_fresh (fresh : e.stale = false) : e.rhEta = e.last.map Prod.fst := by
  simp [rhEta, fresh]

theorem dryTurnsOn_iff (fresh : e.stale = false) :
    dryTurnsOn t e oda = true ↔
      ∃ rh ah v, e.last = some (rh, ah) ∧ rh < t.nat .dryOn ∧ oda = some v ∧ v < 0 := by
  unfold dryTurnsOn
  rw [ExtractRecord.rhEta_fresh fresh]
  cases e.last with
  | none => simp
  | some p => cases oda with
    | none => simp
    | some v => simp [Prod.ext_iff]

theorem dryTurnsOff_iff (fresh : e.stale = false) :
    dryTurnsOff t e oda = true ↔
      (∃ rh ah, e.last = some (rh, ah) ∧ t.nat .dryOff ≤ rh) ∨ oda = none ∨ ∃ v, oda = some v ∧ 20 ≤ v := by
  unfold dryTurnsOff
  rw [ExtractRecord.rhEta_fresh fresh, fresh]
  cases e.last with
  | none => cases oda <;> simp
  | some p => cases oda <;> simp [Prod.ext_iff]

end

/-! ### The decision (R129, R130) -/

section
variable {s : State}

/-- Whether the guard as it stands turns ON. -/
def State.dryOnDue (s : State) : Bool :=
  dryTurnsOn s.settings s.humidity.extract (s.frost.probes.get .oda).healthy?

/-- Whether the guard as it stands turns OFF. -/
def State.dryOffDue (s : State) : Bool :=
  dryTurnsOff s.settings s.humidity.extract (s.frost.probes.get .oda).healthy?

theorem State.dryOnDue_iff (fresh : s.humidity.extract.stale = false) :
    s.dryOnDue = true ↔
      ∃ rh ah v, s.humidity.extract.last = some (rh, ah) ∧ rh < s.settings.nat .dryOn ∧
        (s.frost.probes.get .oda).healthy? = some v ∧ v < 0 := dryTurnsOn_iff fresh

theorem State.dryOffDue_iff (fresh : s.humidity.extract.stale = false) :
    s.dryOffDue = true ↔
      (∃ rh ah, s.humidity.extract.last = some (rh, ah) ∧ s.settings.nat .dryOff ≤ rh) ∨
        (s.frost.probes.get .oda).healthy? = none ∨
        ∃ v, (s.frost.probes.get .oda).healthy? = some v ∧ 20 ≤ v := dryTurnsOff_iff fresh

/-- The table after the dry guard's placement at `dry_level`. -/
def State.dryTable (s : State) : DemandTable :=
  s.table.place drySlot .dryGuard (.setback (clampLevel (s.settings.nat .dryLevel))) none s.time.stamp

theorem placeDry_spec (s : State) :
    (placeDry s).humidity.dryPlaced = some (s.settings.nat .dryLevel) ∧ (placeDry s).table = s.dryTable :=
  ⟨rfl, rfl⟩

/-- An OFF guard places its entry when it turns ON, and otherwise leaves the table (R129). -/
theorem dryDecision_off (off : s.humidity.dryPlaced = none) :
    (s.dryOnDue = true → (dryDecision s).humidity.dryPlaced = some (s.settings.nat .dryLevel) ∧
      (dryDecision s).table = s.dryTable) ∧
    (¬s.dryOnDue = true → (dryDecision s).humidity.dryPlaced = none ∧ (dryDecision s).table = s.table) := by
  have run : dryDecision s = if s.dryOnDue then placeDry s else s := by rw [dryDecision, off]; rfl
  rw [run]
  refine ⟨fun due => ?_, fun early => ?_⟩
  · rw [if_pos due]; exact placeDry_spec s
  · rw [if_neg early]; exact ⟨off, rfl⟩

/-- An ON guard removes its entry when it turns OFF, places it again at another level, and otherwise leaves the table
(R129, R130). -/
theorem dryDecision_on {level : Nat} (on : s.humidity.dryPlaced = some level) :
    (s.dryOffDue = true → (dryDecision s).humidity.dryPlaced = none ∧
      (dryDecision s).table = s.table.vacate drySlot) ∧
    (¬s.dryOffDue = true → s.settings.nat .dryLevel = level →
      (dryDecision s).humidity.dryPlaced = some level ∧ (dryDecision s).table = s.table) ∧
    (¬s.dryOffDue = true → s.settings.nat .dryLevel ≠ level →
      (dryDecision s).humidity.dryPlaced = some (s.settings.nat .dryLevel) ∧
        (dryDecision s).table = s.dryTable) := by
  have run : dryDecision s =
      if s.dryOffDue then removeInternal { s with humidity := { s.humidity with dryPlaced := none } } drySlot
      else if s.settings.nat .dryLevel ≠ level then placeDry s else s := by rw [dryDecision, on]; rfl
  rw [run]
  refine ⟨fun due => ?_, fun early same => ?_, fun early other => ?_⟩
  · rw [if_pos due, removeInternal_humidity, removeInternal_table]; exact ⟨rfl, rfl⟩
  · rw [if_neg early, if_neg (not_not_intro same)]; exact ⟨on, rfl⟩
  · rw [if_neg early, if_pos other]; exact placeDry_spec s

/-- A decision changes neither the zones nor the extract record. -/
theorem dryDecision_records (s : State) :
    (dryDecision s).humidity.zones = s.humidity.zones ∧ (dryDecision s).humidity.extract = s.humidity.extract := by
  unfold dryDecision placeDry
  dsimp only
  split
  next => split <;> simp
  next =>
    split
    next => simp
    next => split <;> simp

/-! ### The extract sensor's outcome (R126) -/

theorem extractOutcome_zones (s : State) (good : Option Sample) :
    (extractOutcome s good).humidity.zones = s.humidity.zones := by
  unfold extractOutcome
  dsimp only
  rw [(dryDecision_records _).1]
  split <;> simp

/-- A failed outcome that is not the third in a row. -/
theorem ExtractRecord.take_failed {e : ExtractRecord} (h : e.failures ≠ 2) :
    e.take none = ({ e with failures := if e.failures < 2 then e.failures + 1 else e.failures }, none) := by
  unfold take
  by_cases few : e.failures < 2
  · simp [few]
  · simp [few, h]

/-- The state in which the dry guard decides after such an outcome. -/
def extractFailed (s : State) (e : ExtractRecord) : State :=
  { s with
    humidity :=
      { s.humidity with
        extract := { e with failures := if e.failures < 2 then e.failures + 1 else e.failures } } }

theorem extractOutcome_failed {e : ExtractRecord} (he : s.humidity.extract = e) (h : e.failures ≠ 2) :
    extractOutcome s none = dryDecision (extractFailed s e) := by
  unfold extractOutcome
  rw [he, ExtractRecord.take_failed h]
  rfl

end

end Sys2Proof.Machine
end

section
/-! PROOFS. The end of a transaction: its three points, what is handed to the link or to the humidity monitor, and the
grant that follows (R95, R97, R100, R101, R105 to R107). -/

namespace Sys2Proof.Machine

/-! ### Zones keep their type (R115 to R119) -/

section
variable (t : Settings) (n : Zone) (z : ZoneRecord)

theorem judgeQuiet_zoneType (x : Sample) : (judgeQuiet t n z x).record.zoneType = z.zoneType := by
  unfold judgeQuiet
  dsimp only
  split <;> rfl

theorem zoneGood_zoneType (x : Sample) : (zoneGood t n z x).record.zoneType = z.zoneType := by
  unfold zoneGood
  dsimp only
  split
  next => rfl
  next => exact judgeQuiet_zoneType ..
  next => (repeat' split) <;> rfl
  next => split <;> rfl
  next => exact judgeQuiet_zoneType ..

theorem zoneFailed_zoneType : (zoneFailed z).record.zoneType = z.zoneType := by
  unfold zoneFailed
  dsimp only
  (repeat' split) <;> rfl

theorem zoneOutcome_zoneType (o : BusOutcome) : (zoneOutcome t n z o).record.zoneType = z.zoneType := by
  unfold zoneOutcome
  split
  next => rfl
  next =>
    split
    next => exact zoneGood_zoneType ..
    next => exact zoneFailed_zoneType z

end

theorem sensorUnused_zone (z : PerZone ZoneRecord) (n : Zone) :
    sensorUnused z (.zone n) = decide ((z.get n).zoneType = .unused) := rfl

/-- An outcome leaves UNUSED zones UNUSED and typed ones typed. -/
theorem scannerOutcome_unused (s : State) (n : Sensor) (o : BusOutcome) :
    sensorUnused (scannerOutcome s n o).humidity.zones = sensorUnused s.humidity.zones := by
  funext m
  cases n with
  | extract => rw [scannerOutcome, extractOutcome_zones]
  | zone z =>
    rw [scannerOutcome, applyZoneMove_humidity]
    cases m with
    | extract => rfl
    | zone k =>
      rw [sensorUnused_zone, sensorUnused_zone, PerZone.get_set]
      by_cases same : k = z
      · rw [if_pos same, zoneOutcome_zoneType, same]
      · rw [if_neg same]

/-! ### Failed outcomes -/

/-- An outcome that is not OK, or whose status is not VALID, is no good sample (R112). -/
theorem judgeSample_failed {o : BusOutcome}
    (h : (∀ d, o ≠ .ok d) ∨ ∃ d, o = .ok d ∧ d.status ≠ 0x00#8) : judgeSample o = none := by
  obtain notOk | ⟨d, rfl, invalid⟩ := h
  · cases o with
    | ok d => exact absurd rfl (notOk d)
    | timeout | corrupt | wrongAddress d => rfl
  · exact if_neg fun good => invalid good.1

section
variable {s : State} {z : Zone} {y : ZoneRecord} {o : BusOutcome} (hy : s.humidity.zones.get z = y)
include hy

/-- An UNUSED zone disregards an outcome (R101). -/
theorem scannerOutcome_unusedZone (unused : y.zoneType = .unused) : scannerOutcome s (.zone z) o = s := by
  subst hy
  rw [scannerOutcome, zoneOutcome, if_pos unused]
  simp [applyZoneMove, ZoneRecord.only, reportZone, zoneAct]

/-- A typed zone takes a failed outcome as R119 says. -/
theorem scannerOutcome_failed (typed : y.zoneType ≠ .unused) (bad : judgeSample o = none) :
    scannerOutcome s (.zone z) o = applyZoneMove s z (zoneFailed y) := by
  subst hy
  rw [scannerOutcome, zoneOutcome, if_neg typed, bad]

/-- The first two failures in a row are counted (R119). -/
theorem scannerOutcome_counts (typed : y.zoneType ≠ .unused) (bad : judgeSample o = none) (few : y.failures < 2) :
    scannerOutcome s (.zone z) o =
      { s with
        humidity := { s.humidity with zones := s.humidity.zones.set z { y with failures := y.failures + 1 } } } := by
  rw [scannerOutcome_failed hy typed bad, zoneFailed, if_pos few]
  rfl

/-- The third failure in a row is SENSOR_STALE (R119). -/
theorem exec_sensorStale_zone (typed : y.zoneType ≠ .unused) (bad : judgeSample o = none) (third : y.failures = 2) :
    exec (.sensorStale (.zone z)) s = .next (scannerOutcome s (.zone z) o) := by
  rw [scannerOutcome_failed hy typed bad]
  subst hy
  exact congrArg Host.Outcome.next (if_pos ⟨third, typed⟩)

end

/-- The extract sensor's third failure in a row is SENSOR_STALE (R126). -/
theorem exec_sensorStale_extract {s : State} {o : BusOutcome} (bad : judgeSample o = none)
    (third : s.humidity.extract.failures = 2) :
    exec (.sensorStale .extract) s = .next (scannerOutcome s .extract o) := by
  rw [scannerOutcome, bad]
  exact congrArg Host.Outcome.next (if_pos third)

/-! ### A pass-through's outcome (R105) -/

section
variable {s : State} {l : Link} {req : BusRequest}

/-- No map gives PROBE_READY to a link: it goes by address alone (R105, R165). -/
@[simp] theorem hasKind_deliveryMap_probeReady (t : Settings) (m : Link) :
    hasKind ((deliveryMap t .probeReady).get m) .probeReady = false := by
  cases m <;> simp [deliveryMap]

theorem endPass_stored (h : s.bus.pass.get l = .active req false) (o : BusOutcome) :
    endPass s l o =
      raiseTo (setBus s { s.bus with pass := s.bus.pass.set l (.done req o) }) .probeReady (some l) := by
  rw [endPass, h]

theorem endPass_dropped (h : s.bus.pass.get l = .active req true) (o : BusOutcome) :
    endPass s l o = setBus s { s.bus with pass := s.bus.pass.set l .idle } := by
  rw [endPass, h]

/-- PROBE_READY reaches its link alone, with its mark set (R105, R163). -/
theorem endPass_delivered (h : s.bus.pass.get l = .active req false) (o : BusOutcome) :
    Delivered s (endPass s l o) (fun m k => decide (m = l ∧ k = .probeReady)) ∧
      hasKind ((endPass s l o).links.get l).addressed .probeReady = true := by
  rw [endPass_stored h]
  constructor
  · refine ((Delivered.raiseTo (setBus s _) .probeReady (some l)).congr rfl rfl).mono fun m k _ => ?_
    by_cases hk : k = .probeReady
    · subst hk; simp [raisedTo, eq_comm]
    · simp [raisedTo, hk]
  · simp [raiseTo, deliverAll, LinkRecord.deliver]

/-- The outcome touches the bus controller in the link's record alone. -/
theorem endPass_bus (s : State) (l : Link) (o : BusOutcome) :
    (endPass s l o).bus = { s.bus with pass := (endPass s l o).bus.pass } ∧
      ∀ m, m ≠ l → (endPass s l o).bus.pass.get m = s.bus.pass.get m := by
  unfold endPass
  split
  next => exact ⟨rfl, fun m other => by simp [raiseTo, setBus, other]⟩
  next => exact ⟨rfl, fun m other => by simp [setBus, other]⟩
  next => exact ⟨rfl, fun m _ => rfl⟩

end

/-! ### The grant with a queue (R100, R107) -/

section
variable {u : State} (idle : u.bus.transaction = none) {dropped later : List Sensor}
  (split : u.bus.scanQueue = dropped ++ later) (unused : ∀ n ∈ dropped, sensorUnused u.humidity.zones n = true)
include idle split unused

/-- While the scanner has its turn the UNUSED zones at the front of its queue are dropped. -/
theorem grant_dropped (turn : u.bus.passQueue = [] ∨ u.bus.credit < u.settings.nat .scanQuota) :
    grant u = setBus u (u.bus.select u.settings u.humidity.zones later) := by
  rw [grant_idle idle, split, Bus.select_dropped turn unused]

/-- A waiting pass-through starts when nothing but UNUSED zones waits, or when the credit is full (R105, R107). -/
theorem grant_startsPass {l : Link} {queue : List Link} {req : BusRequest} (first : u.bus.passQueue = l :: queue)
    (queued : u.bus.pass.get l = .queued req) (turn : later = [] ∨ u.settings.nat .scanQuota ≤ u.bus.credit) :
    (grant u).bus =
      { u.bus with
        transaction := some { originator := .passThrough l, request := req, phase := .sending, reply := [] }
        pass := u.bus.pass.set l (.active req false)
        passQueue := queue
        credit := 0
        scanQueue := if u.settings.nat .scanQuota ≤ u.bus.credit then u.bus.scanQueue else [] } := by
  by_cases full : u.settings.nat .scanQuota ≤ u.bus.credit
  · rw [grant_idle idle, Bus.select_quota first full, Bus.startPass_queued (by exact queued), if_pos full]
    rfl
  · obtain rfl := turn.resolve_right full
    rw [grant_dropped idle split unused (.inr (Nat.lt_of_not_le full)), Bus.select_nil_pass first,
      Bus.startPass_queued (by exact queued), if_neg full]
    rfl

/-- The scanner's oldest entry that is not dropped starts (R100, R107). -/
theorem grant_startsScan {n : Sensor} {rest : List Sensor} (oldest : later = n :: rest)
    (used : sensorUnused u.humidity.zones n = false)
    (turn : u.bus.passQueue = [] ∨ u.bus.credit < u.settings.nat .scanQuota) :
    (grant u).bus = u.bus.startScan u.settings n rest := by
  rw [grant_dropped idle split unused turn, oldest, Bus.select_scan turn used]
  rfl

/-- With no one else waiting the bus is idle, and the UNUSED zones have left its queue. -/
theorem grant_leavesIdle (empty : later = []) (noPass : u.bus.passQueue = []) :
    (grant u).bus = { u.bus with scanQueue := [] } := by
  rw [grant_dropped idle split unused (.inl noPass), empty, Bus.select_nil noPass]
  rfl

end

/-! ### The outcome handed on -/

/-- The credit the grant at the end of a transaction reads (R106). -/
def creditAfter (s : State) : Originator → Nat
  | .scanner _ => min (s.bus.credit + 1) (s.settings.nat .scanQuota)
  | .passThrough _ => s.bus.credit

/-- The transaction record cleared, and a scanner's credit raised (R95, R106). -/
def cleared (s : State) (g : Originator) : State :=
  setBus s { s.bus with transaction := none, credit := creditAfter s g }

/-- The state in which the grant at the end of a transaction is decided: the record is cleared and the outcome handed
on. -/
def handedOn (s : State) (g : Originator) (o : BusOutcome) : State :=
  match g with
  | .scanner n => scannerOutcome (cleared s g) n o
  | .passThrough l => endPass (cleared s g) l o

section
variable {s : State} {x : Transaction}

/-- The outcome is handed on, and a grant decision follows (R101, R105, R107). -/
theorem endTransaction_eq (hx : s.bus.transaction = some x) (o : BusOutcome) :
    endTransaction s o = grant (handedOn s x.originator o) := by
  rw [endTransaction, hx]
  obtain ⟨originator, -, -, -⟩ := x
  cases originator <;> rfl

@[simp] theorem handedOn_settings (g : Originator) (o : BusOutcome) : (handedOn s g o).settings = s.settings := by
  cases g <;> simp [handedOn, State.settings, cleared]

theorem handedOn_bus (g : Originator) (o : BusOutcome) :
    (handedOn s g o).bus = { (cleared s g).bus with pass := (handedOn s g o).bus.pass } := by
  cases g with
  | scanner n => simp only [handedOn, scannerOutcome_bus]
  | passThrough l => exact (endPass_bus ..).1

@[simp] theorem handedOn_transaction (g : Originator) (o : BusOutcome) :
    (handedOn s g o).bus.transaction = none := by rw [handedOn_bus]; rfl

@[simp] theorem handedOn_scanQueue (g : Originator) (o : BusOutcome) :
    (handedOn s g o).bus.scanQueue = s.bus.scanQueue := by rw [handedOn_bus]; rfl

@[simp] theorem handedOn_passQueue (g : Originator) (o : BusOutcome) :
    (handedOn s g o).bus.passQueue = s.bus.passQueue := by rw [handedOn_bus]; rfl

@[simp] theorem handedOn_credit (g : Originator) (o : BusOutcome) :
    (handedOn s g o).bus.credit = creditAfter s g := by rw [handedOn_bus]; rfl

theorem handedOn_pass {g : Originator} {l : Link} (other : g ≠ .passThrough l) (o : BusOutcome) :
    (handedOn s g o).bus.pass.get l = s.bus.pass.get l := by
  cases g with
  | scanner n => simp only [handedOn, scannerOutcome_bus]; rfl
  | passThrough m => exact (endPass_bus ..).2 l fun e => other (e ▸ rfl)

@[simp] theorem handedOn_unused (g : Originator) (o : BusOutcome) :
    sensorUnused (handedOn s g o).humidity.zones = sensorUnused s.humidity.zones := by
  cases g with
  | scanner n => exact scannerOutcome_unused ..
  | passThrough l => simp [handedOn, cleared]

/-! ### The three points (R96, R97) -/

section
variable (hx : s.bus.transaction = some x) (hp : x.phase = .awaiting)
include hx hp

theorem exec_busReplyTimeout : exec .busReplyTimeout s = .next (endTransaction s .timeout) := by
  show execBusReplyTimeout s = _
  rw [execBusReplyTimeout, Bus.awaiting?_eq hx hp]

theorem exec_busFramingError (started : x.reply ≠ []) :
    exec .busFramingError s = .next (endTransaction s .corrupt) := by
  show execBusFramingError s = _
  rw [execBusFramingError, Bus.awaiting?_eq hx hp]
  exact congrArg Host.Outcome.next (if_neg started)

theorem exec_busReply (seven : x.reply.length = 7) (b : Byte) :
    exec (.busReply b) s = .next (endTransaction s (judgeReply x.request.address (x.reply ++ [b]))) := by
  show execBusReply b s = _
  rw [execBusReply, Bus.awaiting?_eq hx hp]
  exact congrArg Host.Outcome.next (if_pos seven)

end

/-! ### The ends -/

section
variable (hx : s.bus.transaction = some x) {o : BusOutcome}
include hx

/-- A pass-through's outcome is stored for its link, which is told (R105). -/
theorem endTransaction_storesPass {l : Link} {req : BusRequest} (owner : x.originator = .passThrough l)
    (active : s.bus.pass.get l = .active req false) :
    (endTransaction s o).bus.pass.get l = .done req o ∧
      Delivered s (endTransaction s o) (fun m k => decide (m = l ∧ k = .probeReady)) ∧
      hasKind ((endTransaction s o).links.get l).addressed .probeReady = true ∧
      endTransaction s o =
        { s with bus := (endTransaction s o).bus, links := (endTransaction s o).links } := by
  rw [endTransaction_eq hx, owner, handedOn]
  generalize hu : cleared s (.passThrough l) = u
  have active : u.bus.pass.get l = .active req false := by subst hu; exact active
  have links : u.links = s.links := by subst hu; rfl
  obtain ⟨delivered, marked⟩ := endPass_delivered active o
  have stored : (endPass u l o).bus.pass.get l = .done req o := by
    rw [endPass_stored active]; simp [raiseTo, setBus]
  refine ⟨?_, delivered.congr links.symm rfl, marked, ?_⟩
  · rw [grant_pass (by simp [stored]), stored]
  · subst hu
    apply State.eq_of_fields <;> simp [cleared]

/-- A pass-through's outcome is dropped when its record is marked for discard (R105). -/
theorem endTransaction_dropsPass {l : Link} {req : BusRequest} (owner : x.originator = .passThrough l)
    (active : s.bus.pass.get l = .active req true) :
    (endTransaction s o).bus.pass.get l = .idle ∧
      endTransaction s o = { s with bus := (endTransaction s o).bus } := by
  rw [endTransaction_eq hx, owner, handedOn, endPass_dropped (s := cleared s _) active]
  refine ⟨?_, rfl⟩
  rw [grant_pass] <;> simp [setBus]

/-- With no one waiting the end of a transaction is the outcome handed on (R107). -/
theorem endTransaction_no_one (noScan : s.bus.scanQueue = []) (noPass : s.bus.passQueue = []) :
    endTransaction s o = handedOn s x.originator o := by
  rw [endTransaction_eq hx, grant_no_one] <;> simp [noScan, noPass]

/-! ### The grant that follows -/

section
variable {dropped later : List Sensor} (split : s.bus.scanQueue = dropped ++ later)
  (unused : ∀ n ∈ dropped, sensorUnused s.humidity.zones n = true)
include split unused

/-- A waiting pass-through starts when nothing but UNUSED zones waits, or when the credit is full (R105, R107). -/
theorem endTransaction_startsPass {l : Link} {queue : List Link} {req : BusRequest}
    (first : s.bus.passQueue = l :: queue) (queued : s.bus.pass.get l = .queued req)
    (other : x.originator ≠ .passThrough l)
    (turn : later = [] ∨ s.settings.nat .scanQuota ≤ creditAfter s x.originator) :
    (endTransaction s o).bus.transaction =
        some { originator := .passThrough l, request := req, phase := .sending, reply := [] } ∧
      (endTransaction s o).bus.pass.get l = .active req false ∧ (endTransaction s o).bus.passQueue = queue ∧
      (endTransaction s o).bus.credit = 0 ∧
      (endTransaction s o).bus.scanQueue =
        if s.settings.nat .scanQuota ≤ creditAfter s x.originator then s.bus.scanQueue else [] := by
  have waits := (handedOn_pass other o).trans queued
  rw [endTransaction_eq hx, grant_startsPass (by simp) (by simpa using split) (by simpa using unused)
    (by simpa using first) waits (by simpa using turn)]
  simp

/-- The scanner's oldest entry that is not dropped starts (R100, R107). -/
theorem endTransaction_startsScan {n : Sensor} {rest : List Sensor} (oldest : later = n :: rest)
    (used : sensorUnused s.humidity.zones n = false)
    (turn : s.bus.passQueue = [] ∨ creditAfter s x.originator < s.settings.nat .scanQuota) :
    (endTransaction s o).bus.transaction =
        some { originator := .scanner n, request := scanRequest s.settings n, phase := .sending, reply := [] } ∧
      (endTransaction s o).bus.scanQueue = rest ∧ (endTransaction s o).bus.passQueue = s.bus.passQueue ∧
      (endTransaction s o).bus.credit = creditAfter s x.originator := by
  rw [endTransaction_eq hx, grant_startsScan (by simp) (by simpa using split) (by simpa using unused) oldest
    (by simpa using used) (by simpa using turn)]
  simp [Bus.startScan, Transaction.begin]

/-- With no one else waiting the bus is idle, and the UNUSED zones have left its queue (R100, R107). -/
theorem endTransaction_leavesIdle (empty : later = []) (noPass : s.bus.passQueue = []) :
    (endTransaction s o).bus.transaction = none ∧ (endTransaction s o).bus.scanQueue = [] ∧
      (endTransaction s o).bus.credit = creditAfter s x.originator := by
  rw [endTransaction_eq hx, grant_leavesIdle (by simp) (by simpa using split) (by simpa using unused) empty
    (by simpa using noPass)]
  simp

end

/-! ### A scanner's end with no one waiting -/

section
variable {n : Sensor} (owner : x.originator = .scanner n) (noScan : s.bus.scanQueue = [])
  (noPass : s.bus.passQueue = [])
include owner noScan noPass

theorem endTransaction_scanned : endTransaction s o = scannerOutcome (cleared s (.scanner n)) n o := by
  rw [endTransaction_no_one hx noScan noPass, owner, handedOn]

theorem endTransaction_scanned_bus : { s with bus := (endTransaction s o).bus } = cleared s (.scanner n) := by
  rw [endTransaction_scanned hx owner noScan noPass, scannerOutcome_bus]
  rfl

end

end

end

end Sys2Proof.Machine

namespace Sys2Proof

open Machine

/-- Settles O49: the end is the outcome handed on and then a grant decision, each taken by its cases. -/
theorem transactionsEndInTheirOutcome : Obligations.TransactionsEndInTheirOutcome := by
  intro s x c o hx hp points
  have run : exec c s = .next (endTransaction s o) := by
    obtain ⟨rfl, rfl⟩ | ⟨rfl, started, rfl⟩ | ⟨start, a, st, d0, d1, d2, d3, crc, rfl, reply, rfl⟩ := points
    · exact exec_busReplyTimeout hx hp
    · exact exec_busFramingError hx hp started
    · rw [exec_busReply hx hp (by rw [reply]; rfl), reply]; rfl
  refine ⟨endTransaction s o, run, ?idle, ?stored, ?dropped, ?scanned, ?grant⟩
  case idle =>
    intro noScan noPass
    rw [endTransaction_no_one hx noScan noPass, handedOn_transaction]
  case stored => exact fun l req => endTransaction_storesPass hx
  case dropped => exact fun l req owner active _ => endTransaction_dropsPass hx owner active
  case scanned =>
    intro n owner noScan noPass
    have bus := endTransaction_scanned_bus (o := o) hx owner noScan noPass
    have handed := endTransaction_scanned (o := o) hx owner noScan noPass
    rw [bus, handed]
    refine ⟨by rw [scannerOutcome_bus]; rfl, ?counts, ?unused, fun bad => ?failed⟩
    case counts =>
      rintro z y rfl hy typed few bad
      rw [scannerOutcome_counts (s := cleared s _) hy typed (judgeSample_failed bad) few]
      rfl
    case unused =>
      rintro z y rfl hy unused
      exact scannerOutcome_unusedZone hy unused
    case failed =>
      have bad := judgeSample_failed bad
      refine ⟨?zone, ?extract, ?held⟩
      case zone =>
        rintro z rfl typed third
        exact exec_sensorStale_zone (s := cleared s _) rfl typed bad third
      case extract =>
        rintro rfl third
        exact exec_sensorStale_extract (s := cleared s _) bad third
      case held =>
        rintro e rfl he notThird fresh
        have handed : scannerOutcome (cleared s (.scanner .extract)) .extract o = _ :=
          (congrArg (extractOutcome _) bad).trans (extractOutcome_failed (by exact he) notThird)
        rw [handed]
        obtain ⟨zones, extract⟩ := dryDecision_records (extractFailed (cleared s (.scanner .extract)) e)
        refine ⟨extract, zones, dryDecision_links _, dryDecision_log _, ?_⟩
        have onDue := State.dryOnDue_iff (s := extractFailed (cleared s (.scanner .extract)) e) fresh
        have offDue := State.dryOffDue_iff (s := extractFailed (cleared s (.scanner .extract)) e) fresh
        have whenOff := dryDecision_off (s := extractFailed (cleared s (.scanner .extract)) e)
        have whenOn := @dryDecision_on (extractFailed (cleared s (.scanner .extract)) e)
        rintro oda placed rfl rfl
        refine ⟨fun off due => (whenOff off).1 (onDue.mpr due),
          fun off early => (whenOff off).2 fun due => early (onDue.mp due), fun level on off offIff => ?_⟩
        obtain ⟨removes, stays, moves⟩ := whenOn on
        have early_of : ¬off → ¬_ := fun early due => early (offIff.mpr (offDue.mp due))
        exact ⟨fun due => removes (offDue.mpr (offIff.mp due)), fun early => stays (early_of early),
          fun early => moves (early_of early)⟩
  case grant =>
    intro credit unused dropped later hcredit hunused split drops first
    have credit_eq : credit = creditAfter s x.originator := by rw [hcredit]; cases x.originator <;> rfl
    have unused_eq : unused = sensorUnused s.humidity.zones := by
      funext n
      rw [Bool.eq_iff_iff, hunused]
      cases n <;> simp [sensorUnused]
    subst credit_eq unused_eq
    refine ⟨fun l queue req waits queued other turn =>
      endTransaction_startsPass hx split drops waits queued other turn, ?scan, ?none⟩
    case scan =>
      rintro n rest rfl turn
      obtain ⟨transaction, others⟩ := endTransaction_startsScan (o := o) hx split drops rfl (first n rfl) turn
      refine ⟨transaction.trans ?_, others⟩
      cases n <;> rfl
    case none => exact endTransaction_leavesIdle hx split drops

end Sys2Proof
end

section
/-! PROOFS. A good sample of a zone: the sample as the bytes give it, the zone's move by its state, and what the move
leaves in the table, the log and the pending sets (R111, R112, R115 to R118, R124, R125). -/

namespace Sys2Proof.Machine

/-! ### The sample (R111, R112) -/

theorem joinHalf_toNat (a b : Byte) : (joinHalf a b).toNat = a.toNat * 256 + b.toNat := by
  rw [joinHalf, BitVec.toNat_append, ← Nat.shiftLeft_add_eq_or_of_lt b.isLt, Nat.shiftLeft_eq]

/-- A valid reply in range is a good sample, with its absolute humidity (R111, R112). -/
theorem judgeSample_good {d : BusData} {x : Sample} (valid : d.status = 0x00#8)
    (hrh : x.rh = d.d0.toNat * 256 + d.d1.toNat) (ht : x.t = (d.d2 ++ d.d3 : Half).toInt)
    (hah : x.ah = x.rh * satDensity x.t / 1000) (most : x.rh ≤ 1000) (low : -400 ≤ x.t) (high : x.t ≤ 850) :
    judgeSample (.ok d) = some x := by
  have rh : (joinHalf d.d0 d.d1).toNat = x.rh := (joinHalf_toNat ..).trans hrh.symm
  have t : (joinHalf d.d2 d.d3).toInt = x.t := ht.symm
  rw [judgeSample, rh, t, if_pos ⟨valid, most, low, high⟩, absHumidity, ← hah]

/-! ### The judgement in QUIET (R115) -/

/-- A baseline at its sample stays there (R115). -/
@[simp] theorem approach_self (k : Int) (a : Nat) : approach k a a = a := by simp [approach]

section
variable {t : Settings} {n : Zone} {z : ZoneRecord} {x : Sample}

/-- A boost begins on the rise or on 85 %. -/
theorem judgeQuiet_boosts (h : t.get (.zone n .boostOn) ≤ z.rise x ∨ 850 ≤ x.rh) :
    judgeQuiet t n z x =
      { record := { z with state := .boosting, baseline := some (z.baseline.getD x.ah), lowCount := 0, boostTimer := 0 }
        reports := [(.boosting, if t.get (.zone n .boostOn) ≤ z.rise x then .rise else .rhHigh)]
        action := .place
        sensor := none } := by
  have high : (decide (t.get (.zone n .boostOn) ≤ z.rise x) || rhHigh x) = true := by simpa [rhHigh] using h
  simp only [judgeQuiet, high, if_true, decide_eq_true_eq]

/-- Otherwise the baseline tracks the sample. -/
theorem judgeQuiet_tracks (low : z.rise x < t.get (.zone n .boostOn)) (dry : x.rh < 850) :
    judgeQuiet t n z x =
      { record := { z with state := .quiet, baseline := some (approach 32 (z.baseline.getD x.ah) x.ah) }
        reports := []
        action := .keep
        sensor := none } := by
  simp [judgeQuiet, rhHigh, Int.not_le.mpr low, Nat.not_le.mpr dry]

/-- The judgement leaves what the sample set. -/
theorem judgeQuiet_keeps (t : Settings) (n : Zone) (z : ZoneRecord) (x : Sample) :
    (judgeQuiet t n z x).record.last = z.last ∧ (judgeQuiet t n z x).record.failures = z.failures ∧
      (judgeQuiet t n z x).record.stale = z.stale := by
  unfold judgeQuiet
  dsimp only
  split <;> exact ⟨rfl, rfl, rfl⟩

/-! ### The move of a good sample by the zone's state (R115 to R118) -/

/-- What the move says of the sensor: fresh, when it was stale (R125). -/
def ZoneRecord.freshness (z : ZoneRecord) : Option Bool := if z.stale then some true else none

theorem zoneGood_quiet_boosts (h : z.state = .quiet) (high : t.get (.zone n .boostOn) ≤ z.rise x ∨ 850 ≤ x.rh) :
    zoneGood t n z x =
      { record :=
          { z.fed x with state := .boosting, baseline := some (z.baseline.getD x.ah), lowCount := 0, boostTimer := 0 }
        reports := [(.boosting, if t.get (.zone n .boostOn) ≤ z.rise x then .rise else .rhHigh)]
        action := .place
        sensor := z.freshness } := by
  rw [zoneGood, h]
  dsimp only
  rw [judgeQuiet_boosts (by exact high)]
  rfl

theorem zoneGood_quiet_tracks (h : z.state = .quiet) (low : z.rise x < t.get (.zone n .boostOn))
    (dry : x.rh < 850) :
    zoneGood t n z x =
      { record := { z.fed x with state := .quiet, baseline := some (approach 32 (z.baseline.getD x.ah) x.ah) }
        reports := []
        action := .keep
        sensor := z.freshness } := by
  rw [zoneGood, h]
  dsimp only
  rw [judgeQuiet_tracks (by exact low) dry]
  rfl

/-- A BOOSTING zone's settling sample: the first is counted, the second ends the boost (R116). -/
theorem zoneGood_boosting_settles (h : z.state = .boosting) (low : z.rise x ≤ t.get (.zone n .boostOff))
    (dry : x.rh < 850) :
    zoneGood t n z x =
      if z.lowCount = 0 then { (z.fed x).only with record := { z.fed x with lowCount := 1 }, sensor := z.freshness }
      else
        { record := { z.fed x with state := .recovering, lowCount := 0 }
          reports := [(.recovering, .settled)]
          action := .timed
          sensor := z.freshness } := by
  rw [zoneGood, h]
  exact if_pos (by simp [rhHigh, low, dry])

theorem zoneGood_boosting_goesOn (h : z.state = .boosting)
    (high : t.get (.zone n .boostOff) < z.rise x ∨ 850 ≤ x.rh) :
    zoneGood t n z x =
      { (z.fed x).only with record := { z.fed x with lowCount := 0 }, sensor := z.freshness } := by
  rw [zoneGood, h]
  refine if_neg fun settling => ?_
  simp only [rhHigh, Bool.and_eq_true, Bool.not_eq_true', decide_eq_true_eq, decide_eq_false_iff_not] at settling
  obtain ⟨low, dry⟩ := settling
  omega

theorem zoneGood_recovering_resumes (h : z.state = .recovering)
    (high : t.get (.zone n .boostOn) ≤ z.rise x ∨ 850 ≤ x.rh) :
    zoneGood t n z x =
      { record := { z.fed x with state := .boosting, lowCount := 0 }
        reports := [(.boosting, .resumed)]
        action := .standing
        sensor := z.freshness } := by
  rw [zoneGood, h]
  exact if_pos (by simpa [rhHigh] using high)

theorem zoneGood_recovering_rests (h : z.state = .recovering) (low : z.rise x < t.get (.zone n .boostOn))
    (dry : x.rh < 850) : zoneGood t n z x = { (z.fed x).only with sensor := z.freshness } := by
  rw [zoneGood, h]
  exact if_neg (by simp [rhHigh, low, dry])

/-- A sample does not rise over the baseline it sets. -/
theorem ZoneRecord.rise_own (h : z.baseline = some x.ah) : z.rise x = 0 := by simp [rise, h]

/-- A STALE zone takes the sample as its baseline and goes QUIET (R118). -/
theorem zoneGood_stale_dry (h : z.state = .stale) (on : 0 < t.get (.zone n .boostOn)) (dry : x.rh < 850) :
    zoneGood t n z x =
      { record := { z.fed x with state := .quiet, baseline := some x.ah }
        reports := [(.quiet, .fresh)]
        action := .keep
        sensor := z.freshness } := by
  rw [zoneGood, h]
  dsimp only
  rw [judgeQuiet_tracks (by rwa [ZoneRecord.rise_own rfl]) dry]
  simp only [Option.getD_some, approach_self, ZoneRecord.freshness]

/-- A STALE zone that finds 85 % goes QUIET and boosts at once (R115, R118). -/
theorem zoneGood_stale_humid (h : z.state = .stale) (on : 0 < t.get (.zone n .boostOn)) (humid : 850 ≤ x.rh) :
    zoneGood t n z x =
      { record := { z.fed x with state := .boosting, baseline := some x.ah, lowCount := 0, boostTimer := 0 }
        reports := [(.quiet, .fresh), (.boosting, .rhHigh)]
        action := .place
        sensor := z.freshness } := by
  rw [zoneGood, h]
  dsimp only
  rw [judgeQuiet_boosts (.inr humid), ZoneRecord.rise_own rfl, if_neg (Int.not_le.mpr on)]
  rfl

/-- In every state but UNUSED the sample replaces the last one, and the sensor is fresh (R115 to R118). -/
theorem zoneGood_fed (t : Settings) (n : Zone) (x : Sample) (used : z.state ≠ .unused) :
    (zoneGood t n z x).record.last = some x ∧ (zoneGood t n z x).record.failures = 0 ∧
      (zoneGood t n z x).record.stale = false ∧ (zoneGood t n z x).sensor = z.freshness := by
  unfold zoneGood
  dsimp only
  split
  next unused => exact absurd unused used
  next =>
    obtain ⟨last, failures, stale⟩ := judgeQuiet_keeps t n (z.fed x) x
    exact ⟨last, failures, stale, rfl⟩
  next =>
    split
    · split <;> exact ⟨rfl, rfl, rfl, rfl⟩
    · exact ⟨rfl, rfl, rfl, rfl⟩
  next => split <;> exact ⟨rfl, rfl, rfl, rfl⟩
  next =>
    obtain ⟨last, failures, stale⟩ := judgeQuiet_keeps t n { z.fed x with state := .quiet, baseline := some x.ah } x
    exact ⟨last, failures, stale, rfl⟩

end

/-! ### The zone's entry (R18, R19) -/

/-- A placed entry stands in the zone's slot at its boost level. -/
theorem zoneTable_place_mem (s : State) (n : Zone) (level : s.settings.nat (.zone n .boostLevel) ≤ 1200) :
    ∃ e ∈ (zoneTable s n .place).entries, e.slot = zoneSlot n ∧ e.source = .zone n ∧ e.remaining = none ∧
      e.want = .raise (s.settings.nat (.zone n .boostLevel)) := by
  refine ⟨_, List.mem_append_right _ (List.mem_singleton.mpr rfl), rfl, rfl, rfl, ?_⟩
  exact congrArg Want.raise (Nat.min_eq_left level)

/-- A re-timed slot holds no entry with another count, whether it is live or free. -/
theorem DemandTable.retime_remaining (t : DemandTable) (slot : Fin 16) (r : Option Nat) :
    ∀ e ∈ (if t.isLive slot then t.retime slot r else t).entries, e.slot = slot → e.remaining = r := by
  intro e he hslot
  split at he
  next =>
    obtain ⟨e', -, rfl⟩ := List.mem_map.mp he
    by_cases own : e'.slot = slot
    · rw [if_pos own]
    · rw [if_neg own] at hslot
      exact absurd hslot own
  next free => exact absurd (List.any_eq_true.mpr ⟨e, he, by simpa using hslot⟩) free

/-- A zone's overrun lies in the range of a remaining count (R114). -/
theorem Settings.Ok.clamp_overrun {t : Settings} (ok : t.Ok) (n : Zone) :
    clampNat 1 1440 (t.nat (.zone n .overrun)) = t.nat (.zone n .overrun) := by
  obtain ⟨low, high⟩ : (1 : Int) ≤ t.get (.zone n .overrun) ∧ t.get (.zone n .overrun) ≤ 120 := ok.range _
  unfold clampNat Settings.nat
  omega

theorem Settings.Ok.boostLevel_le {t : Settings} (ok : t.Ok) (n : Zone) : t.nat (.zone n .boostLevel) ≤ 1200 := by
  obtain ⟨-, high⟩ : (100 : Int) ≤ t.get (.zone n .boostLevel) ∧ t.get (.zone n .boostLevel) ≤ 1200 := ok.range _
  unfold Settings.nat
  omega

theorem Settings.Ok.boostOn_pos {t : Settings} (ok : t.Ok) (n : Zone) : 0 < t.get (.zone n .boostOn) := by
  obtain ⟨low, -⟩ : (20 : Int) ≤ t.get (.zone n .boostOn) ∧ t.get (.zone n .boostOn) ≤ 1000 := ok.range _
  omega

/-! ### What the move says (R124, R125) -/

section
variable {n : Zone} {z : ZoneRecord} {m : ZoneMove}

theorem zoneBodies_good {x : Sample} (sensor : m.sensor = z.freshness) (last : m.record.last = some x) :
    zoneBodies n m = (if z.stale then [.probe (.sensor (.zone n)) true] else [])
      ++ m.reports.map fun c => LogBody.zone n c.1 (some x.ah) c.2 := by
  rw [zoneBodies, sensor, last, ZoneRecord.freshness]
  cases z.stale <;> rfl

theorem zoneKinds_good (sensor : m.sensor = z.freshness) :
    zoneKinds m = (if z.stale then [.sensorStale] else []) ++ if m.reports = [] then [] else [.zoneState] := by
  rw [zoneKinds, sensor, ZoneRecord.freshness]
  cases z.stale <;> rfl

end

/-! ### The eighth byte (R97, R101) -/

/-- A reply whose CRC matches and whose address was sent ends its transaction OK (R97). -/
theorem exec_busReply_ok {s : State} {g : Originator} {req : BusRequest} {start a st d0 d1 d2 d3 crc : Byte}
    (hx : s.bus.transaction = some
      { originator := g, request := req, phase := .awaiting, reply := [start, a, st, d0, d1, d2, d3] })
    (hcrc : crc8 [a, st, d0, d1, d2, d3] = crc) (haddress : a.toNat = req.address) :
    exec (.busReply crc) s = .next (endTransaction s (.ok ⟨a, st, d0, d1, d2, d3⟩)) := by
  have outcome : judgeReply req.address [start, a, st, d0, d1, d2, d3, crc] = .ok ⟨a, st, d0, d1, d2, d3⟩ :=
    (if_pos hcrc).trans (if_pos haddress)
  rw [← outcome]
  exact exec_busReply hx rfl rfl crc

section
variable {s : State} {n : Zone} {x : Transaction} (hx : s.bus.transaction = some x)
  (owner : x.originator = .scanner (.zone n)) {z : ZoneRecord} (hz : s.humidity.zones.get n = z)
  (typed : z.zoneType ≠ .unused) {o : BusOutcome} {y : Sample} (good : judgeSample o = some y)
include hx owner hz typed good

/-- The end of a zone's good sample is the zone's move and a grant decision. -/
theorem endTransaction_zone :
    endTransaction s o =
      grant (applyZoneMove (cleared s (.scanner (.zone n))) n (zoneGood s.settings n z y)) := by
  have move : zoneOutcome s.settings n z o = zoneGood s.settings n z y := by rw [zoneOutcome, if_neg typed, good]
  rw [endTransaction_eq hx, owner, ← move, ← hz]
  rfl

/-- What the move leaves of the humidity monitor and of the table. -/
theorem endTransaction_zone_records :
    (endTransaction s o).humidity =
        { s.humidity with zones := s.humidity.zones.set n (zoneGood s.settings n z y).record } ∧
      (endTransaction s o).table = zoneTable s n (zoneGood s.settings n z y).action := by
  rw [endTransaction_zone hx owner hz typed good, grant_humidity, grant_table, applyZoneMove_humidity,
    applyZoneMove_table]
  exact ⟨rfl, rfl⟩

/-- What the move tells, and what it leaves as it was. -/
theorem endTransaction_zone_told :
    Told s (endTransaction s o) (zoneBodies n (zoneGood s.settings n z y))
        (byMap s (zoneKinds (zoneGood s.settings n z y))) ∧
      endTransaction s o = { s with
        bus := (endTransaction s o).bus, humidity := (endTransaction s o).humidity
        table := (endTransaction s o).table, links := (endTransaction s o).links
        log := (endTransaction s o).log, op := (endTransaction s o).op, damper := (endTransaction s o).damper } := by
  rw [endTransaction_zone hx owner hz typed good]
  constructor
  · exact (Told.applyZoneMove (cleared s _) n _).congr rfl rfl rfl rfl rfl rfl rfl rfl
  · apply State.eq_of_fields <;> simp [cleared]

end

end Sys2Proof.Machine

namespace Sys2Proof

open Machine

/-- Settles O43: the eighth byte hands the sample to the zone, whose move is read off by its state. -/
theorem zonesJudgeTheirSamples : Obligations.ZonesJudgeTheirSamples := by
  intro s n z req start a d0 d1 d2 d3 crc rh ah base v told hx hcrc haddress hrh hv most low high hah ok hz typed
    hbase htold
  obtain ⟨x, rfl, rfl, rfl⟩ : ∃ x : Sample, x.rh = rh ∧ x.t = v ∧ x.ah = ah := ⟨⟨rh, v, ah⟩, rfl, rfl, rfl⟩
  subst hbase
  have good : judgeSample (.ok ⟨a, 0x00#8, d0, d1, d2, d3⟩) = some x := judgeSample_good rfl hrh hv hah most low high
  have run := exec_busReply_ok hx hcrc haddress
  obtain ⟨humidity, table⟩ := endTransaction_zone_records hx rfl hz typed good
  obtain ⟨said, frame⟩ := endTransaction_zone_told hx rfl hz typed good
  generalize endTransaction s _ = t at run humidity table said frame
  refine ⟨t, run, fun m other => ?others, by rw [humidity], ?slots, frame, fun y hy => ?_⟩
  case others => rw [humidity, PerZone.get_set, if_neg other]
  case slots => rw [table, zoneTable_others]
  have record : y = (zoneGood s.settings n z x).record := by rw [← hy, humidity, PerZone.get_set, if_pos rfl]
  have tells : z.state ≠ .unused → ∀ changes, (zoneGood s.settings n z x).reports = changes →
      changes.length ≤ 2 → told t changes := by
    rintro used changes rfl few
    obtain ⟨last, -, -, sensor⟩ := zoneGood_fed s.settings n x used
    rw [zoneBodies_good sensor last, zoneKinds_good sensor] at said
    refine (htold ..).mpr ⟨said.1.wrote ?_, said.2.1⟩
    rw [List.length_append, List.length_map]
    split <;> simp <;> omega
  refine ⟨?fed, ?tracks, ?boosts, ?settles, ?goesOn, ?resumes, ?rests, ?stale⟩
  case fed =>
    intro used
    obtain ⟨last, failures, stale, -⟩ := zoneGood_fed s.settings n x used
    rw [record]
    exact ⟨last, failures, stale, zoneGood_zoneType ..⟩
  case tracks =>
    intro quiet low dry
    have move := zoneGood_quiet_tracks quiet low dry
    rw [record, move]
    exact ⟨rfl, rfl, tells (by simp [quiet]) _ (by rw [move]) (by simp)⟩
  case boosts =>
    intro quiet high
    have move := zoneGood_quiet_boosts quiet high
    rw [record, table, move]
    exact ⟨rfl, rfl, rfl, rfl, tells (by simp [quiet]) _ (by rw [move]; rfl) (by simp),
      zoneTable_place_mem s n (ok.boostLevel_le n)⟩
  case settles =>
    intro boosting low dry
    have move := zoneGood_boosting_settles boosting low dry
    rw [record, table]
    refine ⟨by rw [move]; split <;> rfl, by rw [move]; split <;> rfl, fun first => ?_, fun second => ?_⟩
    · rw [if_pos first] at move
      rw [move]
      exact ⟨boosting, rfl, tells (by simp [boosting]) _ (by rw [move]; rfl) (by simp)⟩
    · rw [if_neg (by simp [second])] at move
      rw [move]
      refine ⟨rfl, rfl, tells (by simp [boosting]) _ (by rw [move]) (by simp), fun e he own => ?_⟩
      rw [DemandTable.retime_remaining _ _ _ e he own, ok.clamp_overrun]
  case goesOn =>
    intro boosting high
    have move := zoneGood_boosting_goesOn boosting high
    rw [record, move]
    exact ⟨boosting, rfl, rfl, rfl, tells (by simp [boosting]) _ (by rw [move]; rfl) (by simp)⟩
  case resumes =>
    intro recovering high
    have move := zoneGood_recovering_resumes recovering high
    rw [record, table, move]
    exact ⟨rfl, rfl, rfl, rfl, tells (by simp [recovering]) _ (by rw [move]) (by simp),
      DemandTable.retime_remaining s.table (zoneSlot n) none⟩
  case rests =>
    intro recovering low dry
    have move := zoneGood_recovering_rests recovering low dry
    rw [record, table, move]
    exact ⟨recovering, rfl, rfl, tells (by simp [recovering]) _ (by rw [move]; rfl) (by simp)⟩
  case stale =>
    intro stale
    have moveDry := zoneGood_stale_dry (x := x) stale (ok.boostOn_pos n)
    have moveHumid := zoneGood_stale_humid (x := x) stale (ok.boostOn_pos n)
    rw [record]
    refine ⟨?_, fun dry => ?_, fun humid => ?_⟩
    · obtain dry | humid := Nat.lt_or_ge x.rh 850
      · rw [moveDry dry]
      · rw [moveHumid humid]
    · rw [moveDry dry]
      exact ⟨rfl, tells (by simp [stale]) _ (by rw [moveDry dry]) (by simp)⟩
    · rw [moveHumid humid]
      exact ⟨rfl, tells (by simp [stale]) _ (by rw [moveHumid humid]) (by simp)⟩

end Sys2Proof
end

section
/-! PROOFS. The boost limit, and the third failed sample of a zone and of the extract sensor: the zone's move by its
state, and what the extract sensor's outcome leaves before and after the dry guard's decision (R119, R120, R125, R126,
R129). -/

namespace Sys2Proof.Machine

/-! ### A zone's own moves (R119, R120) -/

section
variable {s : State} {n : Zone} {z : ZoneRecord} (hz : s.humidity.zones.get n = z)

section
include hz

/-- At the limit BOOST_REBASELINE is the zone's re-baselining (R120). -/
theorem exec_boostRebaseline (boosting : z.state = .boosting)
    (limit : s.settings.nat (.zone n .maxBoost) ≤ z.boostTimer + 1) :
    exec (.boostRebaseline n) s = .next (applyZoneMove s n (rebaseline z)) := by
  subst hz
  exact congrArg Host.Outcome.next (if_pos (by simp [boostSpent, boosting, limit]))

/-- At the third failure in a row SENSOR_STALE is the zone's failed sample (R119). -/
theorem exec_sensorStale_zoneFailed (typed : z.zoneType ≠ .unused) (third : z.failures = 2) :
    exec (.sensorStale (.zone n)) s = .next (applyZoneMove s n (zoneFailed z)) := by
  rw [exec_sensorStale_zone (o := .timeout) hz typed rfl third, scannerOutcome_failed hz typed rfl]

end

section
variable (third : z.failures = 2)
include third

theorem zoneFailed_quiet (quiet : z.state = .quiet) :
    zoneFailed z =
      { record := { z with state := .stale, failures := 3, stale := true }
        reports := [(.stale, .silent)]
        action := .keep
        sensor := some false } := by
  rw [zoneFailed, if_neg (by omega), if_pos third, quiet]

theorem zoneFailed_boosting (boosting : z.state = .boosting) :
    zoneFailed z =
      { record := { z with state := .recovering, failures := 3, stale := true, lowCount := 0 }
        reports := [(.recovering, .lost)]
        action := .timed
        sensor := some false } := by
  rw [zoneFailed, if_neg (by omega), if_pos third, boosting]

theorem zoneFailed_recovering (recovering : z.state = .recovering) :
    zoneFailed z =
      { record := { z with failures := 3, stale := true }, reports := [], action := .keep, sensor := some false } := by
  rw [zoneFailed, if_neg (by omega), if_pos third, recovering]
  rfl

end

end

/-! ### What a move leaves (R18 to R20, R124, R125) -/

/-- The zone's record, the table, the records and the kinds of a move, each read off from it. -/
theorem applyZoneMove_spec (s : State) (n : Zone) (m : ZoneMove) (few : (zoneBodies n m).length ≤ 512) :
    (applyZoneMove s n m).humidity = { s.humidity with zones := s.humidity.zones.set n m.record } ∧
      (applyZoneMove s n m).table = zoneTable s n m.action ∧ Wrote s (applyZoneMove s n m) (zoneBodies n m) ∧
      Delivered s (applyZoneMove s n m) (byMap s (zoneKinds m)) := by
  obtain ⟨logged, delivered, -, -⟩ := Told.applyZoneMove s n m
  exact ⟨applyZoneMove_humidity .., applyZoneMove_table .., logged.wrote few, delivered⟩

section
variable {s : State} {n : Zone} (live : s.table.isLive (zoneSlot n) = true)
include live

theorem zoneTable_timed_live :
    zoneTable s n .timed =
      s.table.retime (zoneSlot n) (some (clampNat 1 1440 (s.settings.nat (.zone n .overrun)))) := if_pos live

theorem zoneTable_remove_live : zoneTable s n .remove = s.table.vacate (zoneSlot n) := if_pos live

end

/-! ### The extract sensor's outcome (R125, R126) -/

/-- The state in which the dry guard decides: the extract record taken, and the sensor's report made. -/
def extractTaken (s : State) (x : ExtractRecord) : Option Bool → State
  | none => { s with humidity := { s.humidity with extract := x } }
  | some recovered => reportSensor { s with humidity := { s.humidity with extract := x } } .extract recovered

section
variable {s : State} {x : ExtractRecord} {r : Option Bool} {good : Option Sample}

@[simp] theorem extractTaken_humidity : (extractTaken s x r).humidity = { s.humidity with extract := x } := by
  cases r <;> simp [extractTaken]

@[simp] theorem extractTaken_table : (extractTaken s x r).table = s.table := by cases r <;> simp [extractTaken]

@[simp] theorem extractTaken_settings : (extractTaken s x r).settings = s.settings := by
  cases r <;> simp [extractTaken, State.settings]

@[simp] theorem extractTaken_time : (extractTaken s x r).time = s.time := by cases r <;> simp [extractTaken]

@[simp] theorem extractTaken_frost : (extractTaken s x r).frost = s.frost := by cases r <;> simp [extractTaken]

/-- The sensor's report is its PROBE record and SENSOR_STALE (R125). -/
theorem Told.extractTaken :
    Told s (extractTaken s x r) (r.toList.map (.probe (.sensor .extract)))
      (byMap s (if r.isSome then [.sensorStale] else [])) := by
  cases r with
  | none => exact (Told.of_eq rfl rfl rfl rfl).mono rfl fun _ _ _ => rfl
  | some recovered =>
    exact (Told.reportSensor { s with humidity := _ } .extract recovered).congr rfl rfl rfl rfl rfl rfl rfl rfl

variable (taken : s.humidity.extract.take good = (x, r))
include taken

/-- An outcome is the record taken, the sensor's report, and the dry guard's decision (R126). -/
theorem extractOutcome_eq : extractOutcome s good = dryDecision (extractTaken s x r) := by
  rw [extractOutcome, taken]
  cases r <;> rfl

/-- The dry guard's decision tells nothing of its own. -/
theorem extractOutcome_tells :
    Wrote s (extractOutcome s good) (r.toList.map (.probe (.sensor .extract))) ∧
      Delivered s (extractOutcome s good) (byMap s (if r.isSome then [.sensorStale] else [])) := by
  obtain ⟨logged, delivered, -, -⟩ := Told.extractTaken (s := s) (x := x) (r := r)
  rw [extractOutcome_eq taken]
  refine ⟨(logged.congr rfl rfl (dryDecision_log _)).wrote ?_, delivered.congr rfl (dryDecision_links _)⟩
  cases r <;> simp

end

theorem extractOutcome_frame (s : State) (good : Option Sample) :
    extractOutcome s good =
      { s with
        humidity := (extractOutcome s good).humidity
        table := (extractOutcome s good).table
        links := (extractOutcome s good).links
        log := (extractOutcome s good).log
        op := (extractOutcome s good).op
        damper := (extractOutcome s good).damper } := by
  apply State.eq_of_fields <;> simp

/-! ### The third failed sample of the extract sensor (R126, R129) -/

theorem ExtractRecord.take_third {e : ExtractRecord} (third : e.failures = 2) :
    e.take none = ({ e with failures := 3, stale := true }, some false) := by
  rw [take, if_neg (by omega), if_pos third]

theorem dryDecision_humidity (s : State) :
    (dryDecision s).humidity = { s.humidity with dryPlaced := (dryDecision s).humidity.dryPlaced } := by
  obtain ⟨zones, extract⟩ := dryDecision_records s
  show Humidity.mk (dryDecision s).humidity.zones (dryDecision s).humidity.extract _ = _
  rw [zones, extract]

/-- With a stale extract sensor the guard ends OFF, its entry removed where it was ON (R129). -/
theorem dryDecision_stale {s : State} (stale : s.humidity.extract.stale = true) :
    (dryDecision s).humidity = { s.humidity with dryPlaced := none } ∧
      (s.humidity.dryPlaced = none → (dryDecision s).table = s.table) ∧
      (∀ v, s.humidity.dryPlaced = some v → (dryDecision s).table = s.table.vacate drySlot) := by
  have staysOff : ¬s.dryOnDue = true := by simp [State.dryOnDue, dryTurnsOn, ExtractRecord.rhEta, stale]
  have turnsOff : s.dryOffDue = true := by simp [State.dryOffDue, dryTurnsOff, stale]
  have whenOff := fun off : s.humidity.dryPlaced = none => (dryDecision_off off).2 staysOff
  have whenOn := fun v (on : s.humidity.dryPlaced = some v) => (dryDecision_on on).1 turnsOff
  refine ⟨?_, fun off => (whenOff off).2, fun v on => (whenOn v on).2⟩
  have dryPlaced : (dryDecision s).humidity.dryPlaced = none := by
    cases guard : s.humidity.dryPlaced with
    | none => exact (whenOff guard).1
    | some v => exact (whenOn v guard).1
  rw [dryDecision_humidity, dryPlaced]

end Sys2Proof.Machine

namespace Sys2Proof

open Machine

/-- Settles O42: each row is the sensor's own move, read off by the zone's state or by the dry guard's. -/
theorem sensorsGoStaleAndZonesRebaseline : Obligations.SensorsGoStaleAndZonesRebaseline := by
  intro s
  refine ⟨?rebaselines, ?zoneGoesStale, ?extractGoesStale⟩
  case rebaselines =>
    intro n z hz boosting limit live
    obtain ⟨humidity, table, wrote, delivered⟩ :=
      applyZoneMove_spec s n (rebaseline z) (by simp [zoneBodies, rebaseline])
    exact ⟨_, exec_boostRebaseline hz boosting limit, humidity, table.trans (zoneTable_remove_live live), wrote,
      delivered, fun loaded => applyZoneMove_resolved s n _ loaded (.inr (.inr ⟨by simp [rebaseline], live⟩)),
      applyZoneMove_frame ..⟩
  case zoneGoesStale =>
    intro n z hz typed third
    refine ⟨_, exec_sensorStale_zoneFailed hz typed third, fun quiet => ?quiet, fun boosting live => ?boosting,
      fun recovering => ?recovering, applyZoneMove_frame ..⟩
    case quiet =>
      rw [zoneFailed_quiet third quiet]
      exact applyZoneMove_spec s n _ (by simp [zoneBodies])
    case boosting =>
      have move := zoneFailed_boosting third boosting
      obtain ⟨humidity, table, wrote, delivered⟩ :=
        applyZoneMove_spec s n (zoneFailed z) (by simp [zoneBodies, move])
      rw [move] at humidity table wrote delivered ⊢
      exact ⟨humidity, table.trans (zoneTable_timed_live live), wrote, delivered,
        fun loaded => applyZoneMove_resolved s n _ loaded (.inr (.inr ⟨by simp, live⟩))⟩
    case recovering =>
      rw [zoneFailed_recovering third recovering]
      exact applyZoneMove_spec s n _ (by simp [zoneBodies])
  case extractGoesStale =>
    intro third
    have taken := ExtractRecord.take_third third
    obtain ⟨wrote, delivered⟩ := extractOutcome_tells taken
    obtain ⟨humidity, whenOff, whenOn⟩ := dryDecision_stale
      (s := extractTaken s { s.humidity.extract with failures := 3, stale := true } (some false)) (by simp)
    rw [← extractOutcome_eq taken] at humidity whenOff whenOn
    simp only [extractTaken_humidity, extractTaken_table] at humidity whenOff whenOn
    exact ⟨extractOutcome s none, exec_sensorStale_extract (o := .timeout) rfl third, humidity, whenOff, whenOn, wrote,
      delivered, extractOutcome_frame ..⟩

end Sys2Proof
end

section
/-! PROOFS. A good sample of the extract sensor: the record it leaves, what then turns the dry guard, and the table
after the guard's decision (R126, R127, R129, R130). -/

namespace Sys2Proof.Machine

/-- The extract record of a good sample (R126, R127). -/
def Sample.extractRecord (y : Sample) : ExtractRecord := { last := some (y.rh, y.ah), failures := 0, stale := false }

/-- A good sample makes a stale sensor fresh (R126). -/
theorem ExtractRecord.take_good (e : ExtractRecord) (y : Sample) :
    e.take (some y) = (y.extractRecord, if e.stale then some true else none) := rfl

/-! ### What turns the guard at a good sample (R129) -/

section
variable {s : State} {y : Sample} {r : Option Bool} {oda : Option Int}

theorem extractTaken_dryOnDue (hoda : (s.frost.probes.get .oda).healthy? = oda) :
    (extractTaken s y.extractRecord r).dryOnDue = true ↔
      y.rh < s.settings.nat .dryOn ∧ ∃ o, oda = some o ∧ o < 0 := by
  subst hoda
  rw [State.dryOnDue_iff (by simp [Sample.extractRecord])]
  simp [Sample.extractRecord]

theorem extractTaken_dryOffDue (hoda : (s.frost.probes.get .oda).healthy? = oda) :
    (extractTaken s y.extractRecord r).dryOffDue = true ↔
      oda = none ∨ s.settings.nat .dryOff ≤ y.rh ∨ ∃ o, oda = some o ∧ 20 ≤ o := by
  subst hoda
  rw [State.dryOffDue_iff (by simp [Sample.extractRecord])]
  simp [Sample.extractRecord, or_left_comm]

/-- A stored `dry_level` is a level no placement clamps (R18, R128). -/
theorem Settings.Ok.clamp_dryLevel {t : Settings} (ok : t.Ok) : clampLevel (t.nat .dryLevel) = t.nat .dryLevel := by
  obtain ⟨-, high⟩ : (50 : Int) ≤ t.get .dryLevel ∧ t.get .dryLevel ≤ 1200 := ok.range _
  unfold clampLevel Settings.nat
  omega

/-- The guard's placement is a SETBACK at `dry_level`, standing, in slot 15 (R129, R130). -/
theorem extractTaken_dryTable (ok : s.settings.Ok) {x : ExtractRecord} :
    (extractTaken s x r).dryTable =
      s.table.place drySlot .dryGuard (.setback (s.settings.nat .dryLevel)) none s.time.stamp := by
  rw [State.dryTable, extractTaken_table, extractTaken_settings, extractTaken_time, ok.clamp_dryLevel]

end

/-! ### The eighth byte (R97, R101) -/

section
variable {s : State} {x : Transaction} (hx : s.bus.transaction = some x)
  (owner : x.originator = .scanner .extract) {o : BusOutcome} {y : Sample} (good : judgeSample o = some y)
include hx owner good

/-- The end of the extract sensor's good sample is its outcome and a grant decision. -/
theorem endTransaction_extract :
    endTransaction s o = grant (extractOutcome (cleared s (.scanner .extract)) (some y)) := by
  rw [endTransaction_eq hx, owner, ← good]
  rfl

/-- The humidity monitor and the table are those the dry guard leaves. -/
theorem endTransaction_extract_records :
    ∃ u, u = extractTaken (cleared s (.scanner .extract)) y.extractRecord
          (if s.humidity.extract.stale then some true else none) ∧
      (endTransaction s o).humidity = (dryDecision u).humidity ∧
      (endTransaction s o).table = (dryDecision u).table := by
  rw [endTransaction_extract hx owner good, extractOutcome_eq (ExtractRecord.take_good _ y)]
  exact ⟨_, rfl, rfl, rfl⟩

/-- What the sample tells, and what it leaves as it was. -/
theorem endTransaction_extract_told :
    Wrote s (endTransaction s o) (if s.humidity.extract.stale then [.probe (.sensor .extract) true] else []) ∧
      Delivered s (endTransaction s o) (byMap s (if s.humidity.extract.stale then [.sensorStale] else [])) ∧
      endTransaction s o = { s with
        bus := (endTransaction s o).bus, humidity := (endTransaction s o).humidity
        table := (endTransaction s o).table, links := (endTransaction s o).links
        log := (endTransaction s o).log, op := (endTransaction s o).op, damper := (endTransaction s o).damper } := by
  obtain ⟨wrote, delivered⟩ := extractOutcome_tells (s := cleared s (.scanner .extract))
    (ExtractRecord.take_good s.humidity.extract y)
  rw [endTransaction_extract hx owner good]
  generalize s.humidity.extract.stale = stale at wrote delivered ⊢
  refine ⟨?_, ?_, by apply State.eq_of_fields <;> simp [cleared]⟩
  · cases stale <;> exact wrote
  · cases stale <;> exact delivered

end

end Sys2Proof.Machine

namespace Sys2Proof

open Machine

/-- Settles O44: the eighth byte hands the sample to the extract sensor, and the guard's decision is read off by
whether it stood ON. -/
theorem dryGuardDecidesAtTheExtractSample : Obligations.DryGuardDecidesAtTheExtractSample := by
  intro s req start a d0 d1 d2 d3 crc rh v oda placed hx hcrc haddress hrh hv most low high ok hoda hplaced
  obtain ⟨y, rfl, rfl, hah⟩ : ∃ y : Sample, y.rh = rh ∧ y.t = v ∧ y.ah = rh * satDensity v / 1000 :=
    ⟨⟨rh, v, _⟩, rfl, rfl, rfl⟩
  have good : judgeSample (.ok ⟨a, 0x00#8, d0, d1, d2, d3⟩) = some y := judgeSample_good rfl hrh hv hah most low high
  have run := exec_busReply_ok hx hcrc haddress
  obtain ⟨wrote, delivered, frame⟩ := endTransaction_extract_told hx rfl good
  obtain ⟨u, hu, humidity, table⟩ := endTransaction_extract_records hx rfl good
  generalize endTransaction s _ = t at run wrote delivered frame humidity table
  have onDue : u.dryOnDue = true ↔ y.rh < s.settings.nat .dryOn ∧ ∃ o, oda = some o ∧ o < 0 :=
    hu ▸ extractTaken_dryOnDue hoda.symm
  have offDue : u.dryOffDue = true ↔ oda = none ∨ s.settings.nat .dryOff ≤ y.rh ∨ ∃ o, oda = some o ∧ 20 ≤ o :=
    hu ▸ extractTaken_dryOffDue hoda.symm
  have dryTable : u.dryTable = placed := by rw [hu, extractTaken_dryTable (by exact ok), hplaced]; rfl
  have settings : u.settings = s.settings := by rw [hu, extractTaken_settings]; rfl
  have tableBefore : u.table = s.table := by rw [hu, extractTaken_table]; rfl
  have humidityBefore : u.humidity = { s.humidity with extract := y.extractRecord } := by
    rw [hu, extractTaken_humidity]; rfl
  have guard : u.humidity.dryPlaced = s.humidity.dryPlaced := by rw [humidityBefore]
  have whenOff := dryDecision_off (s := u)
  have whenOn := @dryDecision_on u
  obtain ⟨zones, extract⟩ := dryDecision_records u
  rw [guard, settings, tableBefore, dryTable, ← humidity, ← table] at whenOff whenOn
  rw [← humidity, humidityBefore] at zones extract
  refine ⟨t, run, zones, by rw [extract, Sample.extractRecord, hah], ?turnsOn, ?staysOff, ?turnsOff, ?staysOn, wrote,
    delivered, frame⟩
  case turnsOn => exact fun off o healthy dry cold => (whenOff off).1 (onDue.mpr ⟨dry, o, healthy, cold⟩)
  case staysOff =>
    intro off why
    refine (whenOff off).2 fun due => ?_
    obtain ⟨dry, o, healthy, cold⟩ := onDue.mp due
    obtain missing | humid | ⟨p, other, warm⟩ := why
    · rw [missing] at healthy; cases healthy
    · omega
    · rw [healthy] at other; cases other; omega
  case turnsOff => exact fun level on why => (whenOn on).1 (offDue.mpr why)
  case staysOn =>
    intro level o on healthy cold dry
    obtain ⟨-, same, other⟩ := whenOn on
    have early : ¬u.dryOffDue = true := by
      rw [offDue, healthy]
      simp only [reduceCtorEq, Option.some.injEq, exists_eq_left', false_or]
      omega
    exact ⟨same early, other early⟩

end Sys2Proof
end

section
/-! PROOFS. The filter step: the records of both filters handed back and what that tells, the pressure computation and
the life and state it leads to (R139 to R144). -/

namespace Sys2Proof.Machine

/-! ### A filter's record handed back (R144) -/

@[simp] theorem handFilterState_filters (s : State) (f : Side) (new : FilterRecord) :
    (handFilterState s f new).filters = { s.filters with records := s.filters.records.set f new } := by
  unfold handFilterState; dsimp only; split <;> rfl

/-- With the state kept a filter's record changes and nothing else. -/
theorem handFilterState_still {s : State} {f : Side} {new : FilterRecord}
    (same : (s.filters.records.get f).state = new.state) : handFilterState s f new = setFilter s f new := if_pos same

/-- A filter's own record handed back changes nothing. -/
theorem handFilterState_self (s : State) (f : Side) : handFilterState s f (s.filters.records.get f) = s := by
  rw [handFilterState_still rfl, setFilter, PerSide.set_get]

/-- Whether a filter's record handed back changes its state (R144). -/
def filterMoved (s : State) (f : Side) (new : FilterRecord) : Bool :=
  decide (new.state ≠ (s.filters.records.get f).state)

theorem filterMoved_iff {s : State} {f : Side} {new : FilterRecord} :
    filterMoved s f new = true ↔ (s.filters.records.get f).state ≠ new.state := by
  rw [filterMoved, decide_eq_true_iff, ne_comm]

theorem filterMoved_eq_false_iff {s : State} {f : Side} {new : FilterRecord} :
    filterMoved s f new = false ↔ (s.filters.records.get f).state = new.state := by
  rw [filterMoved, decide_eq_false_iff_not, ne_eq, Decidable.not_not, eq_comm]

/-- What a filter's record handed back tells (R144). -/
theorem Told.handFilterState (s : State) (f : Side) (new : FilterRecord) :
    Told s (handFilterState s f new)
      (if filterMoved s f new then [.filter f new.state new.lifeUsed new.kept] else [])
      (byMap s (if filterMoved s f new then [.filterState] else [])) := by
  cases moved : filterMoved s f new with
  | false =>
    rw [handFilterState_still (filterMoved_eq_false_iff.mp moved)]
    exact Told.of_eq rfl rfl rfl rfl
  | true =>
    rw [Machine.handFilterState, if_neg (filterMoved_iff.mp moved)]
    have told := (Told.raise (setFilter s f new) .filterState rfl).trans
      (Told.writeLog _ (.filter f new.state new.lifeUsed new.kept))
    exact (told.congr rfl rfl rfl rfl rfl rfl rfl rfl).mono rfl fun l k _ => Bool.or_false _

/-- A changed state brings the resolver up to date (R144, R27). -/
theorem handFilterState_resolved {s : State} {f : Side} {new : FilterRecord}
    (moved : (s.filters.records.get f).state ≠ new.state) (loaded : s.isLoading = false) :
    Resolved (handFilterState s f new) := by
  rw [handFilterState, if_neg moved]
  exact Resolved.notice _ loaded

/-- Of the filter monitor the resolver reads the two states alone (R30, R31). -/
theorem Resolved.withFilters {s : State} (h : Resolved s) {m : FilterMonitor}
    (states : ∀ f, (m.records.get f).state = (s.filters.records.get f).state) : Resolved { s with filters := m } := by
  obtain ⟨wasOpen, up⟩ := h
  refine ⟨wasOpen, up.trans ?_⟩
  simp only [resolve, states]
  rfl

theorem Resolved.setFilter {s : State} {f : Side} {new : FilterRecord}
    (same : (s.filters.records.get f).state = new.state) (h : Resolved s) : Resolved (setFilter s f new) := by
  refine h.withFilters fun g => ?_
  rw [PerSide.get_set]
  split
  · rename_i own; rw [own, same]
  · rfl

/-! ### Both records handed back -/

/-- The records of both filters handed back, SUPPLY before EXTRACT (R139, R150). -/
def handFilters (s : State) (new : Side → FilterRecord) : State :=
  handFilterState (handFilterState s .supply (new .supply)) .extract (new .extract)

section
variable (s : State) (new : Side → FilterRecord)

theorem byMap_or (a b : Bool) (ks : List EventKind) (l : Link) (k : EventKind) :
    byMap s (if a || b then ks else []) l k =
      (byMap s (if a then ks else []) l k || byMap s (if b then ks else []) l k) := by
  cases a <;> cases b <;> simp

theorem length_filterBodies_le (moved : Side → Bool) (body : Side → LogBody) :
    (([Side.supply, Side.extract].filter moved).map body).length ≤ 2 := by
  rw [List.length_map]
  exact List.length_filter_le ..

theorem handFilters_filters :
    (handFilters s new).filters = { s.filters with records := ⟨new .supply, new .extract⟩ } := by
  simp only [handFilters, handFilterState_filters]
  rfl

theorem handFilters_keeps :
    (handFilters s new).store = s.store ∧ (handFilters s new).runner = s.runner ∧
      (handFilters s new).time = s.time := by
  simp [handFilters]

theorem handFilters_record (f : Side) : (handFilters s new).filters.records.get f = new f := by
  rw [handFilters_filters]
  cases f <;> rfl

/-- What both records handed back tell (R144). -/
theorem Told.handFilters :
    Told s (handFilters s new)
      (([Side.supply, Side.extract].filter fun f => filterMoved s f (new f)).map fun f =>
        .filter f (new f).state (new f).lifeUsed (new f).kept)
      (byMap s
        (if filterMoved s .supply (new .supply) || filterMoved s .extract (new .extract) then [.filterState]
         else [])) := by
  have told := (Told.handFilterState s .supply (new .supply)).trans
    (Told.handFilterState (Machine.handFilterState s .supply (new .supply)) .extract (new .extract))
  have extract : filterMoved (Machine.handFilterState s .supply (new .supply)) .extract (new .extract) =
      filterMoved s .extract (new .extract) := by simp [filterMoved]
  rw [extract, byMap_congr (handFilterState_store ..)] at told
  refine told.mono ?_ fun l k _ => (byMap_or ..).symm
  cases supply : filterMoved s .supply (new .supply) <;> cases extract : filterMoved s .extract (new .extract) <;>
    simp [supply, extract]

theorem handFilters_resolved {f : Side} (moved : filterMoved s f (new f) = true) (loaded : s.isLoading = false) :
    Resolved (handFilters s new) := by
  have changed := filterMoved_iff.mp moved
  have loaded' : (handFilterState s .supply (new .supply)).isLoading = false := by
    rw [isLoading_congr (s := s) (by simp), loaded]
  have extract : (handFilterState s .supply (new .supply)).filters.records.get .extract =
      s.filters.records.get .extract := by simp
  by_cases same : (s.filters.records.get .extract).state = (new .extract).state
  · cases f with
    | supply =>
      rw [handFilters, handFilterState_still (by rw [extract, same])]
      exact (handFilterState_resolved changed loaded).setFilter (by rw [extract, same])
    | extract => exact absurd same changed
  · exact handFilterState_resolved (by rwa [extract]) loaded'

/-- What both records handed back can change. -/
theorem handFilters_frame :
    handFilters s new =
      { s with
        filters := (handFilters s new).filters
        op := (handFilters s new).op
        damper := (handFilters s new).damper
        links := (handFilters s new).links
        log := (handFilters s new).log } := by
  apply State.eq_of_fields <;> simp [handFilters]

end

/-! ### The pressure computation (R139 to R142) -/

/-- The supply filter's drop is not read while the frost guard thaws (R139). -/
theorem pressureMade_eq (f : Side) (fan : FanRecord) (stage : Stage) :
    pressureMade f fan stage =
      (decide (fan.state = .running) && decide (200 ≤ fan.flow) && !fan.probeFault
        && !(decide (f = .supply) && decide (stage = .thaw))) := by
  cases f <;> rfl

theorem pressureLoading_some (clean factor ds : Nat) :
    (pressureLoading (some clean) factor ds : Int) =
      min (max ((((ds : Int) - clean) * 100).tdiv ((clean * factor / 10 : Nat) - (clean : Int))) 0) 100 := by
  simp only [pressureLoading, clampInt, endReference]
  omega

section
variable {x : FilterRecord} {t : Settings} {dp q ds : Nat}

/-- Without a clean reference a filter has no loading, and its missing counter stands (R141, R142). -/
theorem FilterRecord.press_unset (unset : x.kept.clean = none) :
    (x.press t dp q).loading = 0 ∧ (x.press t dp q).missing = x.missing := by
  simp only [press, unset]
  exact ⟨rfl, rfl⟩

variable (smoothed : smoothedAfter x.smoothed (normalisedDrop dp (t.nat .qRef) q) = ds)
include smoothed

theorem FilterRecord.press_smoothed : (x.press t dp q).smoothed = some ds := congrArg some smoothed

theorem FilterRecord.press_set {clean : Nat} (set : x.kept.clean = some clean) :
    ((x.press t dp q).loading : Int) =
        min (max ((((ds : Int) - clean) * 100).tdiv ((clean * t.nat .endFactor / 10 : Nat) - (clean : Int))) 0) 100 ∧
      (x.press t dp q).missing =
        if ds < clean * 4 / 10 then min (x.missing + 1) 10 else if ds < clean * 6 / 10 then x.missing else 0 := by
  simp only [press, smoothed, set]
  exact ⟨pressureLoading_some .., rfl⟩

end

/-! ### Life and state (R143, R144) -/

theorem decideState_eq (t : Settings) (shortfall : Bool) (x : FilterRecord) :
    decideState t shortfall x =
      if 10 ≤ x.missing then .missing
      else if shortfall = true ∧ 80 ≤ x.loading then .blocked
      else if 100 ≤ x.lifeUsed then .overdue
      else if t.nat .dueLevel ≤ x.lifeUsed then .due
      else if 50 ≤ x.lifeUsed then .loading
      else .clean := by
  simp only [decideState, Bool.and_eq_true, decide_eq_true_eq]

/-! ### The filter step (R139) -/

theorem FilterRecord.step_faulted {x : FilterRecord} (t : Settings) (f : Side) (fan : FanRecord) (stage : Stage)
    (bad : x.probeFault = true ∨ x.lastGood = none) : x.step t f fan stage = x := by
  obtain bad | bad := bad <;> simp [step, bad]

theorem FilterRecord.step_good {x : FilterRecord} (t : Settings) (f : Side) (fan : FanRecord) (stage : Stage) {dp : Nat}
    (healthy : x.probeFault = false) (read : x.lastGood = some dp) :
    x.step t f fan stage =
      (if pressureMade f fan stage then x.press t dp fan.flow else x).decide t fan.shortfall := by
  simp only [step, healthy, read]

/-- A filter's record after a filter step (R139). -/
def filterStepped (s : State) (f : Side) : FilterRecord :=
  (s.filters.records.get f).step s.settings f (s.fans.get f) s.frost.record.stage

/-- A filter step hands back both records, each stepped on the inputs as they stood (R139). -/
theorem filterStep_eq (s : State) :
    filterStep s =
      { handFilters s (filterStepped s) with
        filters := { s.filters with
          records := ⟨filterStepped s .supply, filterStepped s .extract⟩, steps := s.filters.steps + 1 } } := by
  have second : filterStepOne (filterStepOne s .supply) .extract = handFilters s (filterStepped s) := by
    rw [filterStepOne]
    simp only [settings_congr (s := s) (t := filterStepOne s .supply) (by simp), filterStepOne_fans,
      filterStepOne_frost]
    simp only [filterStepOne, handFilterState_filters, PerSide.get_set]
    rfl
  rw [filterStep, second]
  simp only [handFilters_filters]

end Sys2Proof.Machine

namespace Sys2Proof

open Machine

/-- Settles O45: each filter's record is stepped on the inputs as they stood, and both are then handed back. -/
theorem filterStepJudgesEachFilter : Obligations.FilterStepJudgesEachFilter := by
  intro s loaded
  have run : exec .filterStep s = .next (filterStep s) := by
    show Host.Outcome.next (if s.isLoading then s else filterStep s) = _
    rw [loaded, if_neg Bool.false_ne_true]
  have shape := filterStep_eq s
  have record : ∀ f, (filterStep s).filters.records.get f = filterStepped s f := by
    intro f
    rw [shape]
    cases f <;> rfl
  refine ⟨filterStep s, run, ?records, by rw [shape], by rw [shape], ?tells, ?frame⟩
  case records =>
    intro f x y fan hx hy hfan
    have stepped : y = x.step s.settings f fan s.frost.record.stage := by
      rw [← hy, record, filterStepped, hx, hfan]
    refine ⟨fun bad => stepped.trans (FilterRecord.step_faulted _ _ _ _ bad), ?_⟩
    intro dp healthy read made d ds hmade hd hds
    rw [FilterRecord.step_good _ _ _ _ healthy read, pressureMade_eq, ← hmade] at stepped
    have smoothed : smoothedAfter x.smoothed (normalisedDrop dp (s.settings.nat .qRef) fan.flow) = ds := by
      rw [hds, hd]; rfl
    subst stepped
    cases made with
    | false =>
      exact ⟨fun _ => ⟨rfl, rfl, rfl⟩, fun no => absurd no Bool.false_ne_true, rfl, decideState_eq .., rfl, rfl,
        rfl, rfl, rfl⟩
    | true =>
      exact ⟨fun no => absurd no Bool.noConfusion,
        fun _ =>
          ⟨FilterRecord.press_smoothed smoothed, FilterRecord.press_unset, fun _ => FilterRecord.press_set smoothed⟩,
        rfl, decideState_eq .., rfl, rfl, rfl, rfl, rfl⟩
  case tells =>
    intro moved hmoved
    have same : moved = fun f => filterMoved s f (filterStepped s f) := by
      funext f
      rw [hmoved, record, filterMoved]
    obtain ⟨logged, delivered, -, -⟩ := Told.handFilters s (filterStepped s)
    rw [same]
    simp only [record]
    refine ⟨(logged.congr rfl rfl (by rw [shape])).wrote ?_, delivered.congr rfl (by rw [shape]), fun either => ?_⟩
    · exact Nat.le_trans (length_filterBodies_le ..) (by decide)
    · have resolved : Resolved (handFilters s (filterStepped s)) :=
        either.elim (handFilters_resolved s _ · loaded) (handFilters_resolved s _ · loaded)
      rw [shape]
      exact resolved.withFilters fun f => by rw [handFilters_record]; cases f <;> rfl
  case frame =>
    rw [shape, handFilters_frame]

end Sys2Proof
end

section
/-! PROOFS. The procedure second taken apart: the checks of the selected sides, the samples, the commit, and the end in
which each of them can come out (R145 to R150, R153). -/

namespace Sys2Proof.Machine

/-! ### The checks (R147, R148) -/

theorem selected_or_iff (sel : Selection) (p : Side → Bool) :
    (sel.has .supply && p .supply || sel.has .extract && p .extract) = true ↔
      ∃ f, sel.has f = true ∧ p f = true := by
  simp only [Bool.or_eq_true, Bool.and_eq_true]
  constructor
  · exact fun h => h.elim (⟨.supply, ·⟩) (⟨.extract, ·⟩)
  · rintro ⟨f, h⟩
    cases f with
    | supply => exact .inl h
    | extract => exact .inr h

section
variable {s : State} {sel : Selection}

theorem flowCheckFails_flow (out : ∃ f, sel.has f = true ∧ sideFlowOk s f = false) :
    flowCheckFails s sel = some .failedFlow := by
  obtain ⟨f, has, out⟩ := out
  exact if_pos ((selected_or_iff sel fun f => !sideFlowOk s f).mpr ⟨f, has, by rw [out]; rfl⟩)

theorem flowCheckFails_inBand (ok : ∀ f, sel.has f = true → sideFlowOk s f = true) :
    flowCheckFails s sel = if anyProbeFaulted s sel then some .failedProbe else none := by
  refine if_neg fun out => ?_
  obtain ⟨f, has, out⟩ := (selected_or_iff sel fun f => !sideFlowOk s f).mp out
  simp [ok f has] at out

theorem flowCheckFails_probe (ok : ∀ f, sel.has f = true → sideFlowOk s f = true)
    (bad : ∃ f, sel.has f = true ∧ sideProbeFaulted s f = true) : flowCheckFails s sel = some .failedProbe := by
  rw [flowCheckFails_inBand ok]
  exact if_pos ((selected_or_iff sel (sideProbeFaulted s)).mpr bad)

theorem flowCheckFails_none (ok : ∀ f, sel.has f = true → sideFlowOk s f = true ∧ sideProbeFaulted s f = false) :
    flowCheckFails s sel = none := by
  rw [flowCheckFails_inBand fun f has => (ok f has).1]
  refine if_neg fun bad => ?_
  obtain ⟨f, has, bad⟩ := (selected_or_iff sel (sideProbeFaulted s)).mp bad
  simp [(ok f has).2] at bad

theorem sampleFails_none {f : Side} (ok : sideFlowOk s f = true) (healthy : sideProbeFaulted s f = false) :
    sampleFails s f = none := by
  simp [sampleFails, ok, healthy]

/-- A side's check fails for its flow or for its probes (R148). -/
theorem sampleFails_some {f : Side} {r : ProcedureOutcome} (h : sampleFails s f = some r) :
    (r = .failedFlow ∧ sideFlowOk s f = false) ∨ (r = .failedProbe ∧ sideProbeFaulted s f = true) := by
  unfold sampleFails at h
  split at h
  · exact .inl ⟨(Option.some.inj h).symm, (Bool.not_eq_true' _).mp ‹_›⟩
  · split at h
    · exact .inr ⟨(Option.some.inj h).symm, ‹_›⟩
    · cases h

theorem sampleFails_isSome {f : Side} (bad : sideFlowOk s f = false ∨ sideProbeFaulted s f = true) :
    ∃ r, sampleFails s f = some r := by
  unfold sampleFails
  split
  · exact ⟨_, rfl⟩
  · rename_i inBand
    exact ⟨_, if_pos (bad.resolve_left fun low => inBand (by rw [low]; rfl))⟩

/-! ### The samples (R148) -/

theorem sampleSide_ok {f : Side} (ok : sel.has f = true → sampleFails s f = none) (taken : PerSide (List Nat)) :
    sampleSide s sel f taken =
      .ok (taken.set f (if sel.has f then taken.get f ++ [sampleDrop s f] else taken.get f)) := by
  unfold sampleSide
  cases has : sel.has f with
  | false => simp
  | true => simp [ok has]

theorem sampleSide_fails {f : Side} {r : ProcedureOutcome} (has : sel.has f = true) (bad : sampleFails s f = some r)
    (taken : PerSide (List Nat)) : sampleSide s sel f taken = .error r := by
  simp only [sampleSide, has, bad, if_true]

theorem sampleBoth_ok (ok : ∀ f, sel.has f = true → sampleFails s f = none) {taken new : PerSide (List Nat)}
    (hnew : ∀ f, new.get f = if sel.has f then taken.get f ++ [sampleDrop s f] else taken.get f) :
    sampleBoth s sel taken = .ok new := by
  simp only [sampleBoth, sampleSide_ok (ok _)]
  refine congrArg Except.ok (PerSide.ext_get fun f => ?_)
  rw [hnew]
  cases f <;> simp

/-- The samples fail as the first selected side with a failing check does (R148). -/
theorem sampleBoth_fails {g : Side} (has : sel.has g = true) {q : ProcedureOutcome} (bad : sampleFails s g = some q)
    (taken : PerSide (List Nat)) :
    ∃ f r, sel.has f = true ∧ sampleFails s f = some r ∧ sampleBoth s sel taken = .error r := by
  by_cases supply : sel.has .supply = true ∧ ∃ r, sampleFails s .supply = some r
  · obtain ⟨hasSupply, r, fails⟩ := supply
    exact ⟨.supply, r, hasSupply, fails, by simp only [sampleBoth, sampleSide_fails hasSupply fails]⟩
  · have passes : sel.has .supply = true → sampleFails s .supply = none := fun hasSupply =>
      Option.eq_none_iff_forall_ne_some.mpr fun r fails => supply ⟨hasSupply, r, fails⟩
    cases g with
    | supply => exact absurd ⟨has, q, bad⟩ supply
    | extract =>
      exact ⟨.extract, q, has, bad, by simp only [sampleBoth, sampleSide_ok passes, sampleSide_fails has bad]⟩

end

/-! ### The end (R153) -/

section
variable {s : State} {owner : Link} {sel : Selection}
  (running : s.runner.procedure.running? = some (owner, sel)) (o : ProcedureOutcome) (r : PerSide (Option Nat))
include running

theorem finishProcedure_tells :
    Logged s (finishProcedure s o r) [.procedure o sel owner] ∧
      Delivered s (finishProcedure s o r) (endGiven s o) := by
  obtain ⟨logged, delivered, -, -⟩ := Told.finishProcedure s o r
  rw [endBodies, running] at logged
  exact ⟨logged, delivered⟩

theorem finishProcedure_ends :
    (finishProcedure s o r).runner = endedRunner s o r ∧ Wrote s (finishProcedure s o r) [.procedure o sel owner] ∧
      Delivered s (finishProcedure s o r) (endGiven s o) := by
  obtain ⟨logged, delivered⟩ := finishProcedure_tells running o r
  exact ⟨finishProcedure_runner .., logged.wrote (by simp), delivered⟩

theorem finishProcedure_resolved (loaded : s.isLoading = false) : Resolved (finishProcedure s o r) := by
  rw [finishProcedure, running]
  exact Resolved.notice _ loaded

end

/-! ### The flow check (R147) -/

section
variable {s : State} {owner : Link} {sel : Selection}

theorem takeFlowCheck_fails {o : ProcedureOutcome} (h : flowCheckFails s sel = some o) :
    takeFlowCheck s owner sel = finishProcedure s o ⟨none, none⟩ := by
  rw [takeFlowCheck, h]

theorem takeFlowCheck_passes (h : flowCheckFails s sel = none) :
    takeFlowCheck s owner sel = notice (setProcedure s (.measuring owner sel 0 ⟨[], []⟩)) := by
  rw [takeFlowCheck, h]

theorem takeFlowCheck_resolved (running : s.runner.procedure.running? = some (owner, sel))
    (loaded : s.isLoading = false) : Resolved (takeFlowCheck s owner sel) := by
  cases h : flowCheckFails s sel with
  | none =>
    rw [takeFlowCheck_passes h]
    exact Resolved.notice _ loaded
  | some o =>
    rw [takeFlowCheck_fails h]
    exact finishProcedure_resolved running o _ loaded

theorem takeFlowCheck_frame :
    takeFlowCheck s owner sel =
      { s with
        runner := (takeFlowCheck s owner sel).runner
        op := (takeFlowCheck s owner sel).op
        damper := (takeFlowCheck s owner sel).damper
        links := (takeFlowCheck s owner sel).links
        log := (takeFlowCheck s owner sel).log } := by
  apply State.eq_of_fields <;> simp

end

/-! ### The commit (R149, R150) -/

/-- A renewed filter has used none of its life (R143). -/
theorem FilterRecord.life_renew (x : FilterRecord) (clean : Nat) (t : Settings) : (x.renew clean).life t = 0 := by
  simp [life, renew]

theorem FilterRecord.decide_renew (x : FilterRecord) (clean : Nat) (t : Settings) (shortfall : Bool) :
    (x.renew clean).decide t shortfall =
      { x.renew clean with lifeUsed := 0, state := ((x.renew clean).decide t shortfall).state } := by
  rw [← life_renew x clean t]
  rfl

theorem Settings.Ok.dueLevel_pos {t : Settings} (ok : t.Ok) : 0 < t.nat .dueLevel := by
  have low : 50 ≤ t.get .dueLevel := (ok.range .dueLevel).1
  rw [Settings.nat]
  omega

/-- A renewed filter is CLEAN (R144). -/
theorem FilterRecord.decide_renew_state (x : FilterRecord) (clean : Nat) {t : Settings} (ok : t.Ok)
    (shortfall : Bool) : ((x.renew clean).decide t shortfall).state = .clean := by
  have decided : ((x.renew clean).decide t shortfall).state =
      decideState t shortfall { x.renew clean with lifeUsed := (x.renew clean).life t } := rfl
  rw [decided, life_renew, decideState_eq]
  simp [renew, Nat.ne_of_gt ok.dueLevel_pos]

section
variable (s : State) (sel : Selection) (taken : PerSide (List Nat))

/-- A filter's record after a commit: renewed when its side is selected (R150). -/
def committed (f : Side) : FilterRecord :=
  if sel.has f then
    ((s.filters.records.get f).renew (cleanReference (taken.get f))).decide s.settings (s.fans.get f).shortfall
  else s.filters.records.get f

variable {sel} in
theorem committed_unselected {f : Side} (has : sel.has f = false) :
    committed s sel taken f = s.filters.records.get f := by
  rw [committed, has, if_neg Bool.false_ne_true]

variable {sel} in
theorem committed_selected {f : Side} (has : sel.has f = true) :
    committed s sel taken f =
      ((s.filters.records.get f).renew (cleanReference (taken.get f))).decide s.settings
        (s.fans.get f).shortfall := if_pos has

theorem commitSide_eq (f : Side) : commitSide s sel f taken = handFilterState s f (committed s sel taken f) := by
  cases has : sel.has f with
  | false => rw [committed_unselected s taken has, handFilterState_self, commitSide, has, if_neg Bool.false_ne_true]
  | true => rw [committed_selected s taken has, commitSide, if_pos has, commitFilter]

/-- A commit hands back both records, the fields to the store, and ends the procedure DONE (R150). -/
theorem commit_eq :
    commit s sel taken =
      finishProcedure (handOverFields (handFilters s (committed s sel taken))) .done
        ⟨newReference sel .supply taken, newReference sel .extract taken⟩ := by
  have second : committed (commitSide s sel .supply taken) sel taken .extract = committed s sel taken .extract := by
    have record : (commitSide s sel .supply taken).filters.records.get .extract = s.filters.records.get .extract := by
      simp [commitSide_eq]
    simp only [committed, record, commitSide_fans,
      settings_congr (s := s) (t := commitSide s sel .supply taken) (by simp)]
  rw [commit, commitSide_eq _ _ _ .extract, second, commitSide_eq]
  rfl

theorem commit_filters :
    (commit s sel taken).filters =
      { s.filters with records := ⟨committed s sel taken .supply, committed s sel taken .extract⟩ } := by
  rw [commit_eq, finishProcedure_filters, handOverFields_filters, handFilters_filters]

theorem commit_record (f : Side) : (commit s sel taken).filters.records.get f = committed s sel taken f := by
  rw [commit_filters]
  cases f <;> rfl

theorem commit_store :
    (commit s sel taken).store =
      s.store.takeFields ⟨(committed s sel taken .supply).kept, (committed s sel taken .extract).kept⟩ := by
  obtain ⟨store, -, -⟩ := handFilters_keeps s (committed s sel taken)
  rw [commit_eq, finishProcedure_store, handOverFields, store, handFilters_filters]
  rfl

theorem commit_runner :
    (commit s sel taken).runner =
      endedRunner s .done ⟨newReference sel .supply taken, newReference sel .extract taken⟩ := by
  obtain ⟨-, runner, time⟩ := handFilters_keeps s (committed s sel taken)
  rw [commit_eq, finishProcedure_runner]
  exact endedRunner_congr runner time ..

theorem commit_frame :
    commit s sel taken =
      { s with
        filters := (commit s sel taken).filters
        store := (commit s sel taken).store
        runner := (commit s sel taken).runner
        op := (commit s sel taken).op
        damper := (commit s sel taken).damper
        links := (commit s sel taken).links
        log := (commit s sel taken).log } := by
  apply State.eq_of_fields <;> simp

/-- The handover leaves the map that PROCEDURE_END goes by (R150, R162). -/
theorem endGiven_handOverFields (o : ProcedureOutcome) :
    endGiven (handOverFields (handFilters s (committed s sel taken))) o = endGiven s o := by
  obtain ⟨store, runner, -⟩ := handFilters_keeps s (committed s sel taken)
  rw [← endGiven_congr runner store]
  rfl

end

section
variable {s : State} {owner : Link} {sel : Selection}
  (running : s.runner.procedure.running? = some (owner, sel)) (taken : PerSide (List Nat))
include running

theorem commit_running :
    (handOverFields (handFilters s (committed s sel taken))).runner.procedure.running? = some (owner, sel) := by
  obtain ⟨-, runner, -⟩ := handFilters_keeps s (committed s sel taken)
  rw [handOverFields_runner, runner, running]

theorem commit_resolved (loaded : s.isLoading = false) : Resolved (commit s sel taken) := by
  obtain ⟨store, -, -⟩ := handFilters_keeps s (committed s sel taken)
  rw [commit_eq]
  refine finishProcedure_resolved (commit_running running taken) _ _ ?_
  rw [← loaded]
  show (handFilters s _).isLoading = _
  exact isLoading_congr (by rw [store])

theorem commit_tells :
    Logged s (commit s sel taken)
        ((([Side.supply, Side.extract].filter fun f => filterMoved s f (committed s sel taken f)).map fun f =>
          .filter f (committed s sel taken f).state (committed s sel taken f).lifeUsed (committed s sel taken f).kept)
          ++ [.procedure .done sel owner]) ∧
      Delivered s (commit s sel taken) fun l k =>
        byMap s
            (if filterMoved s .supply (committed s sel taken .supply)
                || filterMoved s .extract (committed s sel taken .extract) then [.filterState] else []) l k
          || endGiven s .done l k := by
  obtain ⟨logged, delivered, time, -⟩ := Told.handFilters s (committed s sel taken)
  obtain ⟨ends, given⟩ := finishProcedure_tells (commit_running running taken) .done
    ⟨newReference sel .supply taken, newReference sel .extract taken⟩
  rw [← commit_eq] at ends given
  rw [endGiven_handOverFields] at given
  exact ⟨logged.trans (by rw [time]) (ends.congr rfl rfl rfl), delivered.trans (given.congr rfl rfl)⟩

end

/-! ### The second (R145) -/

section
variable {s : State} {owner : Link} {sel : Selection} {n : Nat} {taken : PerSide (List Nat)}

theorem exec_procedureSecond {t : State} (h : procedureSecond s = t) : exec .procedureSecond s = .next t :=
  congrArg _ h

theorem procedureSecond_settles (h : s.runner.procedure = .settling owner sel n) (early : n < 89) :
    procedureSecond s = setProcedure s (.settling owner sel (n + 1)) := by
  rw [procedureSecond, h]
  exact if_neg (by omega)

theorem procedureSecond_checks (h : s.runner.procedure = .settling owner sel 89) :
    procedureSecond s = takeFlowCheck s owner sel := by
  rw [procedureSecond, h]
  rfl

theorem exec_flowCheck (h : s.runner.procedure = .settling owner sel 89) :
    exec .flowCheck s = .next (takeFlowCheck s owner sel) := by
  show execFlowCheck s = _
  rw [execFlowCheck, h]
  rfl

theorem procedureSecond_measures (h : s.runner.procedure = .measuring owner sel n taken) (between : (n + 1) % 10 ≠ 0) :
    procedureSecond s = setProcedure s (.measuring owner sel (n + 1) taken) := by
  rw [procedureSecond, h]
  exact if_neg between

theorem procedureSecond_samples (h : s.runner.procedure = .measuring owner sel n taken) (tenth : (n + 1) % 10 = 0) :
    procedureSecond s = takeSample s owner sel (n + 1) taken := by
  rw [procedureSecond, h]
  exact if_pos tenth

theorem exec_procedureSample (h : s.runner.procedure = .measuring owner sel n taken) (tenth : (n + 1) % 10 = 0) :
    exec .procedureSample s = .next (takeSample s owner sel (n + 1) taken) := by
  show execProcedureSample s = _
  rw [execProcedureSample, h]
  simp only [if_pos tenth]

theorem takeSample_fails {o : ProcedureOutcome} (h : sampleBoth s sel taken = .error o) :
    takeSample s owner sel n taken = finishProcedure s o ⟨none, none⟩ := by
  rw [takeSample, h]

theorem takeSample_goesOn {new : PerSide (List Nat)} (h : sampleBoth s sel taken = .ok new) (early : n < 60) :
    takeSample s owner sel n taken = setProcedure s (.measuring owner sel n new) := by
  rw [takeSample, h]
  exact if_neg (by omega)

theorem takeSample_commits {new : PerSide (List Nat)} (h : sampleBoth s sel taken = .ok new) :
    takeSample s owner sel 60 taken = commit s sel new := by
  rw [takeSample, h]
  rfl

end

end Sys2Proof.Machine

namespace Sys2Proof

open Machine

/-- Settles O47: each second is one of the runner's own operations, read off by the phase and by what the checks of the
selected sides find. -/
theorem procedureSecondsCheckSampleAndCommit : Obligations.ProcedureSecondsCheckSampleAndCommit := by
  intro s o sel out bad drop hout hbad hdrop
  obtain rfl : out = fun f => !sideFlowOk s f := funext hout
  obtain rfl : bad = sideProbeFaulted s := funext fun f => (hbad f).trans (Bool.or_assoc ..)
  obtain rfl : drop = sampleDrop s := funext hdrop
  simp only [Bool.not_eq_true', Bool.not_eq_false']
  refine ⟨fun n settling early => ?settles, fun settling => ?checks, fun n taken measuring between => ?measures,
    fun n taken measuring tenth => ⟨?sample, fun ok new hnew => ⟨fun early => ?samples, fun sixty => ?commits⟩,
      fun fails => ?fails⟩⟩
  case settles => exact exec_procedureSecond (procedureSecond_settles settling early)
  case checks =>
    have running : s.runner.procedure.running? = some (o, sel) := by rw [settling]; rfl
    have second := exec_procedureSecond (procedureSecond_checks settling)
    refine ⟨(exec_flowCheck settling).trans second.symm, _, second, fun flow => ?flow, fun flow probe => ?probe,
      fun ok => ?passes, takeFlowCheck_resolved running, takeFlowCheck_frame⟩
    case flow =>
      rw [takeFlowCheck_fails (flowCheckFails_flow flow)]
      exact finishProcedure_ends running ..
    case probe =>
      rw [takeFlowCheck_fails (flowCheckFails_probe flow probe)]
      exact finishProcedure_ends running ..
    case passes =>
      rw [takeFlowCheck_passes (flowCheckFails_none ok)]
      exact ⟨rfl, rfl, rfl⟩
  case measures => exact exec_procedureSecond (procedureSecond_measures measuring between)
  case sample =>
    rw [exec_procedureSample measuring tenth, exec_procedureSecond (procedureSecond_samples measuring tenth)]
  case samples =>
    have sampled := sampleBoth_ok (fun f has => sampleFails_none (ok f has).1 (ok f has).2) hnew
    exact exec_procedureSecond ((procedureSecond_samples measuring tenth).trans (takeSample_goesOn sampled early))
  case commits =>
    have running : s.runner.procedure.running? = some (o, sel) := by rw [measuring]; rfl
    have sampled := sampleBoth_ok (fun f has => sampleFails_none (ok f has).1 (ok f has).2) hnew
    have second : procedureSecond s = commit s sel new := by
      rw [procedureSecond_samples measuring tenth, sixty, takeSample_commits sampled]
    refine ⟨_, exec_procedureSecond second, fun f no => ?unselected, fun f y has hy => ?selected, ?store,
      commit_runner .., fun moved hmoved => ?tells, commit_resolved running new, commit_frame ..⟩
    case unselected => rw [commit_record, committed_unselected s new no]
    case selected =>
      rw [commit_record, committed_selected s new has] at hy
      subst hy
      rw [FilterRecord.decide_renew]
      exact ⟨rfl, rfl, rfl, rfl, rfl, rfl, fun settingsOk => FilterRecord.decide_renew_state _ _ settingsOk _⟩
    case store => rw [commit_store, commit_filters]; rfl
    case tells =>
      have same : moved = fun f => filterMoved s f (committed s sel new f) := by
        funext f
        rw [hmoved, commit_record, filterMoved]
        cases has : sel.has f with
        | false => simp [committed_unselected s new has]
        | true => rfl
      obtain ⟨logged, delivered⟩ := commit_tells running new
      rw [same]
      simp only [commit_record]
      refine ⟨logged.wrote ?_, delivered⟩
      rw [List.length_append]
      exact Nat.le_trans (Nat.add_le_add_right (length_filterBodies_le ..) 1) (by decide)
  case fails =>
    have running : s.runner.procedure.running? = some (o, sel) := by rw [measuring]; rfl
    obtain ⟨g, has, fault⟩ := fails
    obtain ⟨q, fault⟩ := sampleFails_isSome fault
    obtain ⟨f, r, has, fault, sampled⟩ := sampleBoth_fails has fault taken
    obtain ⟨runner, wrote, delivered⟩ := finishProcedure_ends running r ⟨none, none⟩
    have second : procedureSecond s = finishProcedure s r ⟨none, none⟩ := by
      rw [procedureSecond_samples measuring tenth, takeSample_fails sampled]
    refine ⟨_, r, exec_procedureSecond second, ?outcome, fun flow => ?probe, fun probe => ?flow, runner, wrote,
      delivered, finishProcedure_filters ..⟩
    case outcome => exact (sampleFails_some fault).imp And.left And.left
    case probe =>
      obtain ⟨-, low⟩ | ⟨ends, -⟩ := sampleFails_some fault
      · rw [flow f has] at low; cases low
      · exact ends
    case flow =>
      obtain ⟨ends, -⟩ | ⟨-, faulted⟩ := sampleFails_some fault
      · exact ends
      · rw [probe f has] at faulted; cases faulted

end Sys2Proof
end

section
/-! PROOFS. The minute tick taken block by block: the table's countdown, the hour's accumulators, the boost timers and
the filters' counters, each with what it leaves to the blocks after it (R14, R120, R137, R138, R166, R175). -/

namespace Sys2Proof.Machine

section
variable {s : State}

/-! ### The countdown (R14) -/

/-- With more than a minute left in every timed entry the table only counts down (R14). -/
theorem demandMinute_counts (h : ∀ e ∈ s.table.entries, ∀ n, e.remaining = some n → 1 < n) :
    demandMinute s = { s with table := { s.table with entries := s.table.entries.map Entry.countDown } } := by
  have stay : s.table.entries.filter (fun e => !(e.remaining == some 1)) = s.table.entries := by
    refine List.filter_eq_self.mpr fun e he => ?_
    have ne : e.remaining ≠ some 1 := fun last => Nat.lt_irrefl 1 (h e he 1 last)
    simpa using ne
  rw [demandMinute, DemandTable.spent_eq_nil h, List.isEmpty_nil, if_pos rfl,
    DemandTable.ticked_eq fun e he n hn => Nat.le_of_lt (h e he n hn), stay]

/-! ### The hour's accumulators (R175) -/

theorem logMinute_loading (loading : s.isLoading = true) : logMinute s = s := if_pos loading

/-- Before the 60th tick the accumulators take the tick's values, and nothing is written (R175). -/
theorem logMinute_adds (loaded : s.isLoading = false) (early : s.log.hourly.ticks < 59) :
    logMinute s = setHourly s (hourlyNext s) := by
  have few : (hourlyNext s).ticks = s.log.hourly.ticks + 1 := rfl
  rw [logMinute, if_neg (by simp [loaded])]
  exact if_neg (by omega)

@[simp] theorem writeLog_hourly (s : State) (b : LogBody) : (writeLog s b).log.hourly = s.log.hourly :=
  (Log.place_keeps ..).1

/-! ### The boost timers (R120) -/

@[simp] theorem reportSensor_hourly (s : State) (n : Sensor) (r : Bool) :
    (reportSensor s n r).log.hourly = s.log.hourly := writeLog_hourly ..

theorem zoneRecords_hourly (n : Zone) (ah : Option Nat) (rs : List (ZoneState × ZoneCause)) (s : State) :
    (rs.foldl (fun s r => writeLog s (.zone n r.1 ah r.2)) s).log.hourly = s.log.hourly := by
  induction rs generalizing s with
  | nil => rfl
  | cons r rs ih => rw [List.foldl_cons, ih, writeLog_hourly]

@[simp] theorem reportZone_hourly (s : State) (n : Zone) (ah : Option Nat) (rs : List (ZoneState × ZoneCause)) :
    (reportZone s n ah rs).log.hourly = s.log.hourly := by
  cases rs with
  | nil => rfl
  | cons r rs => exact zoneRecords_hourly n ah (r :: rs) (raise s .zoneState)

@[simp] theorem applyZoneMove_hourly (s : State) (n : Zone) (m : ZoneMove) :
    (applyZoneMove s n m).log.hourly = s.log.hourly := by
  unfold applyZoneMove
  cases m.sensor <;> simp

/-- The boost timers leave the accumulators. -/
@[simp] theorem boostMinute_hourly (s : State) : (boostMinute s).log.hourly = s.log.hourly := by
  simp [boostMinute, zoneMinute]

theorem zoneMinute_zones (s : State) (n m : Zone) :
    (zoneMinute s n).humidity.zones.get m =
      if m = n then (zoneTick s.settings n (s.humidity.zones.get n)).record else s.humidity.zones.get m := by
  rw [zoneMinute, applyZoneMove_humidity]
  exact PerZone.get_set ..

/-- Each zone takes the tick on its own record (R120). -/
theorem boostMinute_zones (s : State) (n : Zone) :
    (boostMinute s).humidity.zones.get n = (zoneTick s.settings n (s.humidity.zones.get n)).record := by
  cases n <;> simp [boostMinute, zoneMinute_zones, State.settings]

/-- Below its limit a BOOSTING zone's timer advances (R120). -/
theorem zoneTick_boosting {t : Settings} {n : Zone} {z : ZoneRecord} (boosting : z.state = .boosting)
    (below : z.boostTimer + 1 < t.nat (.zone n .maxBoost)) :
    zoneTick t n z = { z with boostTimer := z.boostTimer + 1 }.only := by
  rw [zoneTick, if_pos boosting, if_neg (by simp [boostSpent, below])]

/-- A zone that is not BOOSTING takes nothing from the tick (R120). -/
theorem zoneMinute_still {n : Zone} (h : (s.humidity.zones.get n).state ≠ .boosting) : zoneMinute s n = s := by
  rw [zoneMinute, zoneTick, if_neg h]
  simp [applyZoneMove, ZoneRecord.only, reportZone, zoneAct]

theorem boostMinute_still (h : ∀ n, (s.humidity.zones.get n).state ≠ .boosting) : boostMinute s = s := by
  simp only [boostMinute, zoneMinute_still (h _)]

/-! ### A filter's minute (R137) -/

/-- A filter runs with its fan, and the supply filter only while supply is not held at 0 (R137). -/
theorem filterRuns_iff (f : Side) (fan : FanRecord) (g : FrostRecord) :
    filterRuns f fan g = true ↔
      fan.state = .running ∧
        (f = .supply →
          ¬(g.stage = .thaw ∨ g.stage = .lockout ∨ (g.stage = .blind ∧ g.blindPhase = some .thaw))) := by
  cases f with
  | supply =>
    simp only [filterRuns, Bool.and_eq_true, beq_iff_eq, Bool.not_eq_true', ← Bool.not_eq_true, Bool.or_eq_true,
      or_assoc, true_implies]
  | extract => simp [filterRuns]

theorem FilterRecord.minute_rests (x : FilterRecord) {runs : Bool} (rests : runs = false) (q : Nat) :
    x.minute runs q = x.older := if_neg (by simp [rests])

theorem FilterRecord.minute_runs (x : FilterRecord) {runs : Bool} (h : runs = true) (q : Nat) :
    x.minute runs q = x.older.pass q := if_pos h

/-- Every minute ages a filter, whether it runs or not (R137). -/
theorem FilterRecord.minute_age (x : FilterRecord) (runs : Bool) (q : Nat) :
    (x.minute runs q).kept.age = min (x.kept.age + 1) 9999999 := by
  cases runs <;> rfl

/-! ### The filter monitor's minute (R137, R138) -/

theorem filtersMinute_loading (loading : s.isLoading = true) : filtersMinute s = s := if_pos loading

section
variable (loaded : s.isLoading = false)
include loaded

theorem filtersMinute_filters :
    (filtersMinute s).filters =
      { s.filters with
        records := { supply := filterMinute s .supply, extract := filterMinute s .extract }
        hourTicks := (s.filters.hourTicks + 1) % 60 } := by
  rw [filtersMinute, if_neg (by simp [loaded])]
  dsimp only
  split <;> rfl

theorem filtersMinute_record (f : Side) : (filtersMinute s).filters.records.get f = filterMinute s f := by
  rw [filtersMinute_filters loaded]
  cases f <;> rfl

/-- The 60th tick hands the fields over as it leaves them (R138). -/
theorem filtersMinute_handsOver (due : s.filters.hourTicks = 59) :
    (filtersMinute s).store = s.store.takeFields (filtersMinute s).filters.kept := by
  rw [filtersMinute, if_neg (by simp [loaded])]
  simp only [if_pos due]
  rfl

theorem filtersMinute_store (early : s.filters.hourTicks ≠ 59) : (filtersMinute s).store = s.store := by
  rw [filtersMinute, if_neg (by simp [loaded])]
  simp only [if_neg early]

end

/-! ### The tick (R166) -/

/-- The tick as it reaches the filter monitor, the last block it is handed to (R166). -/
def tickBeforeFilters (s : State) : State :=
  boostMinute (logMinute (demandMinute { s with time := s.time.minute }))

theorem minuteTick_eq (s : State) : minuteTick s = filtersMinute (tickBeforeFilters s) := rfl

@[simp] theorem tickBeforeFilters_filters (s : State) : (tickBeforeFilters s).filters = s.filters := by
  simp [tickBeforeFilters]

@[simp] theorem tickBeforeFilters_store (s : State) : (tickBeforeFilters s).store = s.store := by
  simp [tickBeforeFilters]

@[simp] theorem tickBeforeFilters_isLoading (s : State) : (tickBeforeFilters s).isLoading = s.isLoading :=
  isLoading_congr (by simp)

/-- The blocks before the filter monitor leave what a filter's minute reads. -/
theorem tickBeforeFilters_filterMinute (s : State) (f : Side) :
    filterMinute (tickBeforeFilters s) f =
      (s.filters.records.get f).minute (filterRuns f (s.fans.get f) s.frost.record) (s.fans.get f).flow := by
  simp [filterMinute, tickBeforeFilters]

theorem minuteTick_time (s : State) : (minuteTick s).time = s.time.minute := by simp [minuteTick]

theorem minuteTick_filters_loading (loading : s.isLoading = true) : (minuteTick s).filters = s.filters := by
  rw [minuteTick_eq, filtersMinute_loading (by simpa using loading), tickBeforeFilters_filters]

theorem minuteTick_record (loaded : s.isLoading = false) (f : Side) :
    (minuteTick s).filters.records.get f =
      (s.filters.records.get f).minute (filterRuns f (s.fans.get f) s.frost.record) (s.fans.get f).flow := by
  rw [minuteTick_eq, filtersMinute_record (by simpa using loaded), tickBeforeFilters_filterMinute]

/-- Every 60th tick hands over, and the count starts again (R138). -/
theorem minuteTick_handsOver (loaded : s.isLoading = false) (due : s.filters.hourTicks = 59) :
    (minuteTick s).filters.hourTicks = 0 ∧ (minuteTick s).store = s.store.takeFields (minuteTick s).filters.kept := by
  have loaded' : (tickBeforeFilters s).isLoading = false := by simpa using loaded
  rw [minuteTick_eq]
  constructor
  · rw [filtersMinute_filters loaded', tickBeforeFilters_filters, due]
  · rw [filtersMinute_handsOver loaded' (by simpa using due), tickBeforeFilters_store]

theorem minuteTick_store (h : s.isLoading = true ∨ s.filters.hourTicks < 59) : (minuteTick s).store = s.store := by
  rw [minuteTick_eq]
  by_cases loading : s.isLoading = true
  · rw [filtersMinute_loading (by simpa using loading), tickBeforeFilters_store]
  · have early : (tickBeforeFilters s).filters.hourTicks ≠ 59 := by
      simpa using Nat.ne_of_lt (h.resolve_left loading)
    rw [filtersMinute_store (by simpa using loading) early, tickBeforeFilters_store]

/-- A state one minute on, every entry counted down (R14, R166). -/
def State.minuteOn (s : State) : State :=
  { s with
    time := s.time.minute
    table := { s.table with entries := s.table.entries.map Entry.countDown } }

@[simp] theorem minuteOn_store (s : State) : s.minuteOn.store = s.store := rfl
@[simp] theorem minuteOn_humidity (s : State) : s.minuteOn.humidity = s.humidity := rfl
@[simp] theorem minuteOn_isLoading (s : State) : s.minuteOn.isLoading = s.isLoading := rfl

/-- With more than a minute left in every timed entry the log takes the tick on the state one minute on. -/
theorem minuteTick_counts (h : ∀ e ∈ s.table.entries, ∀ n, e.remaining = some n → 1 < n) :
    minuteTick s = filtersMinute (boostMinute (logMinute s.minuteOn)) := by
  rw [minuteTick, demandMinute_counts (s := { s with time := s.time.minute }) h]
  rfl

end

end Sys2Proof.Machine

namespace Sys2Proof

open Machine

/-- Settles O39: the tick is taken block by block, and the filter monitor's share reads nothing the others change. -/
theorem minuteTickCountsAMinute : Obligations.MinuteTickCountsAMinute := by
  intro s held hheld
  refine ⟨minuteTick s, rfl, minuteTick_time s, ?filters, minuteTick_handsOver, minuteTick_store,
    fun timed => ⟨?hourly, ?boosting, ?still⟩⟩
  case filters =>
    rintro f x y rfl rfl
    refine ⟨fun loading => by rw [minuteTick_filters_loading loading], fun loaded => ?_⟩
    have runs := filterRuns_iff f (s.fans.get f) s.frost.record
    rw [← hheld] at runs
    rw [minuteTick_record loaded]
    refine ⟨FilterRecord.minute_age .., fun rest => ?_, fun fan free => ?_⟩
    · have rests : filterRuns f (s.fans.get f) s.frost.record = false := by
        rw [Bool.eq_false_iff, Ne, runs]
        rintro ⟨fan, free⟩
        exact rest.elim (· fan) fun ⟨supply, hold⟩ => free supply hold
      rw [FilterRecord.minute_rests _ rests]
      rfl
    · rw [FilterRecord.minute_runs _ (runs.mpr ⟨fan, free⟩)]
      exact ⟨rfl, rfl, rfl⟩
  case hourly =>
    intro loaded early
    rw [minuteTick_counts timed, filtersMinute_log, boostMinute_hourly,
      logMinute_adds (s := s.minuteOn) loaded early]
    refine ⟨rfl, rfl, rfl, rfl, rfl, ?_⟩
    simp [setHourly, hourlyNext, Hourly.add, State.minuteOn]
  case boosting =>
    rintro n z rfl boosting below
    have settings : (logMinute s.minuteOn).settings = s.settings := settings_congr (by simp)
    rw [minuteTick_counts timed, filtersMinute_humidity, boostMinute_zones, logMinute_humidity, settings]
    exact congrArg ZoneMove.record (zoneTick_boosting boosting below)
  case still =>
    intro quiet
    rw [minuteTick_counts timed, boostMinute_still (s := logMinute s.minuteOn) (by simpa using quiet)]
    refine ⟨?frame, fun h => ?_⟩
    case frame => apply State.eq_of_fields <;> simp [State.minuteOn, Entry.countDown]
    rw [filtersMinute_links, filtersMinute_log]
    by_cases loading : s.isLoading = true
    · rw [logMinute_loading (s := s.minuteOn) loading]
      exact ⟨rfl, rfl⟩
    · rw [logMinute_adds (s := s.minuteOn) (by simpa using loading) (h.resolve_left loading)]
      exact ⟨rfl, rfl⟩

end Sys2Proof
end

section
/-! PROOFS. A link reset taken apart: the entries removed, the procedure aborted and what that tells the other links,
the notices, and the link's own state (R22, R108, R151, R162, R169, R170, R177, R179). -/

namespace Sys2Proof.Machine

/-! ### A kind given by the event map (R162, R163) -/

/-- A link record that is given a kind, or is not. -/
def LinkRecord.givenIf (r : LinkRecord) (k : EventKind) (b : Bool) : LinkRecord := if b then r.deliver k false else r

/-- A kind given without an address joins the pending set and asserts the line (R163). -/
theorem LinkRecord.givenIf_eq (r : LinkRecord) (k : EventKind) (b : Bool) :
    r.givenIf k b = { r with pending := (r.givenIf k b).pending, attention := r.attention || b } := by
  cases b <;> simp [givenIf, deliver]

@[simp] theorem LinkRecord.hasKind_givenIf (r : LinkRecord) (k j : EventKind) (b : Bool) :
    hasKind (r.givenIf k b).pending j = (hasKind r.pending j || (b && decide (j = k))) := by
  cases b <;> simp [givenIf]

/-- A kind is given as the map has it, whether the map is asked for the kind raised or for the one looked at. -/
theorem mapped_kind_eq (b : Bool) (map : EventKind → Bool) (k j : EventKind) :
    (b && map j && decide (k = j)) = (b && map k && decide (k = j)) := by
  by_cases h : k = j
  · rw [h]
  · simp [h]

theorem raise_links (s : State) {k : EventKind} (h : hasKind addressedOnly k = false) (m : Link) :
    (raise s k).links.get m = (s.links.get m).givenIf k (hasKind (s.settings.eventMap.get m) k) := by
  simp only [raise, raiseTo, deliverAll, PerLink.get_mapWith, deliveryMap, h]
  rfl

/-! ### A record that fills the log (R179) -/

/-- Whether the next record raises LOG_ALMOST_FULL: the log is armed, and U with the record stands at the level. -/
def State.recordFills (s : State) : Bool :=
  s.log.armed && decide (s.settings.nat .logAlmostFull ≤
    if s.log.write - s.log.mark < 512 then s.log.write + 1 - s.log.mark else s.log.write - s.log.mark)

theorem recordFills_congr {s t : State} (store : t.store = s.store) (log : t.log = s.log) :
    t.recordFills = s.recordFills := by
  unfold State.recordFills State.settings
  rw [store, log]

theorem almostFull_place (s : State) (b : LogBody) :
    (s.log.place { stamp := s.time.stamp, body := b }).almostFull (s.store.settings.nat .logAlmostFull) =
      s.recordFills := by
  obtain ⟨-, armed, unreleased⟩ := s.log.place_keeps { stamp := s.time.stamp, body := b }
  rw [Log.almostFull, armed, unreleased]
  rfl

theorem writeLog_armed (s : State) (b : LogBody) : (writeLog s b).log.armed = (s.log.armed && !s.recordFills) := by
  obtain ⟨-, armed, -⟩ := s.log.place_keeps { stamp := s.time.stamp, body := b }
  rw [← almostFull_place s b, ← armed]
  rfl

theorem writeLog_links (s : State) (b : LogBody) (m : Link) :
    (writeLog s b).links.get m =
      (s.links.get m).givenIf .logAlmostFull
        (s.recordFills && hasKind (s.settings.eventMap.get m) .logAlmostFull) := by
  have links : (writeLog s b).links =
      if s.recordFills then (raise s .logAlmostFull).links else s.links := by
    rw [← almostFull_place s b]
    rfl
  rw [links]
  cases s.recordFills with
  | true => exact raise_links s rfl m
  | false => rfl

/-! ### The bypass under two notices (R37, R38, R40) -/

/-- A choice between two thresholds, taken again on its own outcome, stays when what opens also keeps open. -/
theorem hysteresis_settles {opens stays : Bool} (keeps : opens = true → stays = true) (asked w : Bool) :
    (asked && if (asked && if w then stays else opens) then stays else opens) =
      (asked && if w then stays else opens) := by
  cases opens with
  | true => cases keeps rfl; cases asked <;> cases w <;> rfl
  | false => cases asked <;> cases w <;> cases stays <;> rfl

/-- The bypass decided against its own outcome stays: what opens it also keeps it open (R38). -/
theorem decideBypass_decideBypass (t : Settings) (es : List Entry) (st : Stage) (oda eta : Option Int) (w : Bool) :
    decideBypass t es st oda eta (decideBypass t es st oda eta w) = decideBypass t es st oda eta w := by
  cases oda with
  | none => rfl
  | some o =>
    cases eta with
    | none => rfl
    | some h =>
      refine hysteresis_settles (fun opens => ?_) ..
      simp only [Bool.and_eq_true, decide_eq_true_eq] at opens ⊢
      omega

/-- A command repeated changes nothing (R40). -/
theorem Damper.command_command (d : Damper) (b : Bool) : (d.command b).command b = d.command b := by
  obtain ⟨state, position, homing⟩ := d
  cases b <;> cases state <;> cases homing <;> rfl

/-- The resolver has had its notice between two states: its record is up to date, with a bypass that another notice
keeps, and the damper is commanded from where it stood (R27, R38, R40). -/
structure Noticed (s t : State) : Prop where
  resolved : Resolved t
  settled : (resolve t).bypassOpen = t.op.bypassOpen
  damper : t.damper = s.damper.command t.op.bypassOpen

theorem resolve_bypassOpen_congr {s t : State} (h1 : t.store = s.store) (h2 : t.table = s.table)
    (h3 : t.frost = s.frost) (h4 : t.op.bypassOpen = s.op.bypassOpen) :
    (resolve t).bypassOpen = (resolve s).bypassOpen := by
  show decideBypass .. = decideBypass ..
  simp only [State.settings, h1, h2, h3, h4]

theorem resolve_notice_bypassOpen (u : State) : (resolve (notice u)).bypassOpen = (resolve u).bypassOpen := by
  by_cases loading : u.isLoading = true
  · exact resolve_bypassOpen_congr rfl rfl rfl (by simp [notice, loading])
  · have op : (notice u).op = resolve u := notice_op (by simpa using loading)
    show decideBypass _ _ _ _ _ (notice u).op.bypassOpen = _
    rw [op]
    exact decideBypass_decideBypass ..

theorem notice_damper {u : State} (loaded : u.isLoading = false) :
    (notice u).damper = u.damper.command (notice u).op.bypassOpen := by
  rw [notice_op loaded]
  simp [notice, loaded]

/-- Until the load ends a notice is not taken (R42). -/
theorem notice_loading {u : State} (loading : u.isLoading = true) :
    (notice u).op = u.op ∧ (notice u).damper = u.damper := by simp [notice, loading]

theorem Noticed.notice {s u : State} (damper : u.damper = s.damper) (loaded : u.isLoading = false) :
    Noticed s (notice u) where
  resolved := Resolved.notice u loaded
  settled := by rw [resolve_notice_bypassOpen, notice_op loaded]
  damper := by rw [notice_damper loaded, damper]

/-- A second notice of the same bypass leaves the damper as the first commanded it. -/
theorem Noticed.again {s t u : State} (first : Noticed s t) (loaded : u.isLoading = false)
    (damper : u.damper = t.damper) (same : (resolve u).bypassOpen = (resolve t).bypassOpen) :
    Noticed s (Machine.notice u) where
  resolved := Resolved.notice u loaded
  settled := by rw [resolve_notice_bypassOpen, notice_op loaded]
  damper := by
    have bypass : (Machine.notice u).op.bypassOpen = t.op.bypassOpen := by
      rw [notice_op loaded, same, first.settled]
    rw [notice_damper loaded, damper, first.damper, bypass, Damper.command_command]

/-! ### The entries removed (R22) -/

section
variable (s : State) (l : Link)

theorem dropLinkEntries_of_free (free : ∀ e ∈ s.table.entries, e.source ≠ .link l) : dropLinkEntries s l = s := by
  refine if_pos (List.countP_eq_zero.mpr fun e he => ?_)
  simpa using free e he

theorem dropLinkEntries_of_holds (holds : ∃ e ∈ s.table.entries, e.source = .link l) :
    dropLinkEntries s l = notice { s with table := s.table.dropLink l } := by
  obtain ⟨e, he, source⟩ := holds
  refine if_neg fun zero => ?_
  exact List.countP_eq_zero.mp zero e he (by simpa using source)

theorem dropLinkEntries_table : (dropLinkEntries s l).table = s.table.dropLink l := by
  by_cases holds : ∃ e ∈ s.table.entries, e.source = .link l
  · rw [dropLinkEntries_of_holds s l holds]
    rfl
  · have free : ∀ e ∈ s.table.entries, e.source ≠ .link l := fun e he source => holds ⟨e, he, source⟩
    have all : s.table.entries.filter (fun e => !(e.source == .link l)) = s.table.entries :=
      List.filter_eq_self.mpr fun e he => by simpa using free e he
    rw [dropLinkEntries_of_free s l free, DemandTable.dropLink, all]

theorem dropLinkEntries_loading (loading : s.isLoading = true) :
    (dropLinkEntries s l).op = s.op ∧ (dropLinkEntries s l).damper = s.damper := by
  unfold dropLinkEntries
  split
  · exact ⟨rfl, rfl⟩
  · exact notice_loading loading

/-! ### The procedure aborted (R151, R153) -/

theorem resetProcedure_other (other : ∀ sel, s.runner.procedure.running? ≠ some (l, sel)) :
    resetProcedure s l = s := by
  unfold resetProcedure
  cases running : s.runner.procedure.running? with
  | none => rfl
  | some p =>
    obtain ⟨owner, sel⟩ := p
    exact if_neg fun (own : owner = l) => other sel (own ▸ running)

end

section
variable {s : State} {l : Link} {sel : Selection} (running : s.runner.procedure.running? = some (l, sel))
include running

theorem resetProcedure_owned : resetProcedure s l = finishProcedure s .abortedLink ⟨none, none⟩ := by
  rw [resetProcedure, running]
  exact if_pos rfl

/-- The abort writes its record, raises PROCEDURE_END for the mapped links alone, and ends in a notice (R153). -/
theorem resetProcedure_eq :
    resetProcedure s l = notice { raise (writeLog s (.procedure .abortedLink sel l)) .procedureEnd with
      runner := endedRunner s .abortedLink ⟨none, none⟩ } := by
  rw [resetProcedure_owned running, finishProcedure, endedRunner, running]
  rfl

/-- What the resolver reads of the blocks before the abort's notice, but for the runner, is as it was. -/
theorem resetProcedure_notice :
    ∃ u, resetProcedure s l = notice u ∧ u.store = s.store ∧ u.table = s.table ∧ u.frost = s.frost ∧
      u.op = s.op ∧ u.damper = s.damper :=
  ⟨_, resetProcedure_eq running, rfl, rfl, rfl, rfl, rfl⟩

theorem resetProcedure_log :
    (resetProcedure s l).log = (writeLog s (.procedure .abortedLink sel l)).log := by
  rw [resetProcedure_eq running]
  rfl

end

/-- What a reset tells the links: PROCEDURE_END and LOG_ALMOST_FULL by the map, when the link owns the procedure
(R153, R162, R179). -/
theorem resetProcedure_links (s : State) {l : Link} {owned : Bool}
    (own : owned = true ↔ ∃ sel, s.runner.procedure.running? = some (l, sel)) (m : Link) :
    (resetProcedure s l).links.get m =
      ((s.links.get m).givenIf .logAlmostFull
        (owned && s.recordFills && hasKind (s.settings.eventMap.get m) .logAlmostFull)).givenIf .procedureEnd
        (owned && hasKind (s.settings.eventMap.get m) .procedureEnd) := by
  cases owned with
  | true =>
    obtain ⟨sel, running⟩ := own.mp rfl
    rw [resetProcedure_eq running]
    show (raise _ .procedureEnd).links.get m = _
    rw [raise_links _ rfl, writeLog_links]
    rfl
  | false =>
    rw [resetProcedure_other s l fun sel running => absurd (own.mpr ⟨sel, running⟩) (by decide)]
    rfl

theorem resetProcedure_loading {s : State} (l : Link) (loading : s.isLoading = true) :
    (resetProcedure s l).op = s.op ∧ (resetProcedure s l).damper = s.damper := by
  by_cases owned : ∃ sel, s.runner.procedure.running? = some (l, sel)
  · obtain ⟨sel, running⟩ := owned
    obtain ⟨u, eq, store, -, -, op, damper⟩ := resetProcedure_notice running
    rw [eq, ← op, ← damper]
    exact notice_loading ((isLoading_congr (by rw [store])).trans loading)
  · rw [resetProcedure_other s l fun sel running => owned ⟨sel, running⟩]
    exact ⟨rfl, rfl⟩

/-! ### The notices of a reset -/

/-- The blocks' shares of a reset that can notify the resolver: first the table's, then the runner's. -/
def dropAndAbort (s : State) (l : Link) : State := resetProcedure (dropLinkEntries s l) l

section
variable {s : State} (l : Link)

/-- An entry removed or a procedure ended, the resolver has its notice (R22, R153). -/
theorem dropAndAbort_noticed (loaded : s.isLoading = false)
    (touched : (∃ sel, s.runner.procedure.running? = some (l, sel)) ∨ ∃ e ∈ s.table.entries, e.source = .link l) :
    Noticed s (dropAndAbort s l) := by
  by_cases owned : ∃ sel, s.runner.procedure.running? = some (l, sel)
  · obtain ⟨sel, running⟩ := owned
    obtain ⟨u, eq, store, table, frost, op, damper⟩ :=
      resetProcedure_notice (s := dropLinkEntries s l) (by simpa using running)
    have loaded' : u.isLoading = false := (isLoading_congr (by simp [store])).trans loaded
    rw [dropAndAbort, eq]
    by_cases holds : ∃ e ∈ s.table.entries, e.source = .link l
    · have first : Noticed s (dropLinkEntries s l) := by
        rw [dropLinkEntries_of_holds s l holds]
        exact Noticed.notice rfl loaded
      exact first.again loaded' damper (resolve_bypassOpen_congr store table frost (by rw [op]))
    · rw [dropLinkEntries_of_free s l fun e he source => holds ⟨e, he, source⟩] at damper
      exact Noticed.notice damper loaded'
  · have holds := touched.resolve_left owned
    have other : ∀ sel, (dropLinkEntries s l).runner.procedure.running? ≠ some (l, sel) := fun sel running =>
      owned ⟨sel, by simpa only [dropLinkEntries_runner] using running⟩
    rw [dropAndAbort, resetProcedure_other _ l other, dropLinkEntries_of_holds s l holds]
    exact Noticed.notice rfl loaded

theorem dropAndAbort_untouched (other : ∀ sel, s.runner.procedure.running? ≠ some (l, sel))
    (free : ∀ e ∈ s.table.entries, e.source ≠ .link l) : dropAndAbort s l = s := by
  rw [dropAndAbort, dropLinkEntries_of_free s l free, resetProcedure_other s l other]

theorem dropAndAbort_loading (loading : s.isLoading = true) :
    (dropAndAbort s l).op = s.op ∧ (dropAndAbort s l).damper = s.damper := by
  have loading' : (dropLinkEntries s l).isLoading = true := (isLoading_congr (by simp)).trans loading
  obtain ⟨op, damper⟩ := dropLinkEntries_loading s l loading
  obtain ⟨op', damper'⟩ := resetProcedure_loading l loading'
  exact ⟨op'.trans op, damper'.trans damper⟩

end

/-- What the link of an owned procedure and every other is told by the two shares (R162, R179). -/
theorem dropAndAbort_links (s : State) {l : Link} {owned : Bool}
    (own : owned = true ↔ ∃ sel, s.runner.procedure.running? = some (l, sel)) (m : Link) :
    (dropAndAbort s l).links.get m =
      ((s.links.get m).givenIf .logAlmostFull
        (owned && s.recordFills && hasKind (s.settings.eventMap.get m) .logAlmostFull)).givenIf .procedureEnd
        (owned && hasKind (s.settings.eventMap.get m) .procedureEnd) := by
  have settings : (dropLinkEntries s l).settings = s.settings := settings_congr (by simp)
  rw [dropAndAbort, resetProcedure_links (dropLinkEntries s l) (by simpa using own), settings,
    recordFills_congr (dropLinkEntries_store s l) (dropLinkEntries_log s l), dropLinkEntries_links]

section
variable {s : State} {l : Link}

/-- The abort of the link's procedure: the last outcome, the record, and the rest of the log (R153, R174). -/
theorem dropAndAbort_aborts {sel : Selection} (running : s.runner.procedure.running? = some (l, sel)) :
    (dropAndAbort s l).runner = endedRunner s .abortedLink ⟨none, none⟩ ∧
      Wrote s (dropAndAbort s l) [.procedure .abortedLink sel l] ∧
      (dropAndAbort s l).log.hourly = s.log.hourly ∧
      (dropAndAbort s l).log.armed = (s.log.armed && !s.recordFills) := by
  have running' : (dropLinkEntries s l).runner.procedure.running? = some (l, sel) := by simpa using running
  obtain ⟨runner, wrote, -⟩ := finishProcedure_ends running' .abortedLink ⟨none, none⟩
  rw [← resetProcedure_owned running'] at runner wrote
  rw [dropAndAbort]
  refine ⟨runner.trans (endedRunner_congr (by simp) (by simp) ..), by simpa [Wrote] using wrote, ?_⟩
  rw [resetProcedure_log running', writeLog_hourly, writeLog_armed,
    recordFills_congr (dropLinkEntries_store s l) (dropLinkEntries_log s l), dropLinkEntries_log]
  exact ⟨rfl, rfl⟩

/-- Without a procedure of the link the runner and the log stay. -/
theorem dropAndAbort_other (other : ∀ sel, s.runner.procedure.running? ≠ some (l, sel)) :
    (dropAndAbort s l).runner = s.runner ∧ (dropAndAbort s l).log = s.log := by
  rw [dropAndAbort, resetProcedure_other _ l (by simpa using other)]
  simp

end

/-! ### The link's own state (R108, R169, R170, R177) -/

@[simp] theorem LinkRecord.broken_givenIf (r : LinkRecord) (k : EventKind) (b : Bool) :
    (r.givenIf k b).broken = r.broken := by cases b <;> rfl

/-- A reset returns the cursor to the mark for SERVICE, and leaves the rest of the log (R177). -/
theorem Log.resetLink_eq (g : Log) (l : Link) :
    g.resetLink l = { g with cursor := if l = .service then g.mark else g.cursor } := by cases l <;> rfl

theorem Bus.resetLink_cases (b : Bus) (l : Link) :
    (b.pass.get l = .idle → b.resetLink l = b) ∧
      (∀ q, b.pass.get l = .queued q →
        b.resetLink l =
          { b with passQueue := b.passQueue.filter fun m => !(m == l), pass := b.pass.set l .idle }) ∧
      (∀ q m, b.pass.get l = .active q m → b.resetLink l = { b with pass := b.pass.set l (.active q true) }) ∧
      ∀ q o, b.pass.get l = .done q o → b.resetLink l = { b with pass := b.pass.set l .idle } := by
  refine ⟨fun idle => ?_, fun q queued => ?_, fun q m active => ?_, fun q o done => ?_⟩
  · rw [resetLink, idle]
  · rw [resetLink, queued]
  · rw [resetLink, active]
  · rw [resetLink, done]

/-! ### The reset (R170) -/

theorem resetLink_links (s : State) (l m : Link) :
    (resetLink s l).links.get m =
      if m = l then ((dropAndAbort s l).links.get l).broken else (dropAndAbort s l).links.get m :=
  PerLink.get_set ..

theorem resetLink_runner (s : State) (l : Link) : (resetLink s l).runner = (dropAndAbort s l).runner := rfl

theorem resetLink_log (s : State) (l : Link) : (resetLink s l).log = (dropAndAbort s l).log.resetLink l := rfl

/-- The cursor's return writes no record (R177). -/
theorem resetLink_wrote {s : State} {l : Link} {bs : List LogBody} (h : Wrote s (dropAndAbort s l) bs) :
    Wrote s (resetLink s l) bs := by
  simpa [Wrote, resetLink_log, Log.resetLink_eq] using h

theorem resetLink_bus (s : State) (l : Link) : (resetLink s l).bus = s.bus.resetLink l := by
  show (dropAndAbort s l).bus.resetLink l = _
  simp [dropAndAbort]

theorem resetLink_time (s : State) (l : Link) : (resetLink s l).time = s.time.release l := by
  show (dropAndAbort s l).time.release l = _
  simp [dropAndAbort]

theorem resetLink_table (s : State) (l : Link) : (resetLink s l).table = s.table.dropLink l := by
  show (dropAndAbort s l).table = _
  rw [dropAndAbort, resetProcedure_table, dropLinkEntries_table]

/-- What the resolver reads, but for the table and the procedure, is no link's: the notices stand. -/
theorem Noticed.resetLink {s : State} {l : Link} (h : Noticed s (dropAndAbort s l)) :
    Resolved (Machine.resetLink s l) ∧
      (Machine.resetLink s l).damper = s.damper.command (Machine.resetLink s l).op.bypassOpen :=
  ⟨h.resolved.congr rfl rfl rfl rfl rfl rfl rfl rfl, h.damper⟩

end Sys2Proof.Machine

namespace Sys2Proof

open Machine

/-- Settles O52: the table's and the runner's shares come first, each with its notice, and the link's own state is then
cleared. -/
theorem linkResetClearsTheLinksState : Obligations.LinkResetClearsTheLinksState := by
  intro s l owned full mapped own hfull hmapped
  subst hmapped
  have fills : full = (owned && s.recordFills) := hfull.trans (Bool.and_assoc ..)
  refine ⟨resetLink s l, rfl, resetLink_table s l, ?own, ?others, resetLink_time s l, ?aborted, ?kept, ?cursor, ?pass,
    fun loaded touched => ?noticed, fun h => ?unnoticed, ?frame⟩
  case own =>
    rw [resetLink_links, if_pos rfl, dropAndAbort_links s own, LinkRecord.broken_givenIf, LinkRecord.broken_givenIf]
    rfl
  case others =>
    intro m hm
    rw [resetLink_links, if_neg hm, dropAndAbort_links s own, ← fills]
    constructor
    · rw [LinkRecord.givenIf_eq, LinkRecord.givenIf_eq _ .logAlmostFull]
      simp [Bool.or_right_comm]
    · intro k
      rw [LinkRecord.hasKind_givenIf, LinkRecord.hasKind_givenIf, Bool.or_right_comm, mapped_kind_eq, mapped_kind_eq]
  case aborted =>
    intro sel running
    have owns : owned = true := own.mpr ⟨sel, running⟩
    obtain ⟨runner, wrote, hourly, armed⟩ := dropAndAbort_aborts running
    rw [fills, owns, Bool.true_and, resetLink_log, Log.resetLink_eq]
    exact ⟨runner, resetLink_wrote wrote, hourly, armed⟩
  case kept =>
    intro other
    obtain ⟨runner, log⟩ := dropAndAbort_other other
    rw [resetLink_runner, resetLink_log, log, Log.resetLink_eq]
    exact ⟨runner, rfl⟩
  case cursor =>
    rintro rfl
    rfl
  case pass =>
    rintro p rfl
    rw [resetLink_bus]
    exact Bus.resetLink_cases s.bus l
  case noticed =>
    exact (dropAndAbort_noticed l loaded (touched.imp_left own.mp)).resetLink
  case unnoticed =>
    obtain loading | ⟨notOwned, free⟩ := h
    · exact dropAndAbort_loading l loading
    · have same : dropAndAbort s l = s :=
        dropAndAbort_untouched l (fun sel running => by simp [own.mpr ⟨sel, running⟩] at notOwned) free
      have op : (dropAndAbort s l).op = s.op := by rw [same]
      have damper : (dropAndAbort s l).damper = s.damper := by rw [same]
      exact ⟨op, damper⟩
  case frame => apply State.eq_of_fields <;> simp

end Sys2Proof
end

section
/-! PROOFS. The requests on the log: the records a LOG_READ gives and their length in bytes, and the positions that
LOG_READ, LOG_RELEASE and LOG_REWIND leave (R173, R176, R177, R179, R191). -/

namespace Sys2Proof.Machine

/-! ### The length of a record (R191) -/

@[simp] theorem length_byte1 (n : Nat) : (byte1 n).length = 1 := rfl
@[simp] theorem length_be16 (n : Nat) : (be16 n).length = 2 := rfl
@[simp] theorem length_be24 (n : Nat) : (be24 n).length = 3 := rfl
@[simp] theorem length_flag (b : Bool) : (flag b).length = 1 := rfl
@[simp] theorem length_wordBytes (w : Word) : (wordBytes w).length = 4 := rfl
@[simp] theorem length_byte1? (o : Option Nat) : (byte1? o).length = 1 := by cases o <;> rfl
@[simp] theorem length_be16? (o : Option Nat) : (be16? o).length = 2 := by cases o <;> rfl
@[simp] theorem length_be16s? (o : Option Int) : (be16s? o).length = 2 := by cases o <;> rfl

/-- The fields of every kind fit the 14 bytes; a FILTER record fills them. -/
theorem LogBody.length_fields_le (b : LogBody) : b.fields.length ≤ 14 := by cases b <;> simp [LogBody.fields]

theorem length_padFields {bs : List Byte} (h : bs.length ≤ 14) : (padFields bs).length = 14 := by
  simp [padFields]; omega

theorem LogRecord.length_bytes (r : LogRecord) : r.bytes.length = 20 := by
  simp [LogRecord.bytes, length_padFields r.body.length_fields_le]

/-! ### The records from the cursor on (R173, R176) -/

section
variable {g : Log} (ok : g.Ok)
include ok

/-- Every record from the cursor on is still in the ring. -/
theorem Log.Ok.oldest_le_cursor : g.write - g.ring.length ≤ g.cursor := by
  have ring := ok.ring
  have room := ok.room
  have markCursor := ok.markCursor
  omega

theorem Log.Ok.length_fromCursor (n : Nat) : (g.fromCursor n).length = min n (g.write - g.cursor) := by
  have oldest := ok.oldest_le_cursor
  have ring := ok.ring
  have cursorWrite := ok.cursorWrite
  rw [Log.fromCursor, Log.unread, List.length_take, List.length_drop]
  omega

theorem Log.Ok.getElem?_fromCursor {n i : Nat} (h : i < min n (g.write - g.cursor)) :
    (g.fromCursor n)[i]? = g.ring[g.cursor + i - (g.write - g.ring.length)]? := by
  have place : g.cursor - (g.write - g.ring.length) + i = g.cursor + i - (g.write - g.ring.length) :=
    (Nat.sub_add_comm ok.oldest_le_cursor).symm
  rw [Log.fromCursor, Log.unread, List.getElem?_take_of_lt h, List.getElem?_drop, place]

end

/-! ### The request on a ready SERVICE link -/

/-- SERVICE is of every class, so its request brings the owner's state and payload (R157, R159). -/
theorem takeRequest_service_ok {s u : State} (ready : Ready s .service) (tag : Byte) {r : Request} {p : List Byte}
    (h : answer s .service r = .ok u p) :
    takeRequest s .service tag r = onlyReply u .service tag r.kind .ok p := by
  rw [takeRequest_ready ready tag r fun _ => rfl, h, reply_ok]

end Sys2Proof.Machine

namespace Sys2Proof

open Machine

/-- Settles O55: the ring holds every record from the cursor on, so LOG_READ gives the number it counts; the two other
requests are the log's own operations sent as their replies. -/
theorem logRequestsMoveThePositions : Obligations.LogRequestsMoveThePositions := by
  rintro s tag g ready rfl ok
  refine ⟨?read, ?release, ?rewind, LogRecord.length_bytes⟩
  case read =>
    rintro n count rfl
    have length := ok.length_fromCursor (readCount n)
    refine ⟨s.log.fromCursor (readCount n), length, fun i => ok.getElem?_fromCursor, ?_⟩
    have answered : answer s .service (.logRead n) = answerLogRead s n := rfl
    rw [answerLogRead, length] at answered
    exact congrArg _ (takeRequest_service_ok ready tag answered)
  case release =>
    rintro n count rfl
    exact congrArg _ (takeRequest_service_ok (r := .logRelease n) ready tag rfl)
  case rewind => exact congrArg _ (takeRequest_service_ok (r := .logRewind) ready tag rfl)

end Sys2Proof
end

section
/-! PROOFS. SET taken apart: the class of a key, the checks in their order, the table a stored value leaves, and what
the log, the resolver and the blocks are then told (R106, R114, R123, R179, R182, R184). -/

namespace Sys2Proof.Machine

/-! ### The keys (R181, R187, R189) -/

/-- The codes 1 to 63 name keys, and no other does (R189). -/
theorem keyOfCode_eq_none {c : Nat} (h : c = 0 ∨ 63 < c) : keyOfCode c = none := by
  cases c with
  | zero => rfl
  | succ n =>
    have beyond : allKeys.length ≤ n := by
      have length : allKeys.length = 63 := rfl
      omega
    exact List.getElem?_eq_none beyond

theorem keyOfCode_byte (k : Key) : keyOfCode (BitVec.ofNat 8 (keyCode k)).toNat = some k := by
  have range := keyCode_range k
  rw [BitVec.toNat_ofNat, Nat.mod_eq_of_lt (by omega), keyOfCode_keyCode]

theorem signedKey_iff (k : Key) :
    signedKey k = true ↔ k = .frostThreshold ∨ k = .bypassMinOutdoor ∨ k = .thawEnd ∨ k = .lockoutRelease := by
  cases k <;> simp [signedKey]

theorem procedureKey_eq (k : Key) :
    procedureKey k = (decide (k = .qRef) || decide (k = .ringKSupply) || decide (k = .ringKExtract)) := by
  cases k <;> rfl

theorem keyValueOf_eq (k : Key) (w : Word) :
    keyValueOf k w =
      if k = .frostThreshold ∨ k = .bypassMinOutdoor ∨ k = .thawEnd ∨ k = .lockoutRelease then w.toInt
      else (w.toNat : Int) := by
  unfold keyValueOf
  by_cases signed : signedKey k = true
  · rw [if_pos signed, if_pos ((signedKey_iff k).mp signed)]
  · rw [if_neg signed, if_neg fun h => signed ((signedKey_iff k).mpr h)]

/-! ### The checks in their order (R182) -/

section
variable {s : State} {l : Link} {k : Key} {w : Word}

theorem answerSet_unknown {code : Byte} (h : keyOfCode code.toNat = none) : answerSet s l code w = .plain s .bad := by
  rw [answerSet, h]

theorem answerSet_unlisted (listed : valueListed k (keyValueOf k w) = false) :
    answerSet s l (BitVec.ofNat 8 (keyCode k)) w = .plain s .bad := by
  rw [answerSet, keyOfCode_byte]
  exact if_pos listed

theorem answerSet_denied (listed : valueListed k (keyValueOf k w) = true)
    (mayNot : occupantKey k = false ∧ l ≠ .service) :
    answerSet s l (BitVec.ofNat 8 (keyCode k)) w = .plain s .denied := by
  rw [answerSet, keyOfCode_byte]
  dsimp only
  rw [if_neg (by simp [listed]), if_pos mayNot]

theorem answerSet_busy (listed : valueListed k (keyValueOf k w) = true)
    (may : ¬(occupantKey k = false ∧ l ≠ .service))
    (held : procedureKey k = true ∧ s.runner.procedure.isRunning = true) :
    answerSet s l (BitVec.ofNat 8 (keyCode k)) w = .plain s .busy := by
  rw [answerSet, keyOfCode_byte]
  dsimp only
  rw [if_neg (by simp [listed]), if_neg may, if_pos held]

theorem answerSet_accepted (listed : valueListed k (keyValueOf k w) = true)
    (may : ¬(occupantKey k = false ∧ l ≠ .service))
    (free : ¬(procedureKey k = true ∧ s.runner.procedure.isRunning = true)) :
    answerSet s l (BitVec.ofNat 8 (keyCode k)) w = acceptSet s l k (keyValueOf k w) := by
  rw [answerSet, keyOfCode_byte]
  dsimp only
  rw [if_neg (by simp [listed]), if_neg may, if_neg free]

/-- On a ready link SET is its owner's answer sent as a reply: its kind is of no class (R157, R160). -/
theorem exec_setKey {tag code : Byte} {a : Answer} (ready : Ready s l) (h : answerSet s l code w = a) :
    exec (.setKey l tag code w) s = .next (reply l tag 0x07#8 a) := by
  have taken : takeRequest s l tag (.set code w) = reply l tag 0x07#8 (answerSet s l code w) :=
    takeRequest_ready ready tag _ nofun
  rw [← h, ← taken]
  rfl

end

/-! ### The table after a stored value (R114, R182) -/

section
variable (t : Settings) {k : Key} (v : Int)

theorem tableAfter_own : (tableAfter t k v).get k = v := by
  unfold tableAfter
  split
  next => split <;> simp
  next => simp

theorem tableAfter_other {j : Key} (other : j ≠ k) (notLevel : ∀ z, k = .zone z .zoneType → j ≠ .zone z .boostLevel) :
    (tableAfter t k v).get j = t.get j := by
  unfold tableAfter
  split
  next z =>
    have := notLevel z rfl
    split <;> simp [*]
  next => simp [other]

theorem tableAfter_groups :
    (tableAfter t k v).thresholds = t.thresholds ∧ (tableAfter t k v).eventMap = t.eventMap := by
  unfold tableAfter
  split
  next => split <;> exact ⟨rfl, rfl⟩
  next => exact ⟨rfl, rfl⟩

/-- A zone that is given a type takes that type's boost level with it (R114). -/
theorem tableAfter_boostLevel {z : Zone} (used : zoneTypeOf v ≠ .unused) :
    (tableAfter t (.zone z .zoneType) v).get (.zone z .boostLevel) = defaultBoostLevel (zoneTypeOf v) := by
  simp [tableAfter, used]

end

/-! ### A change of a zone's type (R123) -/

/-- A zone's record after a change of its type has no sensor report and at most one change of state (R123). -/
theorem zoneRetyped_cases (z : ZoneRecord) (ty : ZoneType) :
    (zoneRetyped z ty).sensor = none ∧ (zoneRetyped z ty).reports.length ≤ 1 := by
  unfold zoneRetyped ZoneRecord.only
  split
  next => simp
  next =>
    split
    next => simp
    next => split <;> simp

theorem zoneRetyped_typed {z : ZoneRecord} {ty : ZoneType} (unused : z.zoneType = .unused) (used : ty ≠ .unused) :
    (zoneRetyped z ty).record = { ZoneRecord.reset with zoneType := ty, state := .quiet } := by
  have changes : ty ≠ z.zoneType := unused ▸ used
  rw [zoneRetyped, if_neg changes, if_pos unused, ZoneRecord.ofType, if_neg used]

theorem zoneRetyped_unused {z : ZoneRecord} {ty : ZoneType} (used : z.zoneType ≠ .unused) (unused : ty = .unused) :
    (zoneRetyped z ty).record = ZoneRecord.reset ∧ (zoneRetyped z ty).action = .remove := by
  have changes : ty ≠ z.zoneType := fun e => used (e ▸ unused)
  rw [zoneRetyped, if_neg changes, if_neg used, if_pos unused]
  exact ⟨rfl, rfl⟩

theorem DemandTable.isLive_vacate (t : DemandTable) (slot : Fin 16) : (t.vacate slot).isLive slot = false := by
  simp [vacate, isLive]

/-- A zone that removes its entry leaves its slot free (R20). -/
theorem zoneTable_remove_free (s : State) (n : Zone) : (zoneTable s n .remove).isLive (zoneSlot n) = false := by
  unfold zoneTable
  dsimp only
  split
  next => exact DemandTable.isLive_vacate ..
  next free => simpa using free

/-! ### What the blocks are told (R106, R123) -/

section
variable (s : State) {k : Key} (v : Int)

theorem tellBlocks_zoneType (z : Zone) :
    tellBlocks s (.zone z .zoneType) v = applyZoneMove s z (zoneRetyped (s.humidity.zones.get z) (zoneTypeOf v)) := rfl

theorem tellBlocks_bus :
    (tellBlocks s k v).bus =
      { s.bus with credit := if k = .scanQuota then min s.bus.credit v.toNat else s.bus.credit } := by
  unfold tellBlocks
  split
  next => rfl
  next => simp
  next other _ => rw [if_neg other]

/-- Only a zone's new type reaches the humidity monitor and the demand table (R123). -/
theorem tellBlocks_zones_kept (notType : ∀ z, k ≠ .zone z .zoneType) :
    (tellBlocks s k v).humidity = s.humidity ∧ (tellBlocks s k v).table = s.table := by
  unfold tellBlocks
  split
  next => exact ⟨rfl, rfl⟩
  next z => exact absurd rfl (notType z)
  next => exact ⟨rfl, rfl⟩

theorem Logged.tellBlocks : ∃ more, Logged s (tellBlocks s k v) more ∧ more.length ≤ 1 := by
  unfold Machine.tellBlocks
  split
  next => exact ⟨[], .of_log rfl, by simp⟩
  next z =>
    obtain ⟨silent, few⟩ := zoneRetyped_cases (s.humidity.zones.get z) (zoneTypeOf v)
    exact ⟨_, (Told.applyZoneMove s z _).1, by simpa [zoneBodies, silent] using few⟩
  next => exact ⟨[], .refl s, by simp⟩

theorem tellBlocks_resolved (loaded : s.isLoading = false) (h : Resolved s) : Resolved (tellBlocks s k v) := by
  unfold tellBlocks
  split
  next => exact h.congr rfl rfl rfl rfl rfl rfl rfl rfl
  next => exact applyZoneMove_resolved _ _ _ loaded (.inl h)
  next => exact h

end

/-! ### A value stored (R182) -/

section
variable (s : State) (k : Key) (v : Int) (l : Link)

theorem Logged.tellLog : Logged s (tellLog s k) [] := by
  unfold Machine.tellLog
  split <;> exact ⟨rfl, rfl⟩

/-- The SETTING record of the key comes first; a zone's new type adds that of its boost level (R114, R182). -/
theorem Logged.settingRecords :
    ∃ more,
      Logged s (settingRecords s k v l) (.setting (BitVec.ofNat 8 (keyCode k)) (keyValueWord v) (some l) :: more) ∧
      more.length ≤ 1 := by
  have own := Logged.writeLog s (.setting (BitVec.ofNat 8 (keyCode k)) (keyValueWord v) (some l))
  unfold Machine.settingRecords
  dsimp only
  split
  next =>
    split
    next => exact ⟨[], own, by simp⟩
    next => exact ⟨[_], .trans (by rw [writeLog_time]) own (.writeLog _ _), Nat.le_refl 1⟩
  next => exact ⟨[], own, by simp⟩

/-- The table stored, and the log told of a new level (R179, R182). -/
def keyStored : State := tellLog (storeTable s (tableAfter s.settings k v)) k

/-- The records written: the state the resolver is notified on (R182). -/
def keyRecorded : State := settingRecords (keyStored s k v) k v l

theorem Logged.keyStored : Logged s (keyStored s k v) [] :=
  (Logged.tellLog (storeTable s (tableAfter s.settings k v)) k).congr rfl rfl rfl

@[simp] theorem keyRecorded_time : (keyRecorded s k v l).time = s.time := by simp [keyRecorded, keyStored, storeTable]
@[simp] theorem keyRecorded_bus : (keyRecorded s k v l).bus = s.bus := by simp [keyRecorded, keyStored, storeTable]
@[simp] theorem keyRecorded_table : (keyRecorded s k v l).table = s.table := by
  simp [keyRecorded, keyStored, storeTable]
@[simp] theorem keyRecorded_humidity : (keyRecorded s k v l).humidity = s.humidity := by
  simp [keyRecorded, keyStored, storeTable]

theorem storeKey_eq : storeKey s k v l = tellBlocks (notice (keyRecorded s k v l)) k v := rfl

theorem storeKey_store :
    (storeKey s k v l).store =
      { s.store with settings := tableAfter s.settings k v, changed := true, quiet := 0 } := by
  simp [storeKey, storeTable, Store.markChanged]

theorem storeKey_settings : (storeKey s k v l).settings = tableAfter s.settings k v := by
  rw [State.settings, storeKey_store]

theorem storeKey_isLoading : (notice (keyRecorded s k v l)).isLoading = s.isLoading :=
  isLoading_congr (by simp [keyRecorded, keyStored, storeTable, Store.markChanged])

theorem Logged.storeKey :
    ∃ more, Logged s (storeKey s k v l) (.setting (BitVec.ofNat 8 (keyCode k)) (keyValueWord v) (some l) :: more) ∧
      more.length ≤ 2 := by
  obtain ⟨level, recorded, few⟩ := Logged.settingRecords (Machine.keyStored s k v) k v l
  obtain ⟨zone, blocks, one⟩ := Logged.tellBlocks (notice (keyRecorded s k v l)) (k := k) v
  have time : (Machine.keyStored s k v).time = s.time := tellLog_time ..
  have first : Logged s (keyRecorded s k v l) _ := .trans (by rw [time]) (.keyStored s k v) recorded
  have later : Logged (keyRecorded s k v l) (Machine.storeKey s k v l) zone := blocks.congr rfl rfl rfl
  refine ⟨level ++ zone, .trans (by rw [keyRecorded_time]) first later, ?_⟩
  rw [List.length_append]
  omega

theorem storeKey_resolved (loaded : s.isLoading = false) : Resolved (storeKey s k v l) := by
  have still : (keyRecorded s k v l).isLoading = false := (storeKey_isLoading s k v l).trans loaded
  exact tellBlocks_resolved _ v still (.notice _ still)

theorem storeKey_bus :
    (storeKey s k v l).bus =
      { s.bus with credit := if k = .scanQuota then min s.bus.credit v.toNat else s.bus.credit } := by
  rw [storeKey_eq, tellBlocks_bus, notice_bus, keyRecorded_bus]

theorem storeKey_zones_kept (notType : ∀ z, k ≠ .zone z .zoneType) :
    (storeKey s k v l).humidity = s.humidity ∧ (storeKey s k v l).table = s.table := by
  obtain ⟨humidity, table⟩ := tellBlocks_zones_kept (notice (keyRecorded s k v l)) v notType
  exact ⟨by rw [storeKey_eq, humidity, notice_humidity, keyRecorded_humidity],
    by rw [storeKey_eq, table, notice_table, keyRecorded_table]⟩

/-- A zone's stored type is its record's own move (R123). -/
theorem storeKey_zone (z : Zone) :
    (storeKey s (.zone z .zoneType) v l).humidity.zones.get z =
        (zoneRetyped (s.humidity.zones.get z) (zoneTypeOf v)).record ∧
      ∃ u, (storeKey s (.zone z .zoneType) v l).table =
        zoneTable u z (zoneRetyped (s.humidity.zones.get z) (zoneTypeOf v)).action := by
  rw [storeKey_eq, tellBlocks_zoneType, applyZoneMove_humidity, applyZoneMove_table, notice_humidity,
    keyRecorded_humidity]
  exact ⟨by simp, _, rfl⟩

end

/-! ### A SET that passes every check (R182) -/

theorem flag_decide (p : Prop) [Decidable p] : flag (decide (¬p)) = [if p then 0#8 else 1#8] := by
  by_cases h : p <;> simp [flag, byte1, h]

theorem acceptSet_eq (s : State) (l : Link) (k : Key) (v : Int) :
    acceptSet s l k v =
      .ok (if storedValue s.settings k v = s.settings.get k then s else storeKey s k (storedValue s.settings k v) l)
        (be32 (BitVec.ofInt 32 (storedValue s.settings k v)).toNat ++
          [if storedValue s.settings k v = v then 0#8 else 1#8]) := by
  rw [← flag_decide]
  rfl

end Sys2Proof.Machine

namespace Sys2Proof

open Machine

/-- Settles O56: the checks are the owner's, in their order, and a stored value is followed through the table, the
records, the notice and the blocks that are told. -/
theorem setClampsAndStores : Obligations.SetClampsAndStores := by
  refine ⟨fun s l tag code w ready unknown => ?unknown, ?key⟩
  case unknown =>
    have none : keyOfCode code.toNat = none := keyOfCode_eq_none (unknown.imp (congrArg BitVec.toNat) id)
    rw [exec_setKey ready (answerSet_unknown none), reply_plain]
  case key =>
    rintro s l tag k w v stored ready hv hstored c listed mayWrite held rfl hlisted hmay hheld
    rw [← keyValueOf_eq] at hv
    subst hv
    replace hstored : stored = storedValue s.settings k (keyValueOf k w) := hstored
    replace hlisted : listed = valueListed k (keyValueOf k w) := hlisted
    rw [← procedureKey_eq] at hheld
    have may_iff : mayWrite = false ↔ occupantKey k = false ∧ l ≠ .service := by simp [hmay]
    have held_iff : held = true ↔ procedureKey k = true ∧ s.runner.procedure.isRunning = true := by simp [hheld]
    refine ⟨fun no => ?unlisted, fun yes no => ?denied, fun yes may busy => ?busy, fun yes may free => ?accepted⟩
    case unlisted => rw [exec_setKey ready (answerSet_unlisted (hlisted ▸ no)), reply_plain]
    case denied => rw [exec_setKey ready (answerSet_denied (hlisted ▸ yes) (may_iff.mp no)), reply_plain]
    case busy =>
      have mayNot := mt may_iff.mpr (by simp [may])
      rw [exec_setKey ready (answerSet_busy (hlisted ▸ yes) mayNot (held_iff.mp busy)), reply_plain]
    case accepted =>
      have mayNot := mt may_iff.mpr (by simp [may])
      have answered := answerSet_accepted (hlisted ▸ yes) mayNot (mt held_iff.mpr (by simp [free]))
      rw [acceptSet_eq, ← hstored] at answered
      refine ⟨_, exec_setKey ready answered, reply_replies .., fun same => ?same, fun differs => ?differs⟩
      case same =>
        rw [if_pos same]
        exact ⟨rfl, reply_othersKept (othersKept_of_eq l rfl)⟩
      case differs =>
        rw [if_neg differs]
        clear hstored answered
        generalize hu : storeKey s k stored l = u
        have settings : u.settings = tableAfter s.settings k stored := hu ▸ storeKey_settings ..
        obtain ⟨thresholds, eventMap⟩ := tableAfter_groups s.settings (k := k) stored
        obtain ⟨more, logged, few⟩ := Logged.storeKey s k stored l
        rw [hu] at logged
        have wrote : Wrote s u _ := logged.wrote (by simp; omega)
        refine ⟨?own, ?others, ?thresholds, ?eventMap, ?store, ⟨more, ?count, wrote⟩, ?resolved, ?bus, ?retyped,
          ?kept, ?frame⟩
        case own => exact (congrArg (Settings.get · k) settings).trans (tableAfter_own ..)
        case others =>
          exact fun j other notLevel =>
            (congrArg (Settings.get · j) settings).trans (tableAfter_other _ _ other notLevel)
        case thresholds => exact (congrArg Settings.thresholds settings).trans thresholds
        case eventMap => exact (congrArg Settings.eventMap settings).trans eventMap
        case store =>
          show u.store = { s.store with settings := u.settings, changed := true, quiet := 0 }
          rw [settings, ← hu, storeKey_store]
        case count =>
          have written : u.log.write = s.log.write + (more.length + 1) := logged.1
          show s.log.write + 1 ≤ u.log.write
          omega
        case resolved =>
          have up : Resolved u := hu ▸ storeKey_resolved s k stored l ready.1
          exact up.congr rfl rfl rfl rfl rfl rfl rfl rfl
        case bus => exact hu ▸ storeKey_bus ..
        case retyped =>
          rintro z rfl ty rfl
          obtain ⟨zone, before, table⟩ := storeKey_zone s stored l z
          rw [hu] at zone table
          refine ⟨fun used => ?level, fun unused used => ?typed, fun used unused => ?untyped⟩
          case level => exact (congrArg (Settings.get · _) settings).trans (tableAfter_boostLevel _ _ used)
          case typed => exact zone.trans (zoneRetyped_typed unused used)
          case untyped =>
            obtain ⟨record, action⟩ := zoneRetyped_unused used unused
            rw [action] at table
            exact ⟨zone.trans record, (congrArg (DemandTable.isLive · _) table).trans (zoneTable_remove_free ..)⟩
        case kept => exact fun notType => hu ▸ storeKey_zones_kept s k stored l notType
        case frame =>
          subst hu
          apply State.eq_of_fields <;> simp [reply]

end Sys2Proof
end

section
/-! PROOFS. The end of the load taken apart: the two clamps that bring a good image into range and relation, what an
image gives, and the start-up order step by step (R72, R109, R133, R155, R165, R180, R182, R183, R186). -/

namespace Sys2Proof.Machine

/-! ### Values in range (R182, R183) -/

/-- Every value of a table lies in its range. -/
def Settings.Ranged (t : Settings) : Prop := ∀ k, (keyRange k).1 ≤ t.get k ∧ t.get k ≤ (keyRange k).2

theorem rangeAll_ranged (t : Settings) : (rangeAll t).Ranged := fun k => by
  rw [rangeAll_get]
  exact clampToRange_bounds k (t.get k)

/-- Against related keys that lie in their ranges a value stays in its own (R182). -/
theorem Settings.Ranged.clampToRelated {t : Settings} (h : t.Ranged) (k : Key) :
    (keyRange k).1 ≤ clampToRelated t k (t.get k) ∧ clampToRelated t k (t.get k) ≤ (keyRange k).2 := by
  have own := h k
  cases k with
  | nominalFlow =>
    have health := h .healthMin; have unit := h .unitMax
    simp only [Machine.clampToRelated, keyRange] at own health unit ⊢; omega
  | healthMin =>
    have nominal := h .nominalFlow; have cap := h .overdueCap
    simp only [Machine.clampToRelated, keyRange] at own nominal cap ⊢; omega
  | unitMax =>
    have nominal := h .nominalFlow; have ref := h .qRef
    simp only [Machine.clampToRelated, keyRange] at own nominal ref ⊢; omega
  | overdueCap =>
    have health := h .healthMin
    simp only [Machine.clampToRelated, keyRange] at own health ⊢; omega
  | qRef =>
    have unit := h .unitMax
    simp only [Machine.clampToRelated, keyRange] at own unit ⊢; omega
  | dutyMin =>
    have high := h .dutyMax; have start := h .startDuty
    simp only [Machine.clampToRelated, keyRange] at own high start ⊢; omega
  | dutyMax =>
    have low := h .dutyMin; have start := h .startDuty
    simp only [Machine.clampToRelated, keyRange] at own low start ⊢; omega
  | startDuty =>
    have low := h .dutyMin; have high := h .dutyMax
    simp only [Machine.clampToRelated, keyRange] at own low high ⊢; omega
  | dryOn =>
    have off := h .dryOff
    simp only [Machine.clampToRelated, keyRange] at own off ⊢; omega
  | dryOff =>
    have on := h .dryOn
    simp only [Machine.clampToRelated, keyRange] at own on ⊢; omega
  | zone z k =>
    cases k with
    | boostOn =>
      have off := h (.zone z .boostOff)
      simp only [Machine.clampToRelated, keyRange, zoneKeyRange] at own off ⊢; omega
    | boostOff =>
      have on := h (.zone z .boostOn)
      simp only [Machine.clampToRelated, keyRange, zoneKeyRange] at own on ⊢; omega
    | _ => exact own
  | _ => exact own

theorem Settings.Ranged.put {t : Settings} (h : t.Ranged) {k : Key} {v : Int}
    (hv : (keyRange k).1 ≤ v ∧ v ≤ (keyRange k).2) : (t.put k v).Ranged := fun j => by
  rw [Settings.get_put]
  split
  next same => exact same ▸ hv
  next => exact h j

theorem Settings.Ranged.relateAll {t : Settings} (h : t.Ranged) : (relateAll t).Ranged := by
  have step : ∀ (ks : List Key) (t : Settings), t.Ranged →
      (ks.foldl (fun t k => t.put k (Machine.clampToRelated t k (t.get k))) t).Ranged := by
    intro ks
    induction ks with
    | nil => exact fun _ h => h
    | cons k ks ih => exact fun t h => ih _ (h.put (h.clampToRelated k))
  exact step relatedKeys t h

/-! ### Values in relation (R182, R183) -/

/-- The flow keys, in the order of R182: `nominal_flow` is moved between `health_min` and `unit_max`, `health_min` below
both of its own, and `unit_max` up to `q_ref`; the two others are then in relation already. -/
theorem relateAll_flows (t : Settings) :
    (relateAll t).get .nominalFlow = min (max (t.get .nominalFlow) (t.get .healthMin)) (t.get .unitMax) ∧
    (relateAll t).get .healthMin =
      min (min (t.get .healthMin) (min (max (t.get .nominalFlow) (t.get .healthMin)) (t.get .unitMax)))
        (t.get .overdueCap) ∧
    (relateAll t).get .unitMax = max (t.get .unitMax) (t.get .qRef) ∧
    (relateAll t).get .overdueCap = t.get .overdueCap ∧ (relateAll t).get .qRef = t.get .qRef := by
  simp only [relateAll, relatedKeys, List.foldl, clampToRelated, Settings.get_put, Key.zone.injEq, reduceCtorEq,
    and_false, and_true, true_and, ↓reduceIte]
  omega

/-- The duty keys: `duty_min` is moved below both others and `duty_max` above `start_duty`. -/
theorem relateAll_duties (t : Settings) :
    (relateAll t).get .dutyMin = min (min (t.get .dutyMin) (t.get .dutyMax - 1)) (t.get .startDuty) ∧
    (relateAll t).get .dutyMax = max (t.get .dutyMax) (t.get .startDuty) ∧
    (relateAll t).get .startDuty = t.get .startDuty := by
  simp only [relateAll, relatedKeys, List.foldl, clampToRelated, Settings.get_put, Key.zone.injEq, reduceCtorEq,
    and_false, and_true, true_and, ↓reduceIte]
  omega

theorem relateAll_boost (t : Settings) (z : Zone) :
    (relateAll t).get (.zone z .boostOn) = max (t.get (.zone z .boostOn)) (t.get (.zone z .boostOff) + 1) ∧
    (relateAll t).get (.zone z .boostOff) = t.get (.zone z .boostOff) := by
  cases z <;>
    simp only [relateAll, relatedKeys, List.foldl, clampToRelated, Settings.get_put, Key.zone.injEq, reduceCtorEq,
      and_false, and_true, true_and, ↓reduceIte] <;>
    omega

theorem relateAll_dry (t : Settings) :
    (relateAll t).get .dryOn = min (t.get .dryOn) (t.get .dryOff - 1) ∧
    (relateAll t).get .dryOff = t.get .dryOff := by
  simp only [relateAll, relatedKeys, List.foldl, clampToRelated, Settings.get_put, Key.zone.injEq, reduceCtorEq,
    and_false, and_true, true_and, ↓reduceIte]
  omega

/-- A table in range is brought into relation by one clamp of each related key, in the order of R182. -/
theorem relateAll_ok {t : Settings} (ranged : t.Ranged) (thresholds : ∀ n ∈ t.thresholds.toList, 1 ≤ n ∧ n ≤ 9000) :
    (relateAll t).Ok := by
  obtain ⟨nominal, health, unit, cap, ref⟩ := relateAll_flows t
  obtain ⟨low, high, start⟩ := relateAll_duties t
  obtain ⟨dryOn, dryOff⟩ := relateAll_dry t
  exact {
    range := ranged.relateAll
    healthNominal := by omega
    nominalUnit := by omega
    healthCap := by omega
    refUnit := by omega
    dutyOrder := by omega
    startLow := by omega
    startHigh := by omega
    boostOrder := fun z => by
      obtain ⟨on, off⟩ := relateAll_boost t z
      omega
    dryOrder := by omega
    thresholds := by rwa [relateAll_thresholds] }

/-! ### What an image gives (R183, R193) -/

theorem imageGood_iff (bs : List Byte) :
    imageGood bs = true ↔ bs.length = 315 ∧ bs.getD 0 0#8 = 0x01#8 ∧
      crc16 (bs.take 313) = bs.getD 313 0#8 ++ bs.getD 314 0#8 := by
  simp [imageGood, byteAt, halfAt, joinHalf, imageVersion, and_assoc]

theorem loadedFrom_good {bs : List Byte} (good : imageGood bs = true) :
    loadedFrom (.bytes bs) =
      { settings := imageSettings bs
        persisted := { supply := imagePersisted bs 281, extract := imagePersisted bs 297 }
        outcome := .image } := if_pos good

/-- What a load installs when it has no good image (R183). -/
def defaultedLoad : Loaded :=
  { settings := defaultSettings, persisted := ⟨Persisted.reset, Persisted.reset⟩, outcome := .defaulted }

theorem loadedFrom_bad {r : ImageRead} (bad : ∀ bs, r = .bytes bs → imageGood bs = false) :
    loadedFrom r = defaultedLoad := by
  cases r with
  | notAcknowledged => rfl
  | bytes bs => exact if_neg (by simp [bad bs rfl])

theorem loadedFrom_defaulted {r : ImageRead} (h : (loadedFrom r).outcome = .defaulted) :
    loadedFrom r = defaultedLoad := by
  refine loadedFrom_bad ?_
  rintro bs rfl
  cases good : imageGood bs with
  | false => rfl
  | true =>
    rw [loadedFrom_good good] at h
    cases h

/-- A key's value stands in the image at its place in the table's order (R193). -/
theorem imageValues_get {bs : List Byte} {th : Thresholds} {m : PerLink KindSet} {i : Nat} {k : Key}
    (place : allKeys[i]? = some k) :
    ({ values := imageValues bs, thresholds := th, eventMap := m } : Settings).get k =
      keyValueOf k (wordAt bs (1 + 4 * i)) := by
  have inside : i < 63 := (List.getElem?_eq_some_iff.mp place).1
  have index : (keyPlace k).val = i := keyPlace_of_allKeys ⟨i, inside⟩ k place
  show (Vector.ofFn _)[(keyPlace k).val] = _
  simp only [Vector.getElem_ofFn, index, place]

theorem imageSettings_get {bs : List Byte} {i : Nat} {k : Key} (place : allKeys[i]? = some k)
    (unrelated : k ∉ relatedKeys) :
    (imageSettings bs).get k = clampToRange k (keyValueOf k (wordAt bs (1 + 4 * i))) := by
  rw [imageSettings, relateAll_other _ _ unrelated, rangeAll_get, imageValues_get place]

theorem joinWord_eq (a b c d : Byte) : joinWord a b c d = a ++ b ++ c ++ d := by
  have assoc := BitVec.append_assoc (x₁ := a ++ b) (x₂ := c) (x₃ := d)
  rw [BitVec.cast_eq] at assoc
  exact assoc.symm

theorem imageThresholds_toList (bs : List Byte) :
    (imageThresholds bs).toList = (List.range 7).map fun i => clampNat 1 9000 (halfAt bs (253 + 2 * i)).toNat := rfl

theorem imageSettings_ok (bs : List Byte) : (imageSettings bs).Ok := by
  refine relateAll_ok (rangeAll_ranged _) ?_
  rw [rangeAll_thresholds]
  show ∀ n ∈ (imageThresholds bs).toList, _
  rw [imageThresholds_toList]
  intro n h
  obtain ⟨i, -, rfl⟩ := List.mem_map.mp h
  unfold clampNat
  omega

theorem hasKind_kindSet (ks : List EventKind) (k : EventKind) : hasKind (kindSet ks) k = decide (k ∈ ks) := by
  have joined : ∀ m : KindSet,
      hasKind (ks.foldl (fun m k => m ||| oneKind k) m) k = (hasKind m k || decide (k ∈ ks)) := by
    induction ks with
    | nil => simp
    | cons j ks ih => simp [ih, Bool.or_assoc]
  simp [kindSet, joined]

theorem mem_allKinds (k : EventKind) : k ∈ allKinds := by cases k <;> decide

theorem hasKind_mapColumn (v : Vector Byte 14) (l : Link) (k : EventKind) :
    hasKind (mapColumn v l) k = (v.toList.getD (kindIndex k) 0#8).getLsbD (linkCode l) := by
  simp [mapColumn, hasKind_kindSet, mem_allKinds]

/-- Each kind's byte of the map names the links it is given to (R189). -/
theorem hasKind_imageEventMap (bs : List Byte) (l : Link) (k : EventKind) :
    hasKind ((imageEventMap bs).get l) k = (bs.getD (267 + kindIndex k) 0#8).getLsbD (linkCode l) := by
  have column : (imageEventMap bs).get l = mapColumn (Vector.ofFn fun i => byteAt bs (267 + i.val)) l := by
    cases l <;> rfl
  rw [column, hasKind_mapColumn]
  simp [kindIndex_lt k, byteAt]

/-! ### The table installed (R165, R180, R183) -/

theorem LinkRecord.hasKind_keep (r : LinkRecord) (given : KindSet) (k : EventKind) :
    hasKind (r.keep given).pending k = (hasKind r.pending k && (hasKind given k || hasKind r.addressed k)) := by
  simp [keep]

section
variable (s : State) (x : Loaded)

theorem installTable_store :
    (installTable s x).store =
      { s.store with
        state := loadedState x.outcome
        loadedAs := x.outcome
        settings := x.settings
        persisted := x.persisted
        changed := s.store.changed || decide (x.outcome = .defaulted)
        quiet := if x.outcome = .defaulted then 0 else s.store.quiet } := by
  unfold installTable
  cases x.outcome <;> simp [prunePending, setLog, Store.markChanged]

theorem installTable_log :
    (installTable s x).log = { s.log with ring := s.log.ring.map (LogRecord.fillOutcome x.outcome) } := by
  unfold installTable
  cases x.outcome <;> rfl

theorem LogRecord.fillOutcome_eq (o : LoadOutcome) (e : LogRecord) :
    e.fillOutcome o = if e.body = .powerUp none then { e with body := .powerUp (some o) } else e := by
  unfold fillOutcome
  split
  next powerUp => rw [if_pos powerUp]
  next other => rw [if_neg other]

/-- The pending sets are brought under the loaded map before a defaulted load raises STORE_STATE (assumption 27). -/
theorem installTable_links (l : Link) :
    (installTable s x).links.get l =
      ((s.links.get l).keep (x.settings.eventMap.get l)).givenIf .storeState
        (decide (x.outcome = .defaulted) && hasKind (x.settings.eventMap.get l) .storeState) := by
  unfold installTable
  cases x.outcome with
  | image => simp [prunePending, setLog, LinkRecord.givenIf, State.settings]
  | defaulted =>
    refine (raise_links _ rfl l).trans ?_
    simp [prunePending, State.settings, Store.markChanged]

theorem hasKind_installTable (l : Link) (k : EventKind) :
    hasKind ((installTable s x).links.get l).pending k =
      ((hasKind (s.links.get l).pending k &&
          (hasKind (x.settings.eventMap.get l) k || hasKind (s.links.get l).addressed k)) ||
        (decide (x.outcome = .defaulted ∧ k = .storeState) && hasKind (x.settings.eventMap.get l) k)) := by
  rw [installTable_links, LinkRecord.hasKind_givenIf, LinkRecord.hasKind_keep]
  by_cases h : k = .storeState <;> simp [h]

end

/-! ### The filters filled (R143, R144, R155) -/

/-- A filled record has no pressure behind it, so its life is that of its counters and its state goes by that life. -/
theorem FilterRecord.fill_spec (y : FilterRecord) (t : Settings) (kept : Persisted) (shortfall : Bool) :
    (y.fill t kept shortfall).kept = kept ∧ (y.fill t kept shortfall).smoothed = none ∧
      (y.fill t kept shortfall).loading = 0 ∧ (y.fill t kept shortfall).carry = 0 ∧
      (y.fill t kept shortfall).missing = 0 ∧
      (y.fill t kept shortfall).lifeUsed =
        min 100 (max (kept.volume * 100 / t.nat .lifeVolume) (kept.age * 100 / (t.nat .maxAge * 1440))) ∧
      (y.fill t kept shortfall).state =
        if 100 ≤ (y.fill t kept shortfall).lifeUsed then .overdue
        else if t.nat .dueLevel ≤ (y.fill t kept shortfall).lifeUsed then .due
        else if 50 ≤ (y.fill t kept shortfall).lifeUsed then .loading
        else .clean := by
  refine ⟨rfl, rfl, rfl, rfl, rfl, ?life, ?state⟩
  case life => simp [fill, decide, life]
  case state => simp [fill, decide, decideState]

/-! ### The start-up order (R186) -/

section
variable (s : State) (x : Loaded)

/-- The first three steps of the start-up order: the state the first recompute is taken on. -/
def setUp : State := setUpZones (fillFilters (installTable s x) x)

theorem startUp_eq : startUp s x = startCounts (startScanner (recompute (setUp s x))) := rfl

@[simp] theorem setUp_store : (setUp s x).store = (installTable s x).store := rfl
@[simp] theorem setUp_links : (setUp s x).links = (installTable s x).links := rfl
@[simp] theorem setUp_bus : (setUp s x).bus = s.bus := installTable_bus s x
@[simp] theorem setUp_settings : (setUp s x).settings = x.settings := by
  rw [State.settings, setUp_store, installTable_store]

theorem setUp_log : (setUp s x).log = { (installTable s x).log with hourly := Hourly.reset } := rfl

theorem setUp_filter (f : Side) :
    (setUp s x).filters.records.get f =
      (s.filters.records.get f).fill x.settings (x.persisted.get f) (s.fans.get f).shortfall := by
  cases f <;> simp [setUp, setUpZones, fillFilters, setHourly, PerSide.get]

theorem ZoneRecord.ofType_zoneType (ty : ZoneType) : (ofType ty).zoneType = ty := rfl

theorem setUp_zone (n : Zone) :
    (setUp s x).humidity.zones.get n = ZoneRecord.ofType (x.settings.zoneType n) := by
  have zone : (setUp s x).humidity.zones.get n = ZoneRecord.ofType ((installTable s x).settings.zoneType n) := by
    cases n <;> rfl
  rw [zone, State.settings, installTable_store]

@[simp] theorem startUp_store : (startUp s x).store = (installTable s x).store := by
  simp [startUp_eq, startCounts]
@[simp] theorem startUp_links : (startUp s x).links = (installTable s x).links := by
  simp [startUp_eq, startCounts]
@[simp] theorem startUp_log : (startUp s x).log = (setUp s x).log := by
  simp [startUp_eq, startCounts]
@[simp] theorem startUp_humidity : (startUp s x).humidity = (setUp s x).humidity := by
  simp [startUp_eq, startCounts]

theorem startUp_filters : (startUp s x).filters = { (setUp s x).filters with steps := 0 } := by
  simp [startUp_eq, startCounts]

theorem startUp_frost : (startUp s x).frost = { s.frost with steps := 0 } := by
  simp [startUp_eq, startCounts, setUp, setUpZones, fillFilters, setHourly]

/-- The first recompute reads nothing that the steps after it change (R42, R186). -/
theorem startUp_resolved : Resolved (startUp s x) := by
  have first : Resolved (recompute (setUp s x)) := ⟨(setUp s x).op.bypassOpen, rfl⟩
  have scanned : Resolved (startScanner (recompute (setUp s x))) := by
    apply first.congr <;> simp
  have counted := scanned.withFilters (m := { (startScanner (recompute (setUp s x))).filters with steps := 0 })
    fun _ => rfl
  rw [startUp_eq, startCounts]
  exact counted.congr rfl rfl rfl rfl rfl rfl rfl rfl

/-- On an idle bus the first scan round starts its first sensor on the whole credit (R109). -/
theorem startUp_bus (idle : s.bus.transaction = none) (noScan : s.bus.scanQueue = []) (noPass : s.bus.passQueue = [])
    {n : Sensor} {rest : List Sensor} (round : roundSensors (setUp s x).humidity.zones = n :: rest) :
    (startUp s x).bus =
      ({ s.bus with credit := x.settings.nat .scanQuota, roundCount := 0 } : Bus).startScan x.settings n rest := by
  have started := scanRound_idle
    (s := setBus (recompute (setUp s x)) { s.bus with credit := x.settings.nat .scanQuota }) idle noScan noPass round
  have bus : (startUp s x).bus = (startScanner (recompute (setUp s x))).bus := by rw [startUp_eq, startCounts]
  rw [bus, startScanner]
  simp only [recompute_bus, setUp_bus]
  have settings : (recompute (setUp s x)).settings = x.settings := setUp_settings s x
  rw [settings, started]
  exact congrArg (Bus.startScan _ · n rest) settings

theorem exec_loadEnd (loading : s.isLoading = true) (r : ImageRead) :
    exec (.loadEnd r) s = .next (startUp s (loadedFrom r)) :=
  congrArg Host.Outcome.next (if_pos loading)

end

end Sys2Proof.Machine

namespace Sys2Proof

open Machine

/-- Settles O21: a loading part takes the start-up order, followed block by block, on what the image gives. -/
theorem loadEndHandsTheTableOn : Obligations.LoadEndHandsTheTableOn := by
  refine ⟨?startUp, ?bad, ?good⟩
  case startUp =>
    intro r s x loading hx
    refine ⟨startUp s x, hx ▸ exec_loadEnd s loading r, ?settings, ?state, ?changed, ?log, ?pending, ?storeState,
      ?filters, ?zones, ?persisted, ?loadedAs, startUp_resolved s x, ?frostSteps, ?filterSteps, ?hourTicks, ?bus,
      ?frame⟩
    case settings => rw [State.settings, startUp_store, installTable_store]
    case state =>
      rw [startUp_store, installTable_store]
      cases x.outcome <;> rfl
    case changed => rw [startUp_store, installTable_store]
    case log =>
      rw [startUp_log, setUp_log, installTable_log]
      simp only [funext (LogRecord.fillOutcome_eq x.outcome)]
    case pending =>
      intro l k
      rw [startUp_links, hasKind_installTable]
    case storeState =>
      intro defaulted l
      have table : x.settings = defaultSettings := by
        subst hx
        rw [loadedFrom_defaulted defaulted]
        rfl
      have mapped : hasKind (defaultSettings.eventMap.get l) .storeState = true := by cases l <;> decide
      rw [startUp_links, hasKind_installTable, table, mapped, defaulted]
      simp
    case filters =>
      rintro f y rfl
      have record : (startUp s x).filters.records.get f = _ :=
        (congrArg (fun m => m.records.get f) (startUp_filters s x)).trans (setUp_filter s x f)
      rw [record]
      exact FilterRecord.fill_spec ..
    case zones =>
      intro n
      rw [startUp_humidity, setUp_zone]
    case persisted => rw [startUp_store, installTable_store]
    case loadedAs => rw [startUp_store, installTable_store]
    case frostSteps => rw [startUp_frost]
    case filterSteps => rw [startUp_filters]
    case hourTicks => rw [startUp_filters]; rfl
    case bus =>
      intro idle noScan noPass n rest round
      have sensors : roundSensors (setUp s x).humidity.zones = n :: rest := by
        rw [round, roundSensors_eq]
        simp only [setUp_zone, ZoneRecord.ofType_zoneType]
      rw [startUp_bus s x idle noScan noPass sensors]
      cases n <;> rfl
    case frame =>
      apply State.eq_of_fields <;> simp [startUp_frost]
  case bad =>
    intro bs bad r hr
    refine loadedFrom_bad fun bytes h => ?_
    obtain rfl | rfl := hr
    · cases h
    · cases h
      rw [← Bool.not_eq_true, imageGood_iff]
      rintro ⟨length, version, crc⟩
      exact bad.elim (absurd length) (Or.elim · (absurd version) (absurd crc))
  case good =>
    intro bs x length version crc hx
    have good := (imageGood_iff bs).mpr ⟨length, version, crc⟩
    rw [loadedFrom_good good] at hx
    subst hx
    refine ⟨rfl, imageSettings_ok bs, ?keys, ?thresholds, ?map⟩
    case keys =>
      rintro i k w place unrelated rfl
      have second : 1 + 4 * i + 1 = 2 + 4 * i := by omega
      have third : 1 + 4 * i + 2 = 3 + 4 * i := by omega
      have fourth : 1 + 4 * i + 3 = 4 + 4 * i := by omega
      have value := imageSettings_get (bs := bs) place unrelated
      rw [wordAt, joinWord_eq, second, third, fourth] at value
      exact value
    case thresholds =>
      intro i n place
      rw [imageSettings_thresholds, imageThresholds_toList, List.getElem?_map] at place
      obtain ⟨j, hj, rfl⟩ := Option.map_eq_some_iff.mp place
      obtain ⟨inside, rfl⟩ := List.getElem?_eq_some_iff.mp hj
      have second : 253 + 2 * i + 1 = 254 + 2 * i := by omega
      rw [List.getElem_range, halfAt, joinHalf_toNat, second]
      rfl
    case map =>
      intro l k
      show hasKind ((imageSettings bs).eventMap.get l) k = _
      rw [imageSettings_eventMap, hasKind_imageEventMap]
      cases l <;> rfl

end Sys2Proof
end

section
/-! PROOFS. What a step can do, said once for every command: each row of the table comes to one of the operations of
its block, and each invariant is then followed through those operations alone (sections 3 and 5.4 of the opening
chapter). -/

namespace Sys2Proof.Machine

/-! ### The operations a command comes to -/

/-- What a row that names a crossing of the fan block makes of the fan's record (R48 to R58). -/
inductive FanRow (t : Settings) (f : Side) (x : FanRecord) : FanRecord → Prop
  | entersRunning (starting : x.state = .starting) (target : 0 < x.target) : FanRow t f x (x.enterRunning t)
  | stalls (running : x.state = .running) : FanRow t f x x.stall
  | retries (stalled : x.state = .stalled) : FanRow t f x (x.retry t)
  | endsRetry (retrying : x.state = .retrying) : FanRow t f x x.endRetry
  | judgesShortfall : FanRow t f x (x.judgeShortfall t)
  | countsRun (running : x.state = .running) : FanRow t f x x.countRun
  | losesProbe : FanRow t f x x.loseProbe
  | regainsProbe (dp : Nat) : FanRow t f x (x.regainProbe (t.nat (ringKey f)) dp)

/-- What a row that names a crossing of the frost guard makes of its record (R79, R81, R88). -/
inductive FrostRow (t : Settings) (g : FrostRecord) (oda : Option Int) : FrostMove → Prop
  | success (thaw : g.stage = .thaw) (eha : Int) : FrostRow t g oda (thawSucceeds t (g.countThaw t eha))
  | timeout (thaw : g.stage = .thaw) (eha : Int) (warming : (g.countThaw t eha).success < 18) :
      FrostRow t g oda (thawTimesOut t (g.countThaw t eha))
  | release (lockout : g.stage = .lockout) : FrostRow t g oda g.release.move
  | turn (blind : g.stage = .blind) : FrostRow t g oda (blindTurn t g oda).move

/-- What a filter probe's crossing makes of its filter's record (R136). -/
inductive FilterRow (x : FilterRecord) : FilterRecord → Prop
  | losesProbe : FilterRow x x.loseProbe
  | regainsProbe (dp : Nat) (good : dp ≤ 5000) : FilterRow x (x.regainProbe dp)

/-- What reception, the end of a reply and the end of a break make of a link's record (R157, R158, R169). -/
inductive LinkRow (r : LinkRecord) : LinkRecord → Prop
  | discards : LinkRow r r.discard
  | keeps (b : Byte) (frame : List Byte) (kept : r.receive b = .keep frame) :
      LinkRow r { r with state := .receiving, frame := frame }
  | sends : LinkRow r r.sent
  | leavesBreak (broken : r.state = .inBreak) : LinkRow r { r with state := .listening }

/-- What a command does to a state: the operation of the block that takes it, with what held when it came to that. -/
inductive Deed (c : Instr) (s : State) : State → Prop
  | nothing : Deed c s s
  | powerOn : Deed c s { State.reset with pending := s.pending, freeCount := s.freeCount }
  | load (read : ImageRead) (row : c = .loadEnd read) (loading : s.isLoading = true) :
      Deed c s (startUp s (loadedFrom read))
  | control (inp : ControlInputs) : Deed c s (controlStep s inp)
  | fan (f : Side) (x : FanRecord) (row : FanRow s.settings f (s.fans.get f) x) : Deed c s (handFan s f x)
  | pulse (f : Side) :
      Deed c s { s with fans := s.fans.set f { s.fans.get f with pulses := (s.fans.get f).pulses + 1 } }
  | airProbe (n : AirProbe) (p : ProbeRecord) : Deed c s (handAirProbe s n p)
  | heater (on : Bool) : Deed c s { s with frost := { s.frost with heaterOn := on } }
  | filterProbe (f : Side) (x : FilterRecord) (row : FilterRow (s.filters.records.get f) x) :
      Deed c s (handFilterProbe s f x)
  | frost (loaded : s.isLoading = false) : Deed c s (frostStep s)
  | frostMove (m : FrostMove) (row : FrostRow s.settings s.frost.record (s.frost.probes.get .oda).healthy? m) :
      Deed c s (takeFrostMove s m)
  | gap : Deed c s (setFrost s s.frost.record.countGap)
  | travel : Deed c s { s with damper := s.damper.travel s.op.bypassOpen }
  | minute : Deed c s (minuteTick s)
  | expiry : Deed c s (demandMinute s)
  | hour : Deed c s (logMinute s)
  | rebaseline (n : Zone) (boosting : (s.humidity.zones.get n).state = .boosting) :
      Deed c s (applyZoneMove s n (rebaseline (s.humidity.zones.get n)))
  | zoneStale (n : Zone) (typed : (s.humidity.zones.get n).zoneType ≠ .unused) :
      Deed c s (applyZoneMove s n (zoneFailed (s.humidity.zones.get n)))
  | extractStale (third : s.humidity.extract.failures = 2) : Deed c s (extractOutcome s none)
  | handover : Deed c s (handOverFields { s with filters := { s.filters with hourTicks := 0 } })
  | filterStep : Deed c s (filterStep s)
  | procedure : Deed c s (procedureSecond s)
  | scan (loaded : s.isLoading = false) : Deed c s (scanRound s)
  | window (x y : Transaction) (flight : s.bus.transaction = some x) (same : y.originator = x.originator)
      (fits : x.reply.length < 8 → y.reply.length < 8) :
      Deed c s (setBus s { s.bus with transaction := some y })
  | ends (o : BusOutcome) : Deed c s (endTransaction s o)
  | link (l : Link) (r : LinkRecord) (row : LinkRow (s.links.get l) r) : Deed c s (setLink s l r)
  | reset (l : Link) : Deed c s (resetLink s l)
  | answers (l : Link) (tag kind : Byte) (r : Request) (loaded : s.isLoading = false) :
      Deed c s (reply l tag kind (answer s l r))
  | turnsAway (l : Link) (tag kind : Byte) (code : ResultCode) : Deed c s (onlyReply s l tag kind code [])
  | writes : Deed c s { s with store := s.store.startWrite }
  | written (state : StoreState) (stays : state = .loading → s.isLoading = true) :
      Deed c s { s with store := s.store.endWrite state }
  | rewritten (state : StoreState) (stays : state = .loading → s.isLoading = true) :
      Deed c s (raise { s with store := s.store.endWrite state } .storeState)

/-! ### Every command comes to one of them -/

/-- The state a command leaves. -/
def after (c : Instr) (s : State) : State :=
  match exec c s with
  | .next t => t
  | .fault _ | .refused _ => s

/-- No command stops the part: each answers a next state. -/
theorem exec_eq (c : Instr) (s : State) : exec c s = .next (after c s) := by cases c <;> rfl

section
variable {c : Instr} {s t : State}

theorem Deed.ite {p : Prop} [Decidable p] (yes : p → Deed c s t) : Deed c s (if p then t else s) := by
  split
  next h => exact yes h
  next => exact .nothing

/-- A request judged is turned away, or answered by its owner (R159). -/
theorem Deed.serve (l : Link) (tag kind : Byte) (r : Request) : Deed c s (reply l tag kind (serve s l r)) := by
  unfold Machine.serve
  split
  next => exact .turnsAway ..
  next loaded =>
    split
    next => exact .turnsAway ..
    next => exact .answers l tag kind r (by simpa using loaded)

theorem Deed.takeRequest (l : Link) (tag : Byte) (r : Request) : Deed c s (takeRequest s l tag r) := .ite fun _ => .serve ..

theorem Deed.takeFrame (l : Link) (tag kind : Byte) (payload : List Byte) : Deed c s (takeFrame s l tag kind payload) := by
  unfold Machine.takeFrame serveFrame
  split
  next => exact .serve ..
  all_goals split <;> exact .turnsAway ..

theorem Deed.takeReplyByte {x : Transaction} (flight : s.bus.transaction = some x) (b : Byte) :
    Deed c s (takeReplyByte s x b) := by
  unfold Machine.takeReplyByte
  dsimp only
  split
  next => exact .ends _
  next few => exact .window x { x with reply := x.reply ++ [b] } flight rfl fun _ => by dsimp only; omega

theorem Bus.awaiting?_some {b : Bus} {x : Transaction} (h : b.awaiting? = some x) : b.transaction = some x := by
  unfold Bus.awaiting? at h
  split at h
  next y hy =>
    split at h
    next => rw [hy, h]
    next => cases h
  next => cases h

/-- A command spelling a request takes that request. -/
theorem after_request {l : Link} {tag : Byte} {r : Request} (h : requestOf c = some (l, tag, r)) (s : State) :
    after c s = takeRequest s l tag r := by
  cases c <;> cases h <;> rfl

theorem after_deed (c : Instr) (s : State) : Deed c s (after c s) := by
  cases h : requestOf c with
  | some x =>
    obtain ⟨l, tag, r⟩ := x
    exact after_request h s ▸ .takeRequest l tag r
  | none =>
    cases c with
    | powerOn => exact .powerOn
    | loadEnd read => exact .ite (.load read rfl)
    | controlStep inp => exact .control inp
    | fanRunningEntry f => exact .ite fun ⟨starting, _, target⟩ => .fan f _ (.entersRunning starting target)
    | fanStall f => exact .ite fun ⟨running, _⟩ => .fan f _ (.stalls running)
    | fanRetryStart f => exact .ite fun ⟨stalled, _⟩ => .fan f _ (.retries stalled)
    | fanRetryEnd f => exact .ite fun ⟨retrying, _⟩ => .fan f _ (.endsRetry retrying)
    | shortfallSet f => exact .ite fun _ => .fan f _ .judgesShortfall
    | shortfallCleared f => exact .ite fun _ => .fan f _ .judgesShortfall
    | attemptCountReset f => exact .ite fun ⟨running, _⟩ => .fan f _ (.countsRun running)
    | flowProbeFault f => exact .ite fun _ => .fan f _ .losesProbe
    | flowProbeRecover f p => exact .ite fun _ => .fan f _ (.regainsProbe p)
    | tempProbeFault n => exact .ite fun _ => .airProbe n _
    | tempProbeRecover n v => exact .ite fun _ => .airProbe n _
    | preheaterBurstOff => exact .heater _
    | filterProbeFault f => exact .ite fun _ => .filterProbe f _ .losesProbe
    | filterProbeRecover f p => exact .ite fun ⟨_, _, good⟩ => .filterProbe f _ (.regainsProbe p good)
    | frostStep =>
      show Deed _ s (if s.isLoading then s else frostStep s)
      split
      next => exact .nothing
      next loaded => exact .frost (by simpa using loaded)
    | thawSuccess =>
      show Deed _ s (match (s.frost.probes.get .eha).healthy? with | none => s | some v => _)
      split
      next => exact .nothing
      next v _ => exact .ite fun ⟨thaw, _⟩ => .frostMove _ (.success thaw v)
    | thawTimeout =>
      show Deed _ s (match (s.frost.probes.get .eha).healthy? with | none => s | some v => _)
      split
      next => exact .nothing
      next v _ => exact .ite fun ⟨thaw, warming, _⟩ => .frostMove _ (.timeout thaw v (by omega))
    | thawGapElapsed => exact .ite fun _ => .gap
    | lockoutRelease => exact .ite fun ⟨lockout, _⟩ => .frostMove _ (.release lockout)
    | blindPhaseEnd => exact .ite fun ⟨blind, _⟩ => .frostMove _ (.turn blind)
    | travelSecond => exact .travel
    | damperTravelEnd =>
      show Deed _ s { s with damper := if s.damper.atEnd then s.damper.travel s.op.bypassOpen else s.damper }
      split
      next => exact .travel
      next => exact .nothing
    | minuteTick => exact .minute
    | entryExpiry =>
      show Deed _ s (if s.table.spent.isEmpty then s else demandMinute s)
      split
      next => exact .nothing
      next => exact .expiry
    | hourlyRecord => exact .ite fun _ => .hour
    | boostRebaseline n =>
      exact .ite fun spent => .rebaseline n (by
        unfold boostSpent at spent
        simp only [Bool.and_eq_true, beq_iff_eq] at spent
        exact spent.1)
    | filterFieldsHandover => exact .ite fun _ => .handover
    | filterStep =>
      show Deed _ s (if s.isLoading then s else filterStep s)
      split
      next => exact .nothing
      next => exact .filterStep
    | procedureSecond => exact .procedure
    | flowCheck =>
      show Deed _ s (match s.runner.procedure with | .settling owner sel 89 => takeFlowCheck s owner sel | _ => s)
      split
      next owner sel h => exact procedureSecond_checks h ▸ .procedure
      next => exact .nothing
    | procedureSample =>
      show Deed _ s (match s.runner.procedure with
        | .measuring owner sel n taken => if (n + 1) % 10 = 0 then takeSample s owner sel (n + 1) taken else s
        | _ => s)
      split
      next owner sel n taken h => exact .ite fun tenth => procedureSecond_samples h tenth ▸ .procedure
      next => exact .nothing
    | scanRound =>
      show Deed _ s (if s.isLoading then s else scanRound s)
      split
      next => exact .nothing
      next loaded => exact .scan (by simpa using loaded)
    | requestSent =>
      show Deed _ s (match s.bus.transaction with
        | some x => if x.phase = .sending then _ else s
        | none => s)
      split
      next x flight => exact .ite fun _ => .window x { x with phase := .awaiting } flight rfl id
      next => exact .nothing
    | busReply b =>
      show Deed _ s (match s.bus.awaiting? with | none => s | some x => _)
      split
      next => exact .nothing
      next => exact .ite fun _ => .ends _
    | busFramingError =>
      show Deed _ s (match s.bus.awaiting? with
        | none => s
        | some x => if x.reply = [] then s else endTransaction s .corrupt)
      split
      next => exact .nothing
      next =>
        split
        next => exact .nothing
        next => exact .ends _
    | busReplyTimeout =>
      show Deed _ s (match s.bus.awaiting? with | none => s | some _ => endTransaction s .timeout)
      split
      next => exact .nothing
      next => exact .ends _
    | sensorStale n =>
      cases n with
      | zone n => exact .ite fun ⟨_, typed⟩ => .zoneStale n typed
      | extract => exact .ite .extractStale
    | frameGapTimeout l => exact .ite fun _ => .link l _ .discards
    | frameDiscarded l item => exact .ite fun _ => .link l _ .discards
    | replySent l => exact .link l _ .sends
    | linkReset l => exact .reset l
    | breakEnd l => exact .ite fun broken => .link l _ (.leavesBreak broken)
    | writeBehindStart =>
      show Deed _ s { s with store := if s.store.startDue then s.store.startWrite else s.store }
      split
      next => exact .writes
      next => exact .nothing
    | imageWriteEnd acked readBack =>
      refine .ite fun _ => ?_
      split
      next =>
        split
        next => exact .rewritten _ fun h => by cases loaded : s.store.loadedAs <;> simp [loaded, loadedState] at h
        next => exact .written _ fun h => isLoading_def s h
      next => exact .rewritten _ (by rintro ⟨⟩)
    | linkByteReceived l b =>
      show Deed _ s (match (s.links.get l).receive b with
        | .disregard => s
        | .discard => setLink s l (s.links.get l).discard
        | .keep frame => setLink s l { s.links.get l with state := .receiving, frame := frame }
        | .complete tag kind payload => takeFrame s l tag kind payload)
      split
      next => exact .nothing
      next => exact .link l _ .discards
      next frame kept => exact .link l _ (.keeps b frame kept)
      next => exact .takeFrame ..
    | busReplyByte b =>
      show Deed _ s (match s.bus.awaiting? with | none => s | some x => _)
      split
      next => exact .nothing
      next x awaiting =>
        have flight := Bus.awaiting?_some awaiting
        split
        next => exact .ite fun _ => .window x { x with reply := [b] } flight rfl fun _ => by simp
        next => exact .takeReplyByte flight b
    | tachPulse f => exact .pulse f
    | unknownRequestKind l tag kind payload => exact .ite fun _ => .takeFrame ..
    | _ => cases h

end

/-! ### Every request comes to one of them -/

/-- What the owner of a request does to a state (R160), with what its checks have found. -/
inductive Served (s : State) (l : Link) : State → Prop
  | nothing : Served s l s
  | empties : Served s l (emptyPending s l)
  | posts (slot : Fin 16) (want : Want) (duration : Half) (level : ∀ v, want.level? = some v → v ≤ 1200)
      (quota : s.table.holding l < 5) (free : s.table.freeShared? = some slot) :
      Served s l (placePost s l slot want duration)
  | withdraws (slot : Fin 16) (e : Entry) (live : s.table.live? slot = some e) (own : e.source = .link l) :
      Served s l (notice { s with table := s.table.vacate slot })
  | sets (k : Key) (v : Int) (free : procedureKey k = true → s.runner.procedure.isRunning = false) :
      Served s l (storeKey s k (storedValue s.settings k v) l)
  | setsThresholds (v : Vector Half 7) (ordered : (thresholdsOf v).ordered = true) :
      Served s l (groupStored (storeTable s { s.settings with thresholds := thresholdsOf v }) thresholdGroup l)
  | setsEventMap (v : Vector Byte 14) (allowed : mapAllowed (eventMapOf v) = true) :
      Served s l
        (groupStored (prunePending (storeTable s { s.settings with eventMap := eventMapOf v })) eventMapGroup l)
  | starts (sel : Selection) (passed : startCheck s sel = .ok) : Served s l (startProcedure s l sel)
  | aborts : Served s l (abortProcedure s .abortedRequest)
  | clearsFan (f : Side) (failed : (s.fans.get f).state = .failed) : Served s l (handFan s f (s.fans.get f).clear)
  | clearsPreheater : Served s l (raise (setFrost s { s.frost.record with fault := false }) .preheaterFault)
  | clearsLockout (lockout : s.frost.record.stage = .lockout) :
      Served s l (takeFrostMove s (s.frost.record.clearLockout s.settings).move)
  | setsTime (c : Word) : Served s l (setTime s l c)
  | queues (req : BusRequest) (free : s.bus.pass.get l = .idle ∨ ∃ q o, s.bus.pass.get l = .done q o) :
      Served s l (queuePass s l req)
  | fetches (req : BusRequest) (o : BusOutcome) (done : s.bus.pass.get l = .done req o) :
      Served s l (setBus s { s.bus with pass := s.bus.pass.set l .idle })
  | readsLog (n : Byte) : Served s l (answerLogRead s n).state
  | releasesLog (n : Byte) : Served s l (answerLogRelease s n).state
  | rewindsLog : Served s l (setLog s s.log.rewind)

section
variable (s : State) (l : Link)

theorem postWant_level {kind : Byte} {level : Half} {want : Want} (h : postWant kind level = some want) :
    ∀ v, want.level? = some v → v ≤ 1200 := by
  unfold postWant at h
  split at h
  next => cases h; rintro v ⟨⟩; exact Nat.min_le_right ..
  next => cases h; rintro v ⟨⟩; exact Nat.min_le_right ..
  next => cases h; rintro v ⟨⟩
  next => cases h

theorem Served.post (kind : Byte) (level duration : Half) : Served s l (answerPost s l kind level duration).state := by
  unfold answerPost
  split
  next => exact .nothing
  next want asked =>
    split
    next => exact .nothing
    next quota =>
      split
      next => exact .nothing
      next slot free => exact .posts slot want duration (postWant_level asked) (by omega) free

theorem Served.withdraw (h : Byte) : Served s l (answerWithdraw s l h).state := by
  unfold answerWithdraw
  dsimp only
  split
  next => exact .nothing
  next e live =>
    split
    next => exact .nothing
    next =>
      split
      next own => exact .withdraws _ e live own
      next => exact .nothing

theorem Served.set (code : Byte) (w : Word) : Served s l (answerSet s l code w).state := by
  unfold answerSet
  split
  next => exact .nothing
  next k _ =>
    split
    next => exact .nothing
    next =>
      split
      next => exact .nothing
      next =>
        split
        next => exact .nothing
        next busy =>
          unfold acceptSet
          dsimp only [Answer.ok]
          split
          next => exact .nothing
          next => exact .sets k _ fun held => by simpa using fun running => busy ⟨held, running⟩

theorem Served.probe (a c r : Byte) : Served s l (answerProbe s l a c r).state := by
  unfold answerProbe
  split
  next => exact .nothing
  next req _ =>
    split
    next idle => exact .queues req (.inl idle)
    next q o done => exact .queues req (.inr ⟨q, o, done⟩)
    next => exact .nothing
    next => exact .nothing

theorem Served.clearFan (f : Side) : Served s l (answerClearFan s f).state := by
  unfold answerClearFan
  split
  next failed => exact .clearsFan f failed
  all_goals exact .nothing

/-- What the owner of a request does (R160). -/
theorem answer_served (r : Request) : Served s l (answer s l r).state := by
  cases r with
  | events => exact .empties
  | post k level duration => exact .post ..
  | withdraw h => exact .withdraw ..
  | get c =>
    show Served s l (answerGet s c).state
    unfold answerGet
    split <;> exact .nothing
  | set c v => exact .set ..
  | setThresholds v =>
    show Served s l (answerSetThresholds s l v).state
    unfold answerSetThresholds
    split
    next ordered => exact .setsThresholds v ordered
    next => exact .nothing
  | setEventMap v =>
    show Served s l (answerSetEventMap s l v).state
    unfold answerSetEventMap
    split
    next allowed => exact .setsEventMap v allowed
    next => exact .nothing
  | start sel =>
    show Served s l (answerStart s l sel).state
    unfold answerStart
    split
    next => exact .nothing
    next sel _ =>
      split
      next passed => exact .starts sel passed
      next => exact .nothing
  | abort =>
    show Served s l (answerAbort s l).state
    unfold answerAbort
    split
    next => exact .nothing
    next =>
      split
      next => exact .aborts
      next => exact .nothing
  | clearFan f => exact .clearFan ..
  | clearPreheater =>
    show Served s l (answerClearPreheater s).state
    unfold answerClearPreheater
    split
    next => exact .clearsPreheater
    next => exact .nothing
  | clearFrostLockout =>
    show Served s l (answerClearLockout s).state
    unfold answerClearLockout
    split
    next lockout => exact .clearsLockout lockout
    next => exact .nothing
  | time c =>
    show Served s l (answerTime s l c).state
    unfold answerTime
    split
    next => exact .setsTime c
    next => exact .nothing
  | probe a c r => exact .probe ..
  | fetch =>
    show Served s l (answerFetch s l).state
    unfold answerFetch
    split
    next => exact .nothing
    next => exact .nothing
    next => exact .nothing
    next req o done => exact .fetches req o done
  | logRead n => exact .readsLog n
  | logRelease n => exact .releasesLog n
  | logRewind => exact .rewindsLog
  | _ => exact .nothing

end

/-- What a step does: one second on an empty queue, or the deed of the command at its front. -/
theorem step_cases {s t : State} (h : step s = .next t) :
    s.pending = [] ∧ t = tickSecond s ∨
      ∃ c rest, s.pending = c :: rest ∧ Deed c { s with pending := rest } t := by
  unfold step at h
  split at h
  next empty => cases h; exact .inl ⟨empty, rfl⟩
  next c rest front =>
    rw [exec_eq] at h
    cases h
    exact .inr ⟨c, rest, front, after_deed c _⟩

end Sys2Proof.Machine
end

section
/-! PROOFS. The resolver's recompute taken apart by its stages: the flow the frost guard asks for, the limit of
depressurisation, the cuts of the fan faults, and the relations the targets then stand in (R27 to R36). -/

namespace Sys2Proof.Machine

/-! ### Reading the inputs -/

theorem FanState.faulted_eq (x : FanState) :
    x.faulted = decide (x = .stalled ∨ x = .retrying ∨ x = .failed) := by cases x <;> rfl

theorem FilterState.caps_eq (x : FilterState) : x.caps = decide (x = .overdue ∨ x = .blocked) := by
  cases x <;> rfl

theorem Procedure.isRunning_eq (p : Procedure) : p.isRunning = decide (p ≠ .idle) := by cases p <;> rfl

/-! ### The stages of the targets (R32 to R35) -/

/-- The frost guard holds supply at 0: THAW, LOCKOUT and BLIND's thaw phase (R33). -/
def FrostRecord.holds (g : FrostRecord) : Bool :=
  decide (g.stage = .thaw ∨ g.stage = .lockout ∨ (g.stage = .blind ∧ g.blindPhase = some .thaw))

/-- The frost guard shapes supply by its ratio: UNBALANCE and the rest of BLIND (R33). -/
def FrostRecord.shapes (g : FrostRecord) : Bool :=
  decide (g.stage = .unbalance ∨ (g.stage = .blind ∧ g.blindPhase ≠ some .thaw))

/-- The supply target the frost guard asks for, of a wanted flow (R33). -/
def FrostRecord.shaped (g : FrostRecord) (w : Nat) : Nat :=
  if g.holds then 0 else if g.shapes then w * (1000 - g.r) / 1000 else w

theorem frostShape_eq (g : FrostRecord) (w : Nat) : frostShape g w = (g.shaped w, g.shapes, g.holds) := by
  unfold frostShape FrostRecord.shaped FrostRecord.shapes FrostRecord.holds
  cases stage : g.stage with
  | blind => cases phase : g.blindPhase with
    | none => simp
    | some p => cases p <;> simp
  | _ => simp

theorem FrostRecord.shaped_le (g : FrostRecord) (w : Nat) : g.shaped w ≤ w := by
  unfold shaped
  split
  next => exact Nat.zero_le w
  next =>
    split
    next =>
      calc w * (1000 - g.r) / 1000 ≤ w * 1000 / 1000 := Nat.div_le_div_right (Nat.mul_le_mul_left w (Nat.sub_le ..))
        _ = w := Nat.mul_div_cancel w (by decide)
    next => exact Nat.le_refl w

section
variable (s : State)

/-- S before the fan faults cut it: `q_ref` in a procedure, and else what the frost guard asks for (R32, R33). -/
def suppliedFlow : Nat :=
  if s.runner.procedure.isRunning then s.settings.nat .qRef else s.frost.record.shaped (resolve s).w

/-- E before the fan faults cut it: W, but no more than `max_depressurisation` over S (R34). -/
def extractedFlow : Nat :=
  if s.runner.procedure.isRunning then s.settings.nat .qRef
  else min (resolve s).w (suppliedFlow s + s.settings.nat .maxDepressurisation)

theorem resolve_s :
    (resolve s).s = if (s.fans.get .supply).state.faulted || (s.fans.get .extract).state.faulted then 0
      else suppliedFlow s := by
  cases running : s.runner.procedure.isRunning <;>
    simp [resolve, resolveFlows, suppliedFlow, running, frostShape_eq]

theorem resolve_e :
    (resolve s).e = if (s.fans.get .extract).state.faulted then 0
      else if (s.fans.get .supply).state.faulted then min (extractedFlow s) (s.settings.nat .maxDepressurisation)
      else extractedFlow s := by
  cases running : s.runner.procedure.isRunning with
  | true => simp [resolve, resolveFlows, extractedFlow, running]
  | false =>
    have least : ∀ w a : Nat, (if a < w then a else w) = min w a := fun w a => by split <;> omega
    simp [resolve, resolveFlows, suppliedFlow, extractedFlow, running, frostShape_eq, least]

/-- The flags of stages 5 to 7 (R32 to R35). -/
theorem resolve_flags :
    (resolve s).flags.procedure = s.runner.procedure.isRunning ∧
    (resolve s).flags.frostUnbalance = (!s.runner.procedure.isRunning && s.frost.record.shapes) ∧
    (resolve s).flags.frostThaw = (!s.runner.procedure.isRunning && s.frost.record.holds) ∧
    (resolve s).flags.depressurisation =
      (!s.runner.procedure.isRunning && decide (suppliedFlow s + s.settings.nat .maxDepressurisation < (resolve s).w)) ∧
    (resolve s).flags.supplyFault = (s.fans.get .supply).state.faulted ∧
    (resolve s).flags.extractFault = (s.fans.get .extract).state.faulted := by
  cases running : s.runner.procedure.isRunning <;>
    simp [resolve, resolveFlows, suppliedFlow, running, frostShape_eq]

/-! ### The wanted flow (R28 to R31) -/

/-- Whether a filter caps the wanted flow (R31). -/
def State.capped (s : State) : Bool :=
  (s.filters.records.get .supply).state.caps || (s.filters.records.get .extract).state.caps

theorem resolve_b : (resolve s).b = (background s.settings s.table.entries).level := rfl

theorem resolve_w :
    (resolve s).w =
      if s.capped then
        min (min (wantedFlow (background s.settings s.table.entries) s.table.entries).1 (s.settings.nat .unitMax))
          (s.settings.nat .overdueCap)
      else min (wantedFlow (background s.settings s.table.entries) s.table.entries).1 (s.settings.nat .unitMax) := rfl

/-! ### The relations of the targets (R36) -/

theorem resolve_w_le : (resolve s).w ≤ s.settings.nat .unitMax := by
  rw [resolve_w]
  split <;> omega

variable {s}

theorem Settings.Ok.qRef_le {t : Settings} (ok : t.Ok) : t.nat .qRef ≤ t.nat .unitMax := by
  have := ok.refUnit
  unfold Settings.nat
  omega

theorem Settings.Ok.unitMax_le {t : Settings} (ok : t.Ok) : t.nat .unitMax ≤ 1200 := by
  have h := (ok.range .unitMax).2
  simp only [keyRange] at h
  unfold Settings.nat
  omega

theorem suppliedFlow_le_extractedFlow :
    suppliedFlow s ≤ extractedFlow s ∧
      extractedFlow s ≤ suppliedFlow s + s.settings.nat .maxDepressurisation := by
  have shaped := s.frost.record.shaped_le (resolve s).w
  unfold extractedFlow suppliedFlow
  split <;> omega

theorem extractedFlow_le (ok : s.settings.Ok) : extractedFlow s ≤ s.settings.nat .unitMax := by
  have ref := ok.qRef_le
  have wanted := resolve_w_le s
  unfold extractedFlow
  split <;> omega

theorem resolve_targets (ok : s.settings.Ok) :
    (resolve s).s ≤ (resolve s).e ∧ (resolve s).e ≤ (resolve s).s + s.settings.nat .maxDepressurisation ∧
      (resolve s).e ≤ s.settings.nat .unitMax := by
  obtain ⟨low, high⟩ := suppliedFlow_le_extractedFlow (s := s)
  have top := extractedFlow_le ok
  rw [resolve_s, resolve_e]
  cases (s.fans.get .supply).state.faulted <;> cases (s.fans.get .extract).state.faulted <;> simp <;> omega

theorem resolve_le (ok : s.settings.Ok) : (resolve s).s ≤ 1200 ∧ (resolve s).e ≤ 1200 := by
  obtain ⟨order, -, top⟩ := resolve_targets ok
  have := ok.unitMax_le
  omega

/-- In a procedure with no fan faulted both targets are `q_ref` (R32). -/
theorem resolve_procedure (running : s.runner.procedure.isRunning = true)
    (sound : ∀ f, (s.fans.get f).state.faulted = false) :
    (resolve s).s = s.settings.nat .qRef ∧ (resolve s).e = s.settings.nat .qRef := by
  simp [resolve_s, resolve_e, sound, suppliedFlow, extractedFlow, running]

end

end Sys2Proof.Machine

namespace Sys2Proof

open Machine

/-- Settles O15: S and E stage by stage, and the relations that follow from the stages. -/
theorem targetsStandInRelation : Obligations.TargetsStandInRelation := by
  refine ⟨fun s ok => ?relations, ?stages⟩
  case relations =>
    obtain ⟨order, depressurised, top⟩ := resolve_targets ok
    refine ⟨order, depressurised, top, fun idle stage => ?held, fun faulted => ?fault⟩
    case held =>
      have holds : s.frost.record.holds = true := decide_eq_true stage
      simp [resolve_s, suppliedFlow, idle, FrostRecord.shaped, holds]
    case fault =>
      have extract : (s.fans.get .extract).state.faulted = true := by
        rw [FanState.faulted_eq]
        exact decide_eq_true faulted
      simp [resolve_s, extract]
  case stages =>
    rintro s o g limit s6 e6 runs held shaped faulted rfl rfl rfl hruns hheld hshaped hfaulted hs6 he6
    rw [← Procedure.isRunning_eq] at hruns
    replace hheld : held = s.frost.record.holds := hheld
    replace hshaped : shaped = s.frost.record.shapes := hshaped
    have hfans : ∀ f, faulted f = (s.fans.get f).state.faulted := fun f => by rw [hfaulted, FanState.faulted_eq]
    have supplied : s6 = suppliedFlow s := by
      rw [hs6, hruns, hheld, hshaped]
      rfl
    have extracted : e6 = extractedFlow s := by
      rw [he6, hruns, supplied]
      rfl
    obtain ⟨procedure, unbalance, thaw, limited, supply, extract⟩ := resolve_flags s
    rw [supplied, extracted, hruns, hheld, hshaped, hfans .supply, hfans .extract]
    exact ⟨resolve_s s, resolve_e s, procedure, unbalance, thaw, limited, supply, extract⟩

end Sys2Proof
end

section
/-! PROOFS. The wanted flow by the entries of the table: the background and the handle it leaves, the largest RAISE over
it, and the caps (R28 to R31). -/

namespace Sys2Proof.Machine

/-! ### The levels of the entries (R4) -/

theorem Entry.raise?_eq_some {e : Entry} {v : Nat} : e.raise? = some v ↔ e.want = .raise v := by
  unfold Entry.raise?
  cases e.want <;> simp

theorem Entry.setback?_eq_some {e : Entry} {v : Nat} : e.setback? = some v ↔ e.want = .setback v := by
  unfold Entry.setback?
  cases e.want <;> simp

section
variable {es older newer : List Entry} {e : Entry} {level : Entry → Option Nat} {top : Nat}

theorem levels_max_none (h : ∀ e ∈ es, ∀ v, level e ≠ some v) : (es.filterMap level).max? = none := by
  rw [List.max?_eq_none_iff, List.filterMap_eq_nil_iff]
  exact fun e he => Option.eq_none_iff_forall_ne_some.mpr (h e he)

theorem levels_max_some (held : ∃ e ∈ es, level e = some top) (most : ∀ e ∈ es, ∀ v, level e = some v → v ≤ top) :
    (es.filterMap level).max? = some top := by
  rw [List.max?_eq_some_iff]
  refine ⟨List.mem_filterMap.mpr held, fun v hv => ?_⟩
  obtain ⟨e, he, h⟩ := List.mem_filterMap.mp hv
  exact most e he v h

/-- The oldest entry at a level. -/
theorem find_oldest (split : es = older ++ e :: newer) (here : level e = some top)
    (before : ∀ x ∈ older, level x ≠ some top) : es.find? (fun x => level x == some top) = some e := by
  rw [List.find?_eq_some_iff_append]
  refine ⟨by simpa using here, older, newer, split, fun x hx => ?_⟩
  simpa using before x hx

end

/-! ### The background (R28) -/

section
variable {t : Settings} {es older newer : List Entry} {e : Entry} {top : Nat}

theorem background_none (h : ∀ e ∈ es, ∀ v, e.want ≠ .setback v) :
    background t es =
      { level := max (t.nat .nominalFlow) (t.nat .healthMin)
        setbackApplied := false
        healthMin := decide (t.nat .nominalFlow < t.nat .healthMin)
        setBy := none } := by
  have none : (es.filterMap Entry.setback?).max? = none :=
    levels_max_none fun e he v hv => h e he v (Entry.setback?_eq_some.mp hv)
  simp only [background, none]

theorem background_some (most : ∀ e ∈ es, ∀ v, e.want = .setback v → v ≤ top) (split : es = older ++ e :: newer)
    (here : e.want = .setback top) (before : ∀ x ∈ older, x.want ≠ .setback top) :
    background t es =
      { level := max (min top (t.nat .nominalFlow)) (t.nat .healthMin)
        setbackApplied := decide (top < t.nat .nominalFlow)
        healthMin := decide (min top (t.nat .nominalFlow) < t.nat .healthMin)
        setBy :=
          if decide (top < t.nat .nominalFlow) = true ∧ decide (min top (t.nat .nominalFlow) < t.nat .healthMin) = false
          then some e.handle else none } := by
  have max : (es.filterMap Entry.setback?).max? = some top :=
    levels_max_some ⟨e, by simp [split], Entry.setback?_eq_some.mpr here⟩
      fun x hx v hv => most x hx v (Entry.setback?_eq_some.mp hv)
  have oldest : es.find? (fun x => x.setback? == some top) = some e :=
    find_oldest split (Entry.setback?_eq_some.mpr here)
      fun x hx h => before x hx (Entry.setback?_eq_some.mp h)
  have applied : (min top (t.nat .nominalFlow) < t.nat .nominalFlow) = (top < t.nat .nominalFlow) := by
    rw [eq_iff_iff]
    omega
  simp only [background, max, oldest, applied]
  simp

/-! ### The largest RAISE (R29) -/

variable {b : Background}

/-- Where no RAISE is above the background, the background stands. -/
theorem wantedFlow_background (h : ∀ e ∈ es, ∀ v, e.want = .raise v → v ≤ b.level) :
    wantedFlow b es = (b.level, b.setBy) := by
  unfold wantedFlow
  split
  next => rfl
  next top max =>
    obtain ⟨mem, -⟩ := List.max?_eq_some_iff.mp max
    obtain ⟨e, he, raise⟩ := List.mem_filterMap.mp mem
    have := h e he top (Entry.raise?_eq_some.mp raise)
    rw [if_neg (by omega)]

/-- A RAISE above the background is wanted at the largest level, for the oldest entry there. -/
theorem wantedFlow_raise (above : b.level < top) (most : ∀ e ∈ es, ∀ v, e.want = .raise v → v ≤ top)
    (split : es = older ++ e :: newer) (here : e.want = .raise top) (before : ∀ x ∈ older, x.want ≠ .raise top) :
    wantedFlow b es = (top, some e.handle) := by
  have max : (es.filterMap Entry.raise?).max? = some top :=
    levels_max_some ⟨e, by simp [split], Entry.raise?_eq_some.mpr here⟩
      fun x hx v hv => most x hx v (Entry.raise?_eq_some.mp hv)
  have oldest : es.find? (fun x => x.raise? == some top) = some e :=
    find_oldest split (Entry.raise?_eq_some.mpr here)
      fun x hx h => before x hx (Entry.raise?_eq_some.mp h)
  simp [wantedFlow, max, oldest, above]

theorem wantedFlow_level (most : ∀ e ∈ es, ∀ v, e.want = .raise v → v ≤ top) (low : b.level ≤ top)
    (reached : b.level = top ∨ ∃ e ∈ es, e.want = .raise top) : (wantedFlow b es).1 = top := by
  by_cases above : b.level < top
  · have held : ∃ e ∈ es, e.raise? = some top :=
      (reached.resolve_left (by omega)).imp fun e h => ⟨h.1, Entry.raise?_eq_some.mpr h.2⟩
    have max : (es.filterMap Entry.raise?).max? = some top :=
      levels_max_some held fun x hx v hv => most x hx v (Entry.raise?_eq_some.mp hv)
    simp [wantedFlow, max, above]
  · have same : b.level = top := by omega
    rw [wantedFlow_background fun e he v hv => by have := most e he v hv; omega, same]

end

/-! ### The recompute (R27 to R31) -/

section
variable (s : State)

theorem resolve_entryFlags :
    (resolve s).flags.setbackApplied = (background s.settings s.table.entries).setbackApplied ∧
      (resolve s).flags.healthMin = (background s.settings s.table.entries).healthMin := ⟨rfl, rfl⟩

theorem resolve_contributing :
    (resolve s).contributing = (wantedFlow (background s.settings s.table.entries) s.table.entries).2 := rfl

theorem resolve_capFlags {top : Nat}
    (wanted : (wantedFlow (background s.settings s.table.entries) s.table.entries).1 = top) :
    (resolve s).flags.unitMax = decide (s.settings.nat .unitMax < top) ∧
      (resolve s).flags.filterCap =
        (s.capped && decide (s.settings.nat .overdueCap < min top (s.settings.nat .unitMax))) := by
  have unit : (resolve s).flags.unitMax = decide (min top (s.settings.nat .unitMax) < top) := by rw [← wanted]; rfl
  have cap : (resolve s).flags.filterCap =
      decide ((if s.capped then min (min top (s.settings.nat .unitMax)) (s.settings.nat .overdueCap)
        else min top (s.settings.nat .unitMax)) < min top (s.settings.nat .unitMax)) := by rw [← wanted]; rfl
  have lowered : ∀ a b : Nat, (min a b < a) = (b < a) := fun a b => by
    rw [eq_iff_iff]
    omega
  rw [unit, cap]
  cases s.capped with
  | true => simp only [lowered, ↓reduceIte, Bool.true_and, and_self]
  | false => simp [lowered]

theorem background_floor : s.settings.nat .healthMin ≤ (resolve s).b := by
  rw [resolve_b]
  unfold background
  dsimp only
  split <;> exact Nat.le_max_right ..

theorem wantedFlow_ge (b : Background) (es : List Entry) : b.level ≤ (wantedFlow b es).1 := by
  unfold wantedFlow
  split
  next => exact Nat.le_refl _
  next =>
    split
    next h => exact Nat.le_of_lt h
    next => exact Nat.le_refl _

/-- The flow keys in the order of their relations (R182). -/
theorem Settings.Ok.healthMin_le {t : Settings} (ok : t.Ok) :
    t.nat .healthMin ≤ t.nat .unitMax ∧ t.nat .healthMin ≤ t.nat .overdueCap := by
  have nominal := ok.healthNominal
  have unit := ok.nominalUnit
  have cap := ok.healthCap
  unfold Settings.nat
  omega

theorem resolve_w_ge (ok : s.settings.Ok) : s.settings.nat .healthMin ≤ (resolve s).w := by
  have floor := background_floor s
  have wanted := wantedFlow_ge (background s.settings s.table.entries) s.table.entries
  obtain ⟨unit, cap⟩ := ok.healthMin_le
  rw [resolve_b] at floor
  rw [resolve_w]
  split <;> omega

end

end Sys2Proof.Machine

namespace Sys2Proof

open Machine

/-- Settles O16: the background and the largest RAISE by the levels held, then the caps; the handle is that of the oldest
entry found at the level that decides. -/
theorem wantedFlowFollowsTheEntries : Obligations.WantedFlowFollowsTheEntries := by
  refine ⟨fun s capped ok hcapped top most low reached => ?wanted, ?entries⟩
  case wanted =>
    have caps : capped = s.capped := by
      simp [hcapped, State.capped, FilterState.caps_eq, Bool.or_assoc]
    have level := wantedFlow_level (b := background s.settings s.table.entries) most low reached
    obtain ⟨unit, cap⟩ := resolve_capFlags s level
    have w := resolve_w s
    rw [level] at w
    exact ⟨caps ▸ w, unit, caps ▸ cap, resolve_w_ge s ok, resolve_w_le s⟩
  case entries =>
    rintro s es o rfl rfl
    obtain ⟨applied, floored⟩ := resolve_entryFlags s
    refine ⟨fun none => ?none, fun level most older e newer split here before => ?setback,
      fun level above most older e newer split here before => ?raise⟩
    case none =>
      have back := background_none (t := s.settings) none
      refine ⟨by rw [resolve_b, back], by rw [applied, back], by rw [floored, back], fun quiet => ?_⟩
      rw [resolve_contributing, wantedFlow_background quiet, back]
    case setback =>
      have back := background_some (t := s.settings) most split here before
      refine ⟨by rw [resolve_b, back], by rw [applied, back], by rw [floored, back], fun quiet => ?_⟩
      rw [resolve_contributing, wantedFlow_background quiet, applied, floored, back]
      rfl
    case raise =>
      rw [resolve_contributing, wantedFlow_raise above most split here before]
      rfl

end Sys2Proof
end

section
/-! PROOFS. The queue, the second of an empty queue, power-on and the write-behind (R98, R166, R183 to R185). -/

namespace Sys2Proof.Machine

/-! ### The queue -/

section
variable (s : State)

theorem answer_pending (l : Link) (r : Request) : (answer s l r).state.pending = s.pending := by
  cases r with
  | post k level duration => simp only [answer, answerPost]; (repeat' split) <;> simp [placePost]
  | withdraw h => simp only [answer, answerWithdraw]; (repeat' split) <;> simp
  | get c => simp only [answer, answerGet]; split <;> simp
  | set c v => simp only [answer, answerSet, acceptSet]; (repeat' split) <;> simp
  | setThresholds v => simp only [answer, answerSetThresholds]; split <;> simp [groupStored, storeTable]
  | setEventMap v => simp only [answer, answerSetEventMap]; split <;> simp [groupStored, prunePending, storeTable]
  | start sel => simp only [answer, answerStart]; (repeat' split) <;> simp
  | abort => simp only [answer, answerAbort]; (repeat' split) <;> simp
  | clearFan f => simp only [answer, answerClearFan]; split <;> simp
  | clearPreheater => simp only [answer, answerClearPreheater]; split <;> simp
  | clearFrostLockout => simp only [answer, answerClearLockout]; split <;> simp
  | time c => simp only [answer, answerTime]; split <;> simp
  | probe a c r => simp only [answer, answerProbe]; (repeat' split) <;> simp [queuePass, grant]
  | fetch => simp only [answer, answerFetch]; split <;> simp
  | _ => rfl

theorem Deed.pending {c : Instr} {s t : State} (h : Deed c s t) : t.pending = s.pending := by
  cases h with
  | answers l tag kind r loaded => exact answer_pending s l r
  | _ => simp [onlyReply]

/-! ### One second (R98, R166, R184) -/

theorem timeSecond_time :
    (timeSecond s).time =
      if s.time.seconds < 59 then { s.time with seconds := s.time.seconds + 1 }
      else { s.time with minutes := s.time.minutes + 1#32, seconds := 0 } := by
  unfold timeSecond
  by_cases h : s.time.seconds < 59
  · rw [if_neg (by omega), if_pos h]
  · rw [if_pos (by omega), if_neg h, minuteTick_time]
    rfl

theorem timeSecond_store (h : s.time.seconds < 59) : (timeSecond s).store = s.store := by
  unfold timeSecond
  rw [if_neg (by omega)]

theorem roundSecond_loading (loading : s.isLoading = true) : roundSecond s = s := if_pos loading

theorem roundSecond_roundCount (loaded : s.isLoading = false) :
    (roundSecond s).bus.roundCount =
      if s.settings.nat .scanPeriod ≤ s.bus.roundCount + 1 then 0 else s.bus.roundCount + 1 := by
  unfold roundSecond
  rw [loaded]
  split
  next h => cases h
  next => split <;> simp [setBus]

theorem tickSecond_bus : (tickSecond s).bus = (roundSecond (timeSecond s)).bus := rfl

theorem tickSecond_store : (tickSecond s).store = (timeSecond s).store.second := by simp [tickSecond]

end

section
variable {t : Store}

theorem Store.second_unchanged (h : t.changed = false) : t.second = t := by simp [second, startDue, h]

theorem Store.second_writing (changed : t.changed = true) (writing : t.writing = true) :
    t.second = { t with quiet := min (t.quiet + 1) 5 } := by
  simp [second, startDue, changed, writing]

theorem Store.second_waits (changed : t.changed = true) (writing : t.writing = false) :
    t.second.quiet = min (t.quiet + 1) 5 ∧ t.second.writing = (t.urgent || decide (4 ≤ t.quiet)) := by
  have due : (min (t.quiet + 1) 5 == 5) = decide (4 ≤ t.quiet) := by
    rw [Bool.beq_eq_decide_eq, decide_eq_decide]
    omega
  cases urgent : t.urgent <;> by_cases long : 4 ≤ t.quiet <;>
    simp [second, startDue, startWrite, changed, writing, urgent, due, long]

end

/-! ### The write-behind (R184, R185) -/

theorem exec_imageWriteEnd {s : State} (writing : s.store.writing = true) (acked : Bool) (readBack : List Byte) :
    exec (.imageWriteEnd acked readBack) s = .next
      (if acked = true ∧ readBack = s.store.image then
        if s.store.state = .fault then
          raise { s with store := s.store.endWrite (loadedState s.store.loadedAs) } .storeState
        else { s with store := s.store.endWrite s.store.state }
      else raise { s with store := s.store.endWrite .fault } .storeState) :=
  congrArg Host.Outcome.next (if_pos writing)

end Sys2Proof.Machine

namespace Sys2Proof

open Machine

/-- Settles O1: the definition of a step on a queue that is not empty. -/
theorem stepTakesTheFrontCommand : Obligations.StepTakesTheFrontCommand := by
  intro c rest s front
  unfold step
  rw [front]

/-- Settles O3: each command answers the state it leaves, and no deed touches the queue. -/
theorem everyCommandAnswersAndKeepsTheQueue : Obligations.EveryCommandAnswersAndKeepsTheQueue :=
  fun c s => ⟨after c s, exec_eq c s, (after_deed c s).pending⟩

/-- Settles O2: the second of the time base, of the round count and of the quiet count, each on what the one before it
leaves. -/
theorem emptyQueueCountsOneSecond : Obligations.EmptyQueueCountsOneSecond := by
  intro s empty
  have stepped : step s = .next (tickSecond s) := by
    unfold step
    rw [empty]
  have bus : (timeSecond s).bus = s.bus := timeSecond_bus s
  refine ⟨tickSecond s, stepped, by simp [empty], ?time, fun loading => ?loading, fun loaded => ?round,
    fun unchanged early => ?unchanged, fun changed early writing => ?writing, fun changed early waits => ?waits⟩
  case time =>
    rw [← timeSecond_time]
    simp [tickSecond]
  case loading => rw [tickSecond_bus, roundSecond_loading _ (by simpa using loading), bus]
  case round =>
    rw [tickSecond_bus, roundSecond_roundCount _ (by simpa using loaded), bus]
    simp
  all_goals rw [tickSecond_store, timeSecond_store s early]
  case unchanged => exact Store.second_unchanged unchanged
  case writing => exact Store.second_writing changed writing
  case waits => exact Store.second_waits changed waits

/-- Settles O20: power-on is the reset state, field by field. -/
theorem powerOnResetsEveryBlock : Obligations.PowerOnResetsEveryBlock := by
  refine fun s => ⟨_, rfl, rfl, rfl, rfl, rfl, rfl, rfl, rfl, rfl, rfl, rfl, fun l => ?_⟩
  cases l <;> exact ⟨rfl, rfl⟩

/-- Settles O22: the start condition as the store reads it, and the three ways a write ends. -/
theorem writeBehindWritesTheImage : Obligations.WriteBehindWritesTheImage := by
  refine ⟨fun s idle changed due => ?starts, fun acked readBack s writing => ?ends⟩
  case starts =>
    have starts : s.store.startDue = true := by simpa [Store.startDue, idle, changed] using due
    exact congrArg (fun st => Host.Outcome.next { s with store := st }) (if_pos starts)
  case ends =>
    refine ⟨_, exec_imageWriteEnd writing acked readBack, ?_⟩
    by_cases good : acked = true ∧ readBack = s.store.image
    · have kinds : (acked = true ∧ readBack = s.store.image ∧ s.store.state ≠ .fault) ↔ s.store.state ≠ .fault :=
        ⟨fun h => h.2.2, fun h => ⟨good.1, good.2, h⟩⟩
      by_cases fault : s.store.state = .fault
      · rw [if_pos good, if_pos good, if_pos fault, if_pos fault, if_neg (mt kinds.mp (not_not_intro fault))]
        exact ⟨rfl, (Delivered.raise _ .storeState rfl).congr rfl rfl, rfl⟩
      · rw [if_pos good, if_pos good, if_neg fault, if_neg fault, if_pos (kinds.mpr fault)]
        exact ⟨rfl, Delivered.of_links rfl, rfl⟩
    · rw [if_neg good, if_neg good, if_neg fun h => good ⟨h.1, h.2.1⟩]
      exact ⟨rfl, (Delivered.raise _ .storeState rfl).congr rfl rfl, rfl⟩

end Sys2Proof
end

section
/-! PROOFS. The state after power-on, block by block: what every invariant starts from (section 5.5 of the opening
chapter, R24, R39, R62, R91, R109, R133, R155, R156, R180). -/

namespace Sys2Proof.Machine

/-! ### The default table (R72, R165, R181) -/

/-- Each key of the default table holds its default. -/
theorem defaultSettings_get (k : Key) : defaultSettings.get k = keyDefault k := by
  obtain ⟨i, place⟩ := List.getElem?_of_mem (mem_allKeys k)
  have inside : i < 63 := (List.getElem?_eq_some_iff.mp place).1
  have index : (keyPlace k).val = i := keyPlace_of_allKeys ⟨i, inside⟩ k place
  show (Vector.ofFn _)[(keyPlace k).val] = _
  simp only [Vector.getElem_ofFn, index, place]
  rfl

theorem keyDefault_range (k : Key) : (keyRange k).1 ≤ keyDefault k ∧ keyDefault k ≤ (keyRange k).2 := by
  cases k with
  | zone z k => cases z <;> cases k <;> decide
  | _ => decide

theorem defaultSettings_ok : defaultSettings.Ok := by
  constructor
  case range => exact fun k => by rw [defaultSettings_get]; exact keyDefault_range k
  case boostOrder => exact fun z => by simp only [defaultSettings_get]; cases z <;> decide
  case thresholds => decide
  all_goals simp only [defaultSettings_get]; decide

theorem defaultSettings_accepted : defaultSettings.GroupsAccepted := ⟨by decide, by decide⟩

/-! ### The records of the blocks -/

theorem LinkRecord.reset_ok : LinkRecord.reset.Ok where
  attention := rfl
  marks := rfl
  expired := Nat.zero_le 4
  receiving := nofun
  otherwise := fun _ => rfl

theorem Log.reset_ok : Log.reset.Ok := by constructor <;> decide

theorem Damper.reset_ok : Damper.reset.Ok := by constructor <;> decide

theorem FanRecord.reset_ok : FanRecord.reset.Ok := by constructor <;> decide

theorem FrostRecord.reset_ok : FrostRecord.reset.Ok := by constructor <;> decide

theorem DemandTable.reset_ok : DemandTable.reset.Ok where
  distinct := List.nodup_nil
  each := fun _ he => by cases he
  holding := fun _ => Nat.zero_le 5

theorem zoneOk_reset (n : Zone) : ZoneOk State.reset n := by
  constructor <;> cases n <;> decide

theorem Bus.reset_ok : Bus.reset.Ok defaultSettings where
  credit := Nat.le_refl _
  scanQueue := List.nodup_nil
  passQueue := List.nodup_nil
  reply := fun _ hx => by cases hx
  pass := fun l => by cases l <;> exact ⟨List.not_mem_nil, fun _ hx => by cases hx⟩

theorem FilterRecord.reset_ok : FilterRecord.reset.Ok := by
  constructor
  case clean | smoothed | lastGood => exact fun _ h => by cases h
  all_goals decide

end Sys2Proof.Machine

namespace Sys2Proof

open Machine

/-- Settles O14: the reset record of each block meets that block's invariant. -/
theorem resetMeetsTheInvariants : Obligations.ResetMeetsTheInvariants :=
  ⟨defaultSettings_ok, defaultSettings_accepted, fun l => by cases l <;> exact LinkRecord.reset_ok, Log.reset_ok,
    Damper.reset_ok, DemandTable.reset_ok, zoneOk_reset, Bus.reset_ok, fun f => by cases f <;> exact FanRecord.reset_ok,
    FrostRecord.reset_ok, fun f => by cases f <;> exact FilterRecord.reset_ok, trivial, nofun, rfl, rfl,
    Nat.zero_le _, Nat.zero_le _⟩

end Sys2Proof
end

section
/-! PROOFS. What the blocks' shared operations keep of the records that any of them may write: the settings table, the
link records, the log, the targets and the damper (R25, R39, R163, R173, R182). Each operation is followed once, through
the operations it is made of. -/

namespace Sys2Proof.Machine

/-! ### A link's record (R156, R157, R163) -/

theorem kindSet_ne_empty_iff (m : KindSet) : (m != 0#14) = true ↔ ∃ k, hasKind m k = true := by
  rw [bne_iff_ne]
  constructor
  · intro ne
    refine Classical.byContradiction fun none => ?_
    exact ne (hasKind_ext fun k => by simpa using fun h => none ⟨k, h⟩)
  · rintro ⟨k, h⟩ rfl
    simp at h

theorem marks_iff (a p : KindSet) : a &&& ~~~p = 0#14 ↔ ∀ k, hasKind a k = true → hasKind p k = true := by
  have complement : ∀ k, hasKind (a &&& ~~~p) k = (hasKind a k && !hasKind p k) := fun k => by
    simp [hasKind, kindIndex_lt k]
  constructor
  · intro none k held
    have here := complement k
    rw [none, held] at here
    simpa using here.symm
  · intro beside
    refine hasKind_ext fun k => ?_
    rw [complement]
    by_cases held : hasKind a k = true
    · simp [beside k held]
    · simp [held]

theorem LinkRecord.Ok.deliver {r : LinkRecord} (ok : r.Ok) (k : EventKind) (marked : Bool) : (r.deliver k marked).Ok where
  attention := ((kindSet_ne_empty_iff _).mpr ⟨k, by simp⟩).symm
  marks := by
    rw [marks_iff]
    intro j held
    have before := (marks_iff _ _).mp ok.marks j
    cases marked <;> simp_all [LinkRecord.deliver]
    exact held.imp before id
  expired := ok.expired
  receiving := ok.receiving
  otherwise := ok.otherwise

theorem LinkRecord.Ok.keep {r : LinkRecord} (ok : r.Ok) (given : KindSet) : (r.keep given).Ok where
  attention := rfl
  marks := by
    rw [marks_iff]
    intro j held
    simp_all [LinkRecord.keep]
  expired := ok.expired
  receiving := ok.receiving
  otherwise := ok.otherwise

theorem LinkRecord.Ok.emptied {r : LinkRecord} (ok : r.Ok) : r.emptied.Ok where
  attention := rfl
  marks := by simp [LinkRecord.emptied]
  expired := Nat.zero_le _
  receiving := ok.receiving
  otherwise := ok.otherwise

/-- A record whose state and frame alone are changed, to a state other than RECEIVING with no frame. -/
theorem LinkRecord.Ok.rests {r : LinkRecord} (ok : r.Ok) (x : LinkState) (hx : x ≠ .receiving) (a : Option Reply) :
    ({ r with state := x, frame := [], reply := a } : LinkRecord).Ok where
  attention := ok.attention
  marks := ok.marks
  expired := ok.expired
  receiving := fun h => absurd h hx
  otherwise := fun _ => rfl

/-! ### The log (R173, R174) -/

theorem Log.Ok.place {g : Log} (ok : g.Ok) (r : LogRecord) : (g.place r).Ok := by
  obtain ⟨markCursor, cursorWrite, room, ring, overrun, ticks⟩ := ok
  unfold Log.place Log.unreleased
  dsimp only
  split
  next few =>
    exact {
      markCursor := markCursor
      cursorWrite := by dsimp only; omega
      room := by dsimp only; omega
      ring := by dsimp only; split <;> simp <;> omega
      overrun := overrun
      ticks := ticks }
  next full =>
    exact {
      markCursor := by dsimp only; split <;> omega
      cursorWrite := by dsimp only; split <;> omega
      room := by dsimp only; omega
      ring := by dsimp only; split <;> simp <;> omega
      overrun := by dsimp only; omega
      ticks := ticks }

/-- The armed flag is no part of the log's order. -/
theorem Log.Ok.withArmed {g : Log} (ok : g.Ok) (a : Bool) : ({ g with armed := a } : Log).Ok :=
  ⟨ok.markCursor, ok.cursorWrite, ok.room, ok.ring, ok.overrun, ok.ticks⟩

theorem Log.Ok.withHourly {g : Log} (ok : g.Ok) {h : Hourly} (few : h.ticks < 60) : ({ g with hourly := h } : Log).Ok :=
  ⟨ok.markCursor, ok.cursorWrite, ok.room, ok.ring, ok.overrun, few⟩

/-! ### The damper (R40, R41) -/

theorem Damper.Ok.command {d : Damper} (ok : d.Ok) (opens : Bool) : (d.command opens).Ok := by
  obtain ⟨position, closed, opened, homing⟩ := ok
  unfold Damper.command
  constructor <;> cases opens <;> cases state : d.state <;> simp_all
  all_goals split <;> simp_all

theorem Damper.Ok.travel {d : Damper} (ok : d.Ok) (opens : Bool) : (d.travel opens).Ok := by
  obtain ⟨position, closed, opened, homing⟩ := ok
  have lies : d.state = .opening → d.homing ≠ true := fun state h => by rw [homing h] at state; cases state
  unfold Damper.travel
  split
  next state =>
    split
    next => exact ⟨Nat.le_refl 90, nofun, fun _ => rfl, fun h => absurd h (lies state)⟩
    next => exact ⟨by dsimp only; omega, by simp [state], by simp [state], homing⟩
  next state =>
    split
    next => exact ⟨Nat.zero_le 90, fun _ => rfl, by dsimp only; split <;> nofun, nofun⟩
    next => exact ⟨by dsimp only; omega, by simp [state], by simp [state], homing⟩
  all_goals exact ⟨position, closed, opened, homing⟩

/-! ### What an operation keeps -/

/-- What a change of state keeps of the records that any block may write. -/
structure Keeps (s t : State) : Prop where
  settings : s.settings.Ok → t.settings.Ok
  links : (∀ l, (s.links.get l).Ok) → ∀ l, (t.links.get l).Ok
  log : s.log.Ok → t.log.Ok
  targets : s.settings.Ok → s.op.s ≤ 1200 ∧ s.op.e ≤ 1200 → t.op.s ≤ 1200 ∧ t.op.e ≤ 1200
  damper : s.damper.Ok → t.damper.Ok

section
variable {s t u : State}

theorem Keeps.refl (s : State) : Keeps s s := ⟨id, id, id, fun _ => id, id⟩

theorem Keeps.trans (a : Keeps s t) (b : Keeps t u) : Keeps s u where
  settings := b.settings ∘ a.settings
  links := b.links ∘ a.links
  log := b.log ∘ a.log
  targets := fun ok => b.targets (a.settings ok) ∘ a.targets ok
  damper := b.damper ∘ a.damper

/-- An operation that writes other records alone. -/
theorem Keeps.same (settings : t.settings = s.settings) (links : t.links = s.links) (log : t.log = s.log)
    (op : t.op = s.op) (damper : t.damper = s.damper) : Keeps s t :=
  ⟨settings ▸ id, links ▸ id, log ▸ id, fun _ => op ▸ id, damper ▸ id⟩

theorem Keeps.ite {p : Prop} [Decidable p] (yes : p → Keeps s t) (no : ¬p → Keeps s u) : Keeps s (if p then t else u) := by
  split
  next h => exact yes h
  next h => exact no h

/-- One link's record replaced. -/
theorem Keeps.setLink (l : Link) (r : LinkRecord) (ok : (s.links.get l).Ok → r.Ok) : Keeps s (setLink s l r) where
  settings := id
  links := fun h m => by
    show ((s.links.set l r).get m).Ok
    rw [PerLink.get_set]
    split
    next => exact ok (h l)
    next => exact h m
  log := id
  targets := fun _ => id
  damper := id

theorem Keeps.setLog (g : Log) (ok : s.log.Ok → g.Ok) : Keeps s (setLog s g) :=
  ⟨id, id, ok, fun _ => id, id⟩

theorem deliverAll_ok {links : PerLink LinkRecord} (ok : ∀ l, (links.get l).Ok) (map : PerLink KindSet) (k : EventKind)
    (dest : Option Link) (l : Link) : ((deliverAll map k dest links).get l).Ok := by
  unfold deliverAll
  rw [PerLink.get_mapWith]
  split
  next => exact (ok l).deliver ..
  next =>
    split
    next => exact (ok l).deliver ..
    next => exact ok l

theorem Keeps.raiseTo (s : State) (k : EventKind) (dest : Option Link) : Keeps s (raiseTo s k dest) :=
  ⟨id, fun ok l => deliverAll_ok ok _ _ _ l, id, fun _ => id, id⟩

theorem Keeps.raise (s : State) (k : EventKind) : Keeps s (raise s k) := .raiseTo s k none

theorem Keeps.writeLog (s : State) (b : LogBody) : Keeps s (writeLog s b) where
  settings := id
  links := fun ok l => by
    unfold Machine.writeLog
    dsimp only
    split
    next => exact deliverAll_ok ok ..
    next => exact ok l
  log := fun ok => (ok.place _).withArmed _
  targets := fun _ => id
  damper := id

theorem Keeps.recompute (s : State) : Keeps s (recompute s) :=
  ⟨id, id, id, fun ok _ => resolve_le ok, fun ok => ok.command _⟩

theorem Keeps.notice (s : State) : Keeps s (notice s) where
  settings := id
  links := id
  log := id
  targets := fun ok bounds => by
    unfold Machine.notice
    dsimp only
    split
    next => exact bounds
    next => exact resolve_le ok
  damper := fun ok => by
    unfold Machine.notice
    dsimp only
    split
    next => exact ok
    next => exact ok.command _

theorem Keeps.raiseIf (p : Prop) [Decidable p] (s : State) (k : EventKind) :
    Keeps s (if p then Machine.raise s k else s) := .ite (fun _ => .raise s k) fun _ => .refl s

theorem Keeps.writeLogIf (p : Prop) [Decidable p] (s : State) (b : LogBody) :
    Keeps s (if p then Machine.writeLog s b else s) := .ite (fun _ => .writeLog s b) fun _ => .refl s

/-- A notice after other records alone were written. -/
theorem Keeps.sameNotice (settings : t.settings = s.settings) (links : t.links = s.links) (log : t.log = s.log)
    (op : t.op = s.op) (damper : t.damper = s.damper) : Keeps s (Machine.notice t) :=
  (Keeps.same settings links log op damper).trans (.notice t)

/-! ### Reports and ends of a procedure -/

theorem Keeps.finishProcedure (s : State) (o : ProcedureOutcome) (r : PerSide (Option Nat)) :
    Keeps s (finishProcedure s o r) := by
  unfold Machine.finishProcedure
  split
  next => exact .refl s
  next owner sel _ =>
    have told := (Keeps.writeLog s (.procedure o sel owner)).trans (.raiseTo _ .procedureEnd (endAddressee o owner))
    exact told.trans (.sameNotice rfl rfl rfl rfl rfl)

theorem Keeps.tellStage (s : State) (g : Stage) : Keeps s (tellStage s g) := by
  rw [tellStage_eq]
  exact .ite (fun _ => .finishProcedure ..) fun _ => .refl s

theorem Keeps.tellFan (s : State) (x : FanState) : Keeps s (tellFan s x) :=
  .ite (fun _ => .finishProcedure ..) fun _ => .refl s

theorem Keeps.reportProbe (s : State) (n : ProbeName) (r : Bool) : Keeps s (reportProbe s n r) :=
  (Keeps.raise s _).trans (.writeLog ..)

theorem Keeps.reportSensor (s : State) (n : Sensor) (r : Bool) : Keeps s (reportSensor s n r) :=
  (Keeps.raise s _).trans (.writeLog ..)

/-! ### The fans -/

theorem Keeps.fanChanged (s : State) (f : Side) (old new : FanState) : Keeps s (fanChanged s f old new) := by
  unfold Machine.fanChanged
  split
  next => exact .refl s
  next =>
    refine Keeps.trans ?_ (.notice _)
    refine Keeps.trans ?_ (.tellFan _ new)
    exact Keeps.trans (Keeps.writeLogIf _ s (.fan f new)) (.raiseIf _ _ .fanFault)

theorem Keeps.handFan (s : State) (f : Side) (x : FanRecord) : Keeps s (handFan s f x) := by
  unfold Machine.handFan
  dsimp only
  refine Keeps.trans (t := { s with fans := s.fans.set f x }) (.same rfl rfl rfl rfl rfl) ?_
  refine Keeps.trans ?_ (.fanChanged ..)
  exact .ite (fun _ => .refl _) fun _ => .reportProbe ..

theorem Keeps.fansStep (s : State) (a b : Conversion) : Keeps s (fansStep s a b) :=
  (Keeps.handFan s .supply _).trans (.handFan _ .extract _)

/-! ### The filters -/

theorem Keeps.setFilter (s : State) (f : Side) (x : FilterRecord) : Keeps s (setFilter s f x) :=
  .same rfl rfl rfl rfl rfl

theorem Keeps.handFilterProbe (s : State) (f : Side) (x : FilterRecord) : Keeps s (handFilterProbe s f x) := by
  unfold Machine.handFilterProbe
  dsimp only
  exact .ite (fun _ => .setFilter ..) fun _ => (Keeps.setFilter s f x).trans (.reportProbe ..)

theorem Keeps.handFilterState (s : State) (f : Side) (x : FilterRecord) : Keeps s (handFilterState s f x) := by
  unfold Machine.handFilterState
  dsimp only
  refine .ite (fun _ => .setFilter ..) fun _ => ?_
  exact (((Keeps.setFilter s f x).trans (.raise _ _)).trans (.writeLog _ _)).trans (.notice _)

theorem Keeps.handOverFields (s : State) : Keeps s (handOverFields s) := .same rfl rfl rfl rfl rfl

theorem Keeps.filtersMinute (s : State) : Keeps s (filtersMinute s) :=
  .same (filtersMinute_settings s) (filtersMinute_links s) (filtersMinute_log s) (filtersMinute_op s)
    (filtersMinute_damper s)

theorem Keeps.filterStep (s : State) : Keeps s (filterStep s) :=
  ((Keeps.handFilterState s .supply _).trans (.handFilterState _ .extract _)).trans (.same rfl rfl rfl rfl rfl)

/-! ### The frost guard -/

theorem Keeps.setFrost (s : State) (g : FrostRecord) : Keeps s (setFrost s g) := .same rfl rfl rfl rfl rfl

theorem Keeps.handAirProbe (s : State) (n : AirProbe) (p : ProbeRecord) : Keeps s (handAirProbe s n p) := by
  unfold Machine.handAirProbe
  dsimp only
  refine Keeps.trans (t := { s with frost := { s.frost with probes := s.frost.probes.set n p } })
    (.same rfl rfl rfl rfl rfl) ?_
  exact .ite (fun _ => .refl _) fun _ => .reportProbe ..

theorem Keeps.judgeTruths (s : State) : Keeps s (judgeTruths s) := by
  unfold Machine.judgeTruths
  dsimp only
  refine Keeps.trans (t := { s with frost := { s.frost with truths := bypassTruths s.settings s.frost.probes } })
    (.same rfl rfl rfl rfl rfl) ?_
  exact .ite (fun _ => .refl _) fun _ => .notice _

/-- The preheater's fault latched, before it is raised (R86). -/
theorem Keeps.latched (s : State) :
    Keeps s { s with frost :=
      { s.frost with record := { s.frost.record with duty := 0, fault := true }, heaterOn := false } } :=
  .same rfl rfl rfl rfl rfl

theorem Keeps.overheat (s : State) : Keeps s (overheat s) := by
  unfold Machine.overheat
  refine .ite (fun _ => ?_) fun _ => .refl s
  exact (Keeps.latched s).trans (.raise _ .preheaterFault)

theorem Keeps.interlock (s : State) : Keeps s (interlock s) := .same rfl rfl rfl rfl rfl

theorem Keeps.frostControl (s : State) (i : ControlInputs) : Keeps s (frostControl s i) :=
  (((((Keeps.handAirProbe s .oda _).trans (.handAirProbe _ .sup _)).trans (.handAirProbe _ .eta _)).trans
    (.handAirProbe _ .eha _)).trans (.judgeTruths _)).trans ((Keeps.interlock _).trans (.overheat _))

theorem Keeps.controlStep (s : State) (i : ControlInputs) : Keeps s (controlStep s i) :=
  ((Keeps.fansStep s _ _).trans (.frostControl _ i)).trans
    ((Keeps.handFilterProbe _ .supply _).trans (.handFilterProbe _ .extract _))

theorem Keeps.thawEnded (s : State) (e : Option ThawEnd) : Keeps s (thawEnded s e) := by
  unfold Machine.thawEnded
  split
  next => exact .refl s
  next x =>
    have raised : Keeps s (if x.outcome = .interrupted then s else Machine.raise s .thawEnd) :=
      .ite (fun _ => .refl s) fun _ => .raise s _
    exact raised.trans (.writeLog ..)

theorem Keeps.stageChanged (s : State) (old new : Stage) : Keeps s (stageChanged s old new) := by
  unfold Machine.stageChanged
  refine .ite (fun _ => .refl s) fun _ => ?_
  exact ((Keeps.raise s .frostStage).trans (.writeLog _ (.frostStage old new s.frost.record.f))).trans
    ((Keeps.raiseIf (new = .lockout) _ .frostLockout).trans (.tellStage _ new))

theorem Keeps.applyFrostMove (s : State) (m : FrostMove) : Keeps s (applyFrostMove s m) :=
  ((Keeps.setFrost s _).trans (.thawEnded ..)).trans (.stageChanged ..)

theorem Keeps.takeFrostMove (s : State) (m : FrostMove) : Keeps s (takeFrostMove s m) :=
  (Keeps.applyFrostMove s m).trans (.ite (fun _ => .notice _) fun _ => .refl _)

theorem Keeps.frostStep (s : State) : Keeps s (frostStep s) := by
  unfold Machine.frostStep
  dsimp only
  have moved := Keeps.applyFrostMove s (frostMove s)
  generalize Machine.applyFrostMove s (frostMove s) = t at *
  split
  next => exact moved.trans (.sameNotice rfl rfl rfl rfl rfl)
  next => exact moved.trans (.same rfl rfl rfl rfl rfl)

/-! ### The demand table -/

/-- An entry placed, re-timed or removed, with its notice. -/
theorem Keeps.tableNotice (s : State) (t : DemandTable) : Keeps s (Machine.notice { s with table := t }) :=
  .sameNotice rfl rfl rfl rfl rfl

theorem Keeps.removeInternal (s : State) (slot : Fin 16) : Keeps s (removeInternal s slot) :=
  .ite (fun _ => .tableNotice ..) fun _ => .refl s

theorem Keeps.dropLinkEntries (s : State) (l : Link) : Keeps s (dropLinkEntries s l) :=
  .ite (fun _ => .refl s) fun _ => .tableNotice ..

theorem Keeps.zoneAct (s : State) (n : Zone) (a : ZoneAction) : Keeps s (zoneAct s n a) := by
  rcases zoneAct_cases s n a with ⟨h, -⟩ | ⟨h, -⟩ <;> rw [h]
  · exact .refl s
  · exact .tableNotice ..

/-! ### The humidity monitor -/

theorem Keeps.reportZone (s : State) (n : Zone) (ah : Option Nat) (rs : List (ZoneState × ZoneCause)) :
    Keeps s (reportZone s n ah rs) := by
  have records : ∀ (rs : List (ZoneState × ZoneCause)) (s : State),
      Keeps s (rs.foldl (fun s r => Machine.writeLog s (.zone n r.1 ah r.2)) s) := by
    intro rs
    induction rs with
    | nil => exact Keeps.refl
    | cons r rs ih => exact fun s => (Keeps.writeLog s _).trans (ih _)
  unfold Machine.reportZone
  split
  next => exact .refl s
  next => exact (Keeps.raise s _).trans (records _ _)

theorem Keeps.applyZoneMove (s : State) (n : Zone) (m : ZoneMove) : Keeps s (applyZoneMove s n m) := by
  unfold Machine.applyZoneMove
  dsimp only
  refine Keeps.trans (t := { s with humidity := { s.humidity with zones := s.humidity.zones.set n m.record } })
    (.same rfl rfl rfl rfl rfl) ?_
  refine Keeps.trans ?_ ((Keeps.reportZone _ n _ _).trans (.zoneAct ..))
  split
  next => exact .refl _
  next => exact .reportSensor ..

theorem Keeps.placeDry (s : State) : Keeps s (placeDry s) :=
  Keeps.trans (t := { s with humidity := { s.humidity with dryPlaced := some (s.settings.nat .dryLevel) } })
    (.same rfl rfl rfl rfl rfl) (.tableNotice ..)

theorem Keeps.dryDecision (s : State) : Keeps s (dryDecision s) := by
  unfold Machine.dryDecision
  dsimp only
  split
  next => exact .ite (fun _ => .placeDry s) fun _ => .refl s
  next =>
    refine .ite (fun _ => ?_) fun _ => .ite (fun _ => .placeDry s) fun _ => .refl s
    exact Keeps.trans (t := { s with humidity := { s.humidity with dryPlaced := none } }) (.same rfl rfl rfl rfl rfl)
      (.removeInternal ..)

theorem Keeps.extractOutcome (s : State) (good : Option Sample) : Keeps s (extractOutcome s good) := by
  obtain ⟨x, r⟩ : ExtractRecord × Option Bool := s.humidity.extract.take good
  unfold Machine.extractOutcome
  dsimp only
  refine Keeps.trans ?_ (.dryDecision _)
  refine Keeps.trans
    (t := { s with humidity := { s.humidity with extract := (s.humidity.extract.take good).1 } })
    (.same rfl rfl rfl rfl rfl) ?_
  split
  next => exact .refl _
  next => exact .reportSensor ..

theorem Keeps.scannerOutcome (s : State) (n : Sensor) (o : BusOutcome) : Keeps s (scannerOutcome s n o) := by
  cases n with
  | zone z => exact .applyZoneMove ..
  | extract => exact .extractOutcome ..

/-! ### The sensor bus -/

theorem Keeps.setBus (s : State) (b : Bus) : Keeps s (setBus s b) := .same rfl rfl rfl rfl rfl

theorem Keeps.grant (s : State) : Keeps s (grant s) := .setBus ..

theorem Keeps.scanRound (s : State) : Keeps s (scanRound s) := by
  unfold Machine.scanRound
  dsimp only
  exact .ite (fun _ => .setBus ..) fun _ => (Keeps.setBus s _).trans (.grant _)

theorem Keeps.endPass (s : State) (l : Link) (o : BusOutcome) : Keeps s (endPass s l o) := by
  unfold Machine.endPass
  split
  next => exact (Keeps.setBus s _).trans (.raiseTo ..)
  next => exact .setBus ..
  next => exact .refl s

theorem Keeps.endTransaction (s : State) (o : BusOutcome) : Keeps s (endTransaction s o) := by
  unfold Machine.endTransaction
  split
  next => exact .refl s
  next =>
    dsimp only
    split
    next => exact ((Keeps.setBus s _).trans (.scannerOutcome ..)).trans (.grant _)
    next => exact ((Keeps.setBus s _).trans (.endPass ..)).trans (.grant _)

/-! ### The procedure -/

theorem Keeps.commitSide (s : State) (sel : Selection) (f : Side) (taken : PerSide (List Nat)) :
    Keeps s (commitSide s sel f taken) := .ite (fun _ => .handFilterState ..) fun _ => .refl s

theorem Keeps.commit (s : State) (sel : Selection) (taken : PerSide (List Nat)) : Keeps s (commit s sel taken) :=
  ((Keeps.commitSide s sel .supply taken).trans (.commitSide _ sel .extract taken)).trans
    ((Keeps.handOverFields _).trans (.finishProcedure ..))

theorem Keeps.setProcedure (s : State) (p : Procedure) : Keeps s (setProcedure s p) := .same rfl rfl rfl rfl rfl

theorem Keeps.procedureNotice (s : State) (p : Procedure) : Keeps s (Machine.notice (Machine.setProcedure s p)) :=
  (Keeps.setProcedure s p).trans (.notice _)

theorem Keeps.takeSample (s : State) (owner : Link) (sel : Selection) (n : Nat) (taken : PerSide (List Nat)) :
    Keeps s (takeSample s owner sel n taken) := by
  unfold Machine.takeSample
  split
  next => exact .finishProcedure ..
  next => exact .ite (fun _ => .commit ..) fun _ => .setProcedure ..

theorem Keeps.takeFlowCheck (s : State) (owner : Link) (sel : Selection) : Keeps s (takeFlowCheck s owner sel) := by
  unfold Machine.takeFlowCheck
  split
  next => exact .finishProcedure ..
  next => exact .procedureNotice ..

theorem Keeps.procedureSecond (s : State) : Keeps s (procedureSecond s) := by
  unfold Machine.procedureSecond
  split
  next => exact .refl s
  next => exact .ite (fun _ => .takeFlowCheck ..) fun _ => .setProcedure ..
  next => exact .ite (fun _ => .takeSample ..) fun _ => .setProcedure ..

/-! ### The minute and the second -/

theorem length_joinExpired (xs : List Nat) (h : Nat) : (joinExpired xs h).length ≤ expiredLimit := by
  simp [joinExpired, expiredLimit]
  omega

theorem Keeps.reportExpired (s : State) (e : Entry) : Keeps s (reportExpired s e) := by
  unfold Machine.reportExpired
  split
  next l _ =>
    refine Keeps.trans (t := handExpired s l e.handle) ?_ (.raiseTo ..)
    exact Keeps.setLink l _ fun ok =>
      ⟨ok.attention, ok.marks, length_joinExpired .., ok.receiving, ok.otherwise⟩
  next => exact .applyZoneMove ..
  next => exact .refl s

theorem Keeps.reportAll (es : List Entry) (s : State) : Keeps s (es.foldl Machine.reportExpired s) := by
  induction es generalizing s with
  | nil => exact .refl s
  | cons e es ih => exact (Keeps.reportExpired s e).trans (ih _)

theorem Keeps.demandMinute (s : State) : Keeps s (demandMinute s) := by
  unfold Machine.demandMinute
  dsimp only
  refine Keeps.trans (t := { s with table := s.table.ticked }) (.same rfl rfl rfl rfl rfl) ?_
  exact .ite (fun _ => .refl _) fun _ => (Keeps.reportAll _ _).trans (.notice _)

theorem Keeps.setHourly (s : State) (h : Hourly) (few : s.log.hourly.ticks < 60 → h.ticks < 60) :
    Keeps s (setHourly s h) := .setLog _ fun ok => ok.withHourly (few ok.ticks)

theorem Keeps.logMinute (s : State) : Keeps s (logMinute s) := by
  unfold Machine.logMinute
  refine .ite (fun _ => .refl s) fun _ => ?_
  refine .ite (fun _ => (Keeps.setHourly s _ fun _ => ?_).trans (.writeLog ..)) fun few => .setHourly s _ fun _ => ?_
  · exact Nat.zero_lt_succ 59
  · omega

theorem Keeps.boostMinute (s : State) : Keeps s (boostMinute s) :=
  (((Keeps.applyZoneMove s .z1 _).trans (.applyZoneMove _ .z2 _)).trans (.applyZoneMove _ .z3 _)).trans
    (.applyZoneMove _ .z4 _)

theorem Keeps.minuteTick (s : State) : Keeps s (minuteTick s) :=
  Keeps.trans (t := { s with time := s.time.minute }) (.same rfl rfl rfl rfl rfl)
    ((Keeps.demandMinute _).trans ((Keeps.logMinute _).trans ((Keeps.boostMinute _).trans (.filtersMinute _))))

theorem Keeps.roundSecond (s : State) : Keeps s (roundSecond s) :=
  .ite (fun _ => .refl s) fun _ => .ite (fun _ => .scanRound s) fun _ => .setBus ..

@[simp] theorem Store.second_settings (t : Store) : t.second.settings = t.settings := by
  unfold Store.second
  dsimp only
  split <;> split <;> rfl

theorem Keeps.tickSecond (s : State) : Keeps s (tickSecond s) := by
  unfold Machine.tickSecond timeSecond
  refine Keeps.trans ?_ ((Keeps.roundSecond _).trans (.same (Store.second_settings _) rfl rfl rfl rfl))
  exact .ite (fun _ => .minuteTick s) fun _ => .same rfl rfl rfl rfl rfl

end

end Sys2Proof.Machine
end

section
/-! PROOFS. What the requests, the end of the load, a link reset and reception keep of the settings table, the link
records, the log, the targets and the damper, and so what every step keeps of them (R36, R39, R72, R157, R163, R165,
R173, R182, R183). -/

namespace Sys2Proof.Machine

/-! ### A value stored (R182) -/

/-- A key's related keys are other keys. -/
theorem clampToRelated_put (t : Settings) (k : Key) (x v : Int) :
    clampToRelated (t.put k x) k v = clampToRelated t k v := by
  cases k with
  | zone z k => cases k <;> simp [clampToRelated]
  | _ => simp [clampToRelated]

theorem storedValue_range {t : Settings} (ok : t.Ok) (k : Key) (v : Int) :
    (keyRange k).1 ≤ storedValue t k v ∧ storedValue t k v ≤ (keyRange k).2 := by
  have ranged : (t.put k (clampToRange k v)).Ranged := Settings.Ranged.put ok.range (clampToRange_bounds k v)
  have clamped := ranged.clampToRelated k
  rwa [clampToRelated_put, Settings.get_put, if_pos rfl] at clamped

/-- A value clamped against the related keys of its key leaves the table in relation. -/
theorem Settings.Ok.put_stored {t : Settings} (ok : t.Ok) (k : Key) (v : Int) : (t.put k (storedValue t k v)).Ok := by
  have range := Settings.Ranged.put ok.range (storedValue_range ok k v)
  obtain ⟨-, healthNominal, nominalUnit, healthCap, refUnit, dutyOrder, startLow, startHigh, boostOrder, dryOrder,
    thresholds⟩ := ok
  refine ⟨range, ?_, ?_, ?_, ?_, ?_, ?_, ?_, fun z => ?_, ?_, thresholds⟩
  case refine_8 =>
    have order := boostOrder z
    simp only [Settings.get_put]
    cases k with
    | zone y k => cases y <;> cases z <;> cases k <;> simp [storedValue, clampToRelated] at order ⊢ <;> omega
    | _ => simpa using order
  all_goals
    simp only [Settings.get_put]
    cases k <;> simp only [storedValue, clampToRelated, reduceCtorEq, ↓reduceIte] <;> omega

theorem Settings.Ok.put_boostLevel {t : Settings} (ok : t.Ok) (z : Zone) (ty : ZoneType) :
    (t.put (.zone z .boostLevel) (defaultBoostLevel ty)).Ok := by
  have range : (keyRange (.zone z .boostLevel)).1 ≤ (defaultBoostLevel ty : Int) ∧
      (defaultBoostLevel ty : Int) ≤ (keyRange (.zone z .boostLevel)).2 := by
    show (100 : Int) ≤ _ ∧ _ ≤ (1200 : Int)
    cases ty <;> decide
  have other : ∀ k, k ≠ .zone z .boostLevel →
      (t.put (.zone z .boostLevel) (defaultBoostLevel ty)).get k = t.get k := fun k h => by
    rw [Settings.get_put, if_neg h]
  obtain ⟨ranged, healthNominal, nominalUnit, healthCap, refUnit, dutyOrder, startLow, startHigh, boostOrder, dryOrder,
    thresholds⟩ := ok
  refine ⟨Settings.Ranged.put ranged range, ?_, ?_, ?_, ?_, ?_, ?_, ?_, fun n => ?_, ?_, thresholds⟩
  case refine_8 =>
    rw [other _ (by simp), other _ (by simp)]
    exact boostOrder n
  all_goals
    rw [other _ (by simp), other _ (by simp)]
    assumption

theorem Settings.Ok.tableAfter {t : Settings} (ok : t.Ok) (k : Key) (v : Int) :
    (tableAfter t k (storedValue t k v)).Ok := by
  unfold Machine.tableAfter
  split
  next z =>
    split
    next => exact ok.put_stored ..
    next => exact (ok.put_stored _ v).put_boostLevel z _
  next => exact ok.put_stored ..

/-- The groups have no part in the ranges and relations of the keys. -/
theorem Settings.Ok.withGroups {t : Settings} (ok : t.Ok) {h : Thresholds} (bounds : ∀ n ∈ h.toList, 1 ≤ n ∧ n ≤ 9000)
    (m : PerLink KindSet) : ({ t with thresholds := h, eventMap := m } : Settings).Ok :=
  ⟨ok.range, ok.healthNominal, ok.nominalUnit, ok.healthCap, ok.refUnit, ok.dutyOrder, ok.startLow, ok.startHigh,
    ok.boostOrder, ok.dryOrder, bounds⟩

theorem Thresholds.ordered_bounds {h : Thresholds} (ordered : h.ordered = true) : ∀ n ∈ h.toList, 1 ≤ n ∧ n ≤ 9000 := by
  unfold Thresholds.ordered at ordered
  simp only [Bool.and_eq_true, decide_eq_true_eq] at ordered
  simp only [Thresholds.toList, List.mem_cons, List.not_mem_nil, or_false, forall_eq_or_imp, forall_eq]
  omega

theorem loadedFrom_ok (r : ImageRead) : (loadedFrom r).settings.Ok := by
  unfold loadedFrom
  split
  next bs =>
    split
    next => exact imageSettings_ok bs
    next => exact defaultSettings_ok
  next => exact defaultSettings_ok

/-! ### The requests (R159, R160) -/

section
variable (s : State) (l : Link)

theorem Keeps.emptyPending : Keeps s (emptyPending s l) := .setLink l _ LinkRecord.Ok.emptied

theorem Keeps.storeTable {s : State} {t : Settings} (ok : s.settings.Ok → t.Ok) : Keeps s (storeTable s t) :=
  ⟨ok, id, id, fun _ => id, id⟩

theorem Keeps.tellLog (k : Key) : Keeps s (tellLog s k) := by
  unfold Machine.tellLog
  split
  next => exact .setLog _ fun ok => ok.withArmed _
  next => exact .refl s

theorem Keeps.settingRecords (k : Key) (v : Int) : Keeps s (settingRecords s k v l) := by
  unfold Machine.settingRecords
  dsimp only
  split
  next =>
    split
    next => exact .writeLog ..
    next => exact (Keeps.writeLog s _).trans (.writeLog ..)
  next => exact .writeLog ..

theorem Keeps.tellBlocks (k : Key) (v : Int) : Keeps s (tellBlocks s k v) := by
  unfold Machine.tellBlocks
  split
  next => exact .setBus ..
  next => exact .applyZoneMove ..
  next => exact .refl s

theorem Keeps.groupStored (code : Byte) : Keeps s (groupStored s code l) := by
  refine Keeps.trans ?_ (.notice _)
  exact Keeps.trans (t := { s with freeCount := s.freeCount + 1 }) (.same rfl rfl rfl rfl rfl) (.writeLog ..)

theorem Keeps.prunePending : Keeps s (prunePending s) where
  settings := id
  links := fun ok m => by
    unfold Machine.prunePending
    dsimp only
    rw [PerLink.get_mapWith]
    exact (ok m).keep _
  log := id
  targets := fun _ => id
  damper := id

theorem Keeps.setTime (count : Word) : Keeps s (setTime s l count) := by
  unfold Machine.setTime
  dsimp only
  refine Keeps.trans (t := { s with time := s.time.setBy l count }) (.same rfl rfl rfl rfl rfl) ?_
  exact .ite (fun _ => .refl _) fun _ => .writeLog ..

theorem Log.length_fromCursor_le (g : Log) (n : Nat) : (g.fromCursor n).length ≤ g.write - g.cursor := by
  unfold Log.fromCursor Log.unread
  simp only [List.length_take]
  omega

theorem Keeps.answerLogRead (n : Byte) : Keeps s (answerLogRead s n).state := by
  refine .setLog _ fun ok => ?_
  have read := s.log.length_fromCursor_le (readCount n)
  have markCursor := ok.markCursor
  have cursorWrite := ok.cursorWrite
  exact ⟨by dsimp only; omega, by dsimp only; omega, ok.room, ok.ring, Nat.zero_le _, ok.ticks⟩

theorem Keeps.answerLogRelease (n : Byte) : Keeps s (answerLogRelease s n).state := by
  refine .setLog _ fun ok => ?_
  have count : s.log.releasable n ≤ s.log.cursor - s.log.mark := Nat.min_le_right ..
  have markCursor := ok.markCursor
  have room := ok.room
  exact ⟨by dsimp only [Log.rearm]; omega, ok.cursorWrite, by dsimp only [Log.rearm]; omega, ok.ring, ok.overrun,
    ok.ticks⟩

theorem Log.Ok.rewind {g : Log} (ok : g.Ok) : g.rewind.Ok :=
  ⟨Nat.le_refl _, Nat.le_trans ok.markCursor ok.cursorWrite, ok.room, ok.ring, ok.overrun, ok.ticks⟩

theorem Keeps.storeKey (k : Key) (v : Int) : Keeps s (storeKey s k (storedValue s.settings k v) l) := by
  have stored : Keeps s (Machine.storeTable s (tableAfter s.settings k (storedValue s.settings k v))) :=
    .storeTable fun ok => ok.tableAfter k v
  exact (stored.trans (.tellLog _ k)).trans
    ((Keeps.settingRecords _ l k _).trans ((Keeps.notice _).trans (.tellBlocks _ k _)))

/-- What the owner of a request keeps. -/
theorem Keeps.served {s t : State} {l : Link} (h : Served s l t) : Keeps s t := by
  cases h with
  | nothing => exact .refl s
  | empties => exact .emptyPending s l
  | posts => exact .tableNotice ..
  | withdraws => exact .tableNotice ..
  | sets k v => exact .storeKey s l k v
  | setsThresholds v ordered =>
    refine Keeps.trans ?_ (.groupStored ..)
    exact .storeTable fun ok => ok.withGroups (Thresholds.ordered_bounds ordered) _
  | setsEventMap v allowed =>
    refine Keeps.trans ?_ ((Keeps.prunePending _).trans (.groupStored ..))
    exact .storeTable fun ok => ok.withGroups ok.thresholds _
  | starts => exact .procedureNotice ..
  | aborts => exact .finishProcedure ..
  | clearsFan => exact .handFan ..
  | clearsPreheater => exact (Keeps.setFrost s _).trans (.raise ..)
  | clearsLockout => exact .takeFrostMove ..
  | setsTime => exact .setTime ..
  | queues => exact (Keeps.setBus s _).trans (.grant _)
  | fetches => exact .setBus ..
  | readsLog n => exact .answerLogRead s n
  | releasesLog n => exact .answerLogRelease s n
  | rewindsLog => exact .setLog _ Log.Ok.rewind

theorem Keeps.reply (tag kind : Byte) {a : Answer} (h : Keeps s a.state) : Keeps s (reply l tag kind a) :=
  h.trans (.setLink l _ fun ok => ok.rests .replying (by decide) _)

/-! ### A link reset (R170) -/

theorem Keeps.resetProcedure : Keeps s (resetProcedure s l) := by
  unfold Machine.resetProcedure
  split
  next => exact .ite (fun _ => .finishProcedure ..) fun _ => .refl s
  next => exact .refl s

theorem Log.Ok.resetLink {g : Log} (ok : g.Ok) (l : Link) : (g.resetLink l).Ok := by
  cases l with
  | service => exact ok.rewind
  | panel => exact ok
  | heating => exact ok

theorem Keeps.resetLink : Keeps s (resetLink s l) := by
  unfold Machine.resetLink
  dsimp only
  have dropped := (Keeps.dropLinkEntries s l).trans (.resetProcedure _ l)
  generalize Machine.resetProcedure (Machine.dropLinkEntries s l) l = t at *
  have broken : Keeps t (Machine.setLink t l (t.links.get l).broken) :=
    .setLink l _ fun ok => ok.emptied.rests .inBreak (by decide) _
  have rewound : Keeps (Machine.setLink t l (t.links.get l).broken)
      (Machine.setLog (Machine.setLink t l (t.links.get l).broken) (t.log.resetLink l)) :=
    .setLog _ fun ok => ok.resetLink l
  exact (dropped.trans (broken.trans rewound)).trans (.same rfl rfl rfl rfl rfl)

/-! ### The end of the load (R183, R186) -/

theorem startUp_op (x : Loaded) : (startUp s x).op = resolve (setUp s x) := by
  simp [startUp_eq, startCounts, recompute]

theorem startUp_damper (x : Loaded) : (startUp s x).damper = s.damper.command (resolve (setUp s x)).bypassOpen := by
  simp [startUp_eq, startCounts, recompute, setUp, setUpZones, fillFilters, setHourly]

theorem LinkRecord.Ok.givenIf {r : LinkRecord} (ok : r.Ok) (k : EventKind) (b : Bool) : (r.givenIf k b).Ok := by
  unfold LinkRecord.givenIf
  split
  next => exact ok.deliver ..
  next => exact ok

theorem Keeps.startUp (r : ImageRead) : Keeps s (startUp s (loadedFrom r)) where
  settings := fun _ => by
    rw [State.settings, startUp_store, installTable_store]
    exact loadedFrom_ok r
  links := fun ok m => by
    rw [startUp_links, installTable_links]
    exact ((ok m).keep _).givenIf ..
  log := fun ok => by
    rw [startUp_log, setUp_log, installTable_log]
    exact ⟨ok.markCursor, ok.cursorWrite, ok.room, (List.length_map _).trans ok.ring, ok.overrun, Nat.zero_lt_succ 59⟩
  targets := fun _ _ => by
    rw [startUp_op]
    exact resolve_le (by rw [setUp_settings]; exact loadedFrom_ok r)
  damper := fun ok => by
    rw [startUp_damper]
    exact ok.command _

/-! ### Reception (R157, R158, R169) -/

theorem receiveByte_keeps {frame kept : List Byte} {b : Byte} (ok : frameOk frame)
    (h : receiveByte frame b = .keep kept) : frameOk kept := by
  unfold receiveByte at h
  split at h
  next => cases h
  next a =>
    split at h
    next fits => cases h; exact ⟨ok, fits, Nat.zero_le _⟩
    next => cases h
  next a len rest =>
    split at h
    next few =>
      cases h
      obtain ⟨start, fits, -⟩ := ok
      exact ⟨start, fits, by simp; omega⟩
    next =>
      unfold closeFrame at h
      (repeat' split at h) <;> cases h

theorem LinkRecord.Ok.row {r x : LinkRecord} (ok : r.Ok) (row : LinkRow r x) : x.Ok := by
  cases row with
  | discards => exact ok.rests .listening (by decide) _
  | keeps b frame kept =>
    refine ⟨ok.attention, ok.marks, ok.expired, fun _ => ?_, fun h => absurd rfl h⟩
    unfold LinkRecord.receive at kept
    split at kept
    next =>
      split at kept
      next start => cases kept; exact start
      next => cases kept
    next receiving => exact receiveByte_keeps (ok.receiving receiving) kept
    all_goals cases kept
  | sends =>
    unfold LinkRecord.sent
    by_cases replying : r.state = .replying
    · rw [if_pos replying, ok.otherwise (by rw [replying]; decide)]
      exact ok.rests .listening (by decide) _
    · rw [if_neg replying]
      exact ⟨ok.attention, ok.marks, ok.expired, ok.receiving, ok.otherwise⟩
  | leavesBreak broken =>
    rw [ok.otherwise (by rw [broken]; decide)]
    exact ok.rests .listening (by decide) _

/-! ### Every step -/

theorem Keeps.powerOn : Keeps s { State.reset with pending := s.pending, freeCount := s.freeCount } :=
  ⟨fun _ => defaultSettings_ok, fun _ m => by cases m <;> exact LinkRecord.reset_ok, fun _ => Log.reset_ok,
    fun _ _ => ⟨Nat.zero_le _, Nat.zero_le _⟩, fun _ => Damper.reset_ok⟩

variable {s}

theorem Deed.keeps {c : Instr} {t : State} (h : Deed c s t) : Keeps s t := by
  cases h with
  | nothing => exact .refl s
  | powerOn => exact .powerOn s
  | load read row loading => exact .startUp s read
  | control inp => exact .controlStep s inp
  | fan f x row => exact .handFan s f x
  | airProbe n p => exact .handAirProbe s n p
  | filterProbe f x row => exact .handFilterProbe s f x
  | frost loaded => exact .frostStep s
  | frostMove m row => exact .takeFrostMove s m
  | gap => exact .setFrost s _
  | travel => exact ⟨id, id, id, fun _ => id, fun ok => ok.travel _⟩
  | minute => exact .minuteTick s
  | expiry => exact .demandMinute s
  | hour => exact .logMinute s
  | rebaseline n boosting => exact .applyZoneMove s n _
  | zoneStale n typed => exact .applyZoneMove s n _
  | extractStale third => exact .extractOutcome s none
  | filterStep => exact .filterStep s
  | procedure => exact .procedureSecond s
  | scan loaded => exact .scanRound s
  | ends o => exact .endTransaction s o
  | link l r row => exact .setLink l r fun ok => ok.row row
  | reset l => exact .resetLink s l
  | answers l tag kind r loaded => exact .reply s l tag kind (.served (answer_served s l r))
  | turnsAway l tag kind code => exact .reply s l tag kind (a := .plain s code) (.refl s)
  | rewritten state stays =>
    exact Keeps.trans (t := { s with store := s.store.endWrite state }) (.same rfl rfl rfl rfl rfl) (.raise ..)
  | _ => exact .same rfl rfl rfl rfl rfl

theorem step_keeps {t : State} (h : step s = .next t) : Keeps s t := by
  obtain ⟨-, rfl⟩ | ⟨c, rest, -, deed⟩ := step_cases h
  · exact .tickSecond s
  · exact Keeps.trans (t := { s with pending := rest }) (.same rfl rfl rfl rfl rfl) deed.keeps

end

end Sys2Proof.Machine

namespace Sys2Proof

open Machine

/-- Settles O5: each operation that writes a link's record leaves it consistent. -/
theorem linkRecordsStayConsistent : Obligations.LinkRecordsStayConsistent := fun _ _ ok h => (step_keeps h).links ok

/-- Settles O6: each operation that writes the log leaves its positions in order. -/
theorem logPositionsStayInOrder : Obligations.LogPositionsStayInOrder := fun _ _ ok h => (step_keeps h).log ok

end Sys2Proof
end

section
/-! PROOFS. What every step keeps of the two groups of the settings table (R72, R165). -/

namespace Sys2Proof.Machine

/-- TIME writes the time base, and the log with its alarm (R167). -/
theorem setTime_frame (s : State) (l : Link) (c : Word) :
    setTime s l c =
      { s with time := s.time.setBy l c, links := (setTime s l c).links, log := (setTime s l c).log } := by
  unfold setTime
  dsimp only
  split <;> rfl

section
variable {s t : State}

/-- Only SET_GROUP stores a group while the part runs, and it stores what passes its check (R72, R165). -/
theorem Served.groups {l : Link} (h : Served s l t) (accepted : s.settings.GroupsAccepted) :
    t.settings.GroupsAccepted := by
  have same {t : State} (h : t.store.settings = s.store.settings) : t.settings.GroupsAccepted :=
    (settings_congr h) ▸ accepted
  cases h with
  | sets k v free => exact ⟨by rw [storeKey_settings, (tableAfter_groups ..).1]; exact accepted.rising, by
      rw [storeKey_settings, (tableAfter_groups ..).2]; exact accepted.byAddress⟩
  | setsThresholds v ordered => exact ⟨ordered, accepted.byAddress⟩
  | setsEventMap v allowed => exact ⟨accepted.rising, allowed⟩
  | setsTime c => exact same (by rw [setTime_frame])
  | _ => exact same (by simp [placePost, queuePass, answerLogRead, answerLogRelease])

/-- A commit hands the filter fields over and leaves the table (R150). -/
theorem procedureSecond_settings (s : State) : (procedureSecond s).settings = s.settings := by
  have commits (sel : Selection) (taken : PerSide (List Nat)) : (commit s sel taken).settings = s.settings := by
    simp [commit, State.settings, handOverFields, Store.takeFields]
  unfold procedureSecond
  split
  next => rfl
  next =>
    split
    next => exact settings_congr (by simp)
    next => rfl
  next =>
    split
    next =>
      unfold takeSample
      split
      next => exact settings_congr (by simp)
      next =>
        split
        next => exact commits ..
        next => rfl
    next => rfl

/-- A load installs both groups as the image holds them; nothing else but SET_GROUP stores them. -/
theorem Deed.groups {c : Instr} (h : Deed c s t) (accepted : s.settings.GroupsAccepted)
    (load : ∀ r, c = .loadEnd r → (loadedFrom r).settings.GroupsAccepted) : t.settings.GroupsAccepted := by
  have same {t : State} (h : t.store.settings = s.store.settings) : t.settings.GroupsAccepted :=
    (settings_congr h) ▸ accepted
  cases h with
  | powerOn => exact defaultSettings_accepted
  | load read row loading =>
    have installed : (startUp s (loadedFrom read)).settings = (loadedFrom read).settings := by
      rw [State.settings, startUp_store, installTable_store]
    exact installed ▸ load read row
  | answers l tag kind r loaded => exact (answer_served s l r).groups accepted
  | nothing | pulse | heater | gap | travel | window | link | turnsAway | writes | written | handover => exact accepted
  | rewritten state stays => exact accepted
  | procedure => exact (procedureSecond_settings s).symm ▸ accepted
  | _ => exact same (by simp)

end

/-- A second counts and writes the image, and leaves the table. -/
theorem tickSecond_settings (s : State) : (tickSecond s).settings = s.settings := by
  simp [tickSecond, State.settings]

end Sys2Proof.Machine

namespace Sys2Proof

open Machine

/-- Settles O4: a value is stored clamped to its range and then against its related keys, which leaves every relation
standing; a load does so for the whole table; and the groups change only by SET_GROUP's check or a load. -/
theorem settingsStayInRangeAndRelation : Obligations.SettingsStayInRangeAndRelation := by
  constructor
  · intro s t ok h
    exact (step_keeps h).settings ok
  · intro s t accepted load h
    obtain ⟨-, rfl⟩ | ⟨c, rest, front, deed⟩ := step_cases h
    · rw [tickSecond_settings]; exact accepted
    · exact deed.groups accepted fun r row => load r rest (row ▸ front)

end Sys2Proof
end

section
/-! PROOFS. What every step keeps of the fans' records (R43, R49, R59), and with the targets and the damper of the
operations' own lemmas the ranges of the fan block. -/

namespace Sys2Proof.Machine

/-! ### A fan's record (R43) -/

section
variable {x : FanRecord} {t : Settings}

theorem flowOf_le (k dp : Nat) : flowOf k dp ≤ 1200 := Nat.min_le_right ..

theorem Settings.Ok.dutyMax_le (ok : t.Ok) : t.get .dutyMax ≤ 1000 := (ok.range .dutyMax).2

theorem Settings.Ok.startDuty_le (ok : t.Ok) : t.nat .startDuty ≤ 1000 := by
  have high : t.get .startDuty ≤ 1000 := (ok.range .startDuty).2
  unfold Settings.nat
  omega

theorem closedLoopDuty_le (ok : t.Ok) (x : FanRecord) : closedLoopDuty t x ≤ 1000 := by
  have high := ok.dutyMax_le
  unfold closedLoopDuty clampInt
  dsimp only
  omega

theorem openLoopDuty_le (ok : t.Ok) (x : FanRecord) : openLoopDuty t x ≤ 1000 := by
  have high := ok.dutyMax_le
  have clamped : openLoopDuty t x ≤ t.nat .dutyMax := Nat.min_le_right ..
  unfold Settings.nat at clamped
  omega

namespace FanRecord.Ok

theorem latch (ok : x.Ok) {w : Nat} (h : w ≤ 1200) : { x with target := w }.count.Ok :=
  { ok with target := h, speed := Nat.min_le_right .. }

theorem loseProbe (ok : x.Ok) : x.loseProbe.Ok :=
  { ok with shortfallCount := Nat.zero_le _, probeCount := Nat.zero_le _, shortfall := fun _ => rfl }

theorem regainProbe (ok : x.Ok) (k dp : Nat) : (x.regainProbe k dp).Ok :=
  { ok with flow := flowOf_le .., probeCount := Nat.zero_le _ }

theorem judgeProbe (ok : x.Ok) (k : Nat) (c : Conversion) : (x.judgeProbe k c).Ok := by
  have counts (few : x.probeCount < 2) : { x with probeCount := x.probeCount + 1 }.Ok :=
    { ok with probeCount := by dsimp only; omega }
  unfold FanRecord.judgeProbe
  split
  next => exact { ok with flow := flowOf_le .., probeCount := Nat.zero_le _ }
  next =>
    split
    next few => exact counts few
    next => exact ok.loseProbe
  next => exact { ok with probeCount := Nat.zero_le _ }
  next =>
    split
    next few => exact counts few
    next => exact ok.regainProbe ..

theorem stall (ok : x.Ok) : x.stall.Ok :=
  { ok with
    duty := Nat.zero_le _, shortfallCount := Nat.zero_le _, phase := Nat.le_refl _
    phaseZero := fun _ stalled => absurd rfl stalled
    lowSpeed := Nat.zero_le _, run := Nat.zero_le _, still := fun _ => rfl, shortfall := fun _ => rfl }

theorem countRun (ok : x.Ok) : x.countRun.Ok :=
  { ok with
    attempts := by
      unfold FanRecord.countRun
      dsimp only
      split
      next => exact Nat.zero_le _
      next => exact ok.attempts
    run := Nat.min_le_right .. }

theorem runStep (ok : x.Ok) (st : t.Ok) (running : x.state = .running) : (x.runStep t).Ok := by
  unfold FanRecord.runStep
  split
  next => exact ok.stall
  next quick =>
    exact
      { ok.countRun with
        duty := by
          dsimp only
          split
          next => exact openLoopDuty_le st x
          next => exact closedLoopDuty_le st x
        lowSpeed := by dsimp only; omega
        still := by simp [FanRecord.countRun, running] }

theorem enterRunning (ok : x.Ok) (st : t.Ok) : (x.enterRunning t).Ok := by
  refine runStep (x := { x with state := .running, phase := 0, run := 0, lowSpeed := 0 }) ?_ st rfl
  exact
    { ok with
      phase := Nat.zero_le _, phaseZero := fun _ _ _ => rfl, lowSpeed := Nat.zero_le _, run := Nat.zero_le _
      still := by simp, shortfall := fun h => absurd rfl h }

theorem retry (ok : x.Ok) (st : t.Ok) (stalled : x.state = .stalled) : (x.retry t).Ok :=
  { ok with
    duty := st.startDuty_le, phase := by show 5 ≤ 30; decide, phaseZero := fun _ _ h => absurd rfl h, still := by simp [FanRecord.retry]
    shortfall := fun _ => ok.shortfall (by rw [stalled]; decide) }

theorem endRetry (ok : x.Ok) (retrying : x.state = .retrying) : x.endRetry.Ok := by
  have unset : x.shortfall = false := ok.shortfall (by rw [retrying]; decide)
  unfold FanRecord.endRetry
  split
  next =>
    exact
      { ok with
        duty := Nat.zero_le _, phase := Nat.zero_le _, phaseZero := fun _ _ _ => rfl, still := fun _ => rfl
        shortfall := fun _ => unset }
  next =>
    split
    next few =>
      exact
        { ok with
          duty := Nat.zero_le _, attempts := few, phase := Nat.le_refl _
          phaseZero := fun _ h => absurd rfl h, still := fun _ => rfl, shortfall := fun _ => unset }
    next =>
      exact
        { ok with
          duty := Nat.zero_le _, phase := Nat.zero_le _, phaseZero := fun _ _ _ => rfl, still := fun _ => rfl
          shortfall := fun _ => unset }

/-- A phase that goes on counting. -/
theorem phaseCounts (ok : x.Ok) {duty : Nat} (low : duty ≤ 1000)
    (still : x.state = .stopped ∨ x.state = .stalled ∨ x.state = .failed → duty = 0) :
    { x with phase := x.phase - 1, duty := duty }.Ok :=
  { ok with
    duty := low, phase := Nat.le_trans (Nat.sub_le ..) ok.phase
    phaseZero := fun a b c => by dsimp only; rw [ok.phaseZero a b c], still := still }

theorem act (ok : x.Ok) (st : t.Ok) : (x.act t).Ok := by
  have unset (h : x.state ≠ .running) : x.shortfall = false := ok.shortfall h
  unfold FanRecord.act
  split
  case h_1 stopped =>
    split
    next => exact { ok with duty := Nat.zero_le _, still := fun _ => rfl }
    next =>
      exact
        { ok with
          duty := st.startDuty_le, phase := by show 5 ≤ 30; decide, phaseZero := fun h => absurd rfl h, still := by simp
          shortfall := fun _ => unset (by rw [stopped]; decide) }
  case h_2 starting =>
    split
    next =>
      exact
        { ok with
          duty := Nat.zero_le _, phase := Nat.zero_le _, phaseZero := fun _ _ _ => rfl, still := fun _ => rfl
          shortfall := fun _ => unset (by rw [starting]; decide) }
    next =>
      split
      next => exact ok.enterRunning st
      next => exact ok.phaseCounts st.startDuty_le (by simp [starting])
  case h_3 running =>
    split
    next =>
      exact
        { ok with
          duty := Nat.zero_le _, shortfallCount := Nat.zero_le _, run := Nat.zero_le _
          phaseZero := fun _ _ _ => ok.phaseZero (by simp [running]) (by simp [running]) (by simp [running])
          still := fun _ => rfl, shortfall := fun _ => rfl }
    next => exact ok.runStep st running
  case h_4 stalled =>
    split
    next => exact ok.retry st stalled
    next => exact ok.phaseCounts (Nat.zero_le _) fun _ => rfl
  case h_5 retrying =>
    split
    next => exact ok.endRetry retrying
    next => exact ok.phaseCounts st.startDuty_le (by simp [retrying])
  case h_6 failed => exact { ok with duty := Nat.zero_le _, still := fun _ => rfl }

theorem judgeBand (ok : x.Ok) : x.judgeBand.Ok := { ok with }

theorem judgeShortfall (ok : x.Ok) (t : Settings) : (x.judgeShortfall t).Ok := by
  have cleared : { x with shortfallCount := 0 }.Ok := { ok with shortfallCount := Nat.zero_le _ }
  unfold FanRecord.judgeShortfall
  split
  next runs =>
    obtain ⟨running, -, -⟩ := runs
    split
    next =>
      split
      next =>
        split
        next => exact { ok with shortfallCount := Nat.zero_le _, shortfall := fun _ => rfl }
        next few => exact { ok with shortfallCount := by dsimp only; omega }
      next => exact cleared
    next =>
      split
      next =>
        split
        next => exact { ok with shortfallCount := Nat.zero_le _, shortfall := fun h => absurd running h }
        next few => exact { ok with shortfallCount := by dsimp only; omega }
      next => exact cleared
  next => exact ok

/-- A control step keeps a fan's record in its ranges (R49). -/
theorem step (ok : x.Ok) (st : t.Ok) (k : Nat) {w : Nat} (h : w ≤ 1200) (c : Conversion) : (x.step t k w c).Ok :=
  ((((ok.latch h).judgeProbe k c).act st).judgeBand).judgeShortfall t

/-- A crossing of the fan block keeps a fan's record in its ranges. -/
theorem row (ok : x.Ok) (st : t.Ok) {f : Side} {y : FanRecord} (h : FanRow t f x y) : y.Ok := by
  cases h with
  | entersRunning starting target => exact ok.enterRunning st
  | stalls running => exact ok.stall
  | retries stalled => exact ok.retry st stalled
  | endsRetry retrying => exact ok.endRetry retrying
  | judgesShortfall => exact ok.judgeShortfall t
  | countsRun running => exact ok.countRun
  | losesProbe => exact ok.loseProbe
  | regainsProbe dp => exact ok.regainProbe ..

theorem clear (ok : x.Ok) (failed : x.state = .failed) : x.clear.Ok :=
  { ok with
    duty := Nat.zero_le _, shortfallCount := Nat.zero_le _, attempts := Nat.zero_le _, phase := Nat.zero_le _
    phaseZero := fun _ _ _ => rfl, lowSpeed := Nat.zero_le _, run := Nat.zero_le _, probeCount := Nat.zero_le _
    still := fun _ => rfl, shortfall := fun _ => ok.shortfall (by rw [failed]; decide) }

end FanRecord.Ok

end

/-! ### Both records through a step -/

section
variable {s t : State} (ok : ∀ f, (s.fans.get f).Ok)
include ok

theorem fans_set_ok {g : Side} {x : FanRecord} (new : x.Ok) : ∀ f, ((s.fans.set g x).get f).Ok := by
  intro f
  rw [PerSide.get_set]
  split
  next => exact new
  next => exact ok f

theorem Served.fans_ok {l : Link} (h : Served s l t) : ∀ f, (t.fans.get f).Ok := by
  cases h with
  | clearsFan f failed => rw [handFan_fans]; exact fans_set_ok ok ((ok f).clear failed)
  | setsTime c => rw [setTime_frame]; exact ok
  | aborts => rw [abortProcedure_fans]; exact ok
  | clearsLockout lockout => rw [takeFrostMove_fans]; exact ok
  | sets k v free => rw [storeKey_fans]; exact ok
  | _ => exact ok

theorem Deed.fans_ok {c : Instr} (h : Deed c s t) (st : s.settings.Ok) (supply : s.op.s ≤ 1200)
    (extract : s.op.e ≤ 1200) : ∀ f, (t.fans.get f).Ok := by
  have kept {u : State} (same : u.fans = s.fans) : ∀ f, (u.fans.get f).Ok := by rw [same]; exact ok
  cases h with
  | powerOn => exact fun f => by cases f <;> exact FanRecord.reset_ok
  | control inp =>
    intro f
    rw [controlStep_fans]
    exact (ok f).step st _ (by cases f <;> assumption) _
  | fan f x row => rw [handFan_fans]; exact fans_set_ok ok ((ok f).row st row)
  | pulse f => exact fans_set_ok ok { ok f with }
  | answers l tag kind r loaded =>
    show ∀ f, ((answer s l r).state.fans.get f).Ok
    exact (answer_served s l r).fans_ok ok
  | nothing | heater | gap | travel | handover | window | link | turnsAway | writes | written | rewritten => exact ok
  | _ => exact kept (by simp)

end

end Sys2Proof.Machine

namespace Sys2Proof

open Machine

/-- Settles O10: a control step and each crossing keep a fan's record in its ranges; the targets come from the resolver
and the damper from its travel and its commands. -/
theorem fanAndDamperRecordsStayInRange : Obligations.FanAndDamperRecordsStayInRange := by
  constructor
  · intro s t st supply extract ok h
    have fans : ∀ f, (t.fans.get f).Ok := by
      obtain ⟨-, rfl⟩ | ⟨c, rest, -, deed⟩ := step_cases h
      · rw [tickSecond_fans]; exact ok
      · exact Deed.fans_ok (s := { s with pending := rest }) ok deed st supply extract
    exact ⟨fans, (step_keeps h).targets st ⟨supply, extract⟩⟩
  · intro s t ok h
    exact (step_keeps h).damper ok

end Sys2Proof
end

section
/-! PROOFS. What every step keeps of the frost guard's record (R73): the stage machine's own rules first, then the
operations that write the record. -/

namespace Sys2Proof.Machine

namespace FrostRecord.Ok

section
variable {g : FrostRecord} {t : Settings}

theorem phase_none (ok : g.Ok) (h : g.stage ≠ .blind) : g.blindPhase = none := by
  have blind := ok.blind
  rw [beq_eq_false_iff_ne.2 h] at blind
  simpa using blind

theorem failures_le (ok : g.Ok) : g.failures ≤ 3 := by
  have few := ok.failures
  split at few <;> omega

theorem failures_few (ok : g.Ok) (h : g.stage ≠ .lockout) : g.failures ≤ 2 := by
  have few := ok.failures
  rwa [if_neg h] at few

theorem withF (ok : g.Ok) {f : Nat} (h : f ≤ 10000) : { g with f := f }.Ok := { ok with f := h }

theorem countGap (ok : g.Ok) : g.countGap.Ok := { ok with gap := Nat.min_le_right .. }

/-- A stage other than THAW and BLIND entered from one other than BLIND (R74). -/
theorem enter (ok : g.Ok) {stage : Stage} (left : g.stage ≠ .blind) (few : g.failures ≤ 2) (thaw : stage ≠ .thaw)
    (blind : stage ≠ .blind) (flat : stage = .preheat → g.r = 0) : (g.enter stage).Ok :=
  { ok with
    r := by
      unfold FrostRecord.enter
      dsimp only
      split
      next => exact Nat.zero_le _
      next => exact ok.r
    pinned := by
      unfold FrostRecord.enter
      dsimp only
      split
      next => exact Nat.zero_le _
      next => exact ok.pinned
    thawing := fun h => absurd h thaw
    blind := by simp [FrostRecord.enter, ok.phase_none left, blind]
    balanced := by
      unfold FrostRecord.enter
      rintro (rfl | rfl | rfl)
      · rfl
      · rfl
      · exact flat rfl
    failures := by
      unfold FrostRecord.enter
      dsimp only
      split <;> omega }

theorem countThaw (ok : g.Ok) (thaw : g.stage = .thaw) (eha : Int) :
    (g.countThaw t eha).elapsed ≤ 360 ∧ (g.countThaw t eha).success ≤ 18 := by
  obtain ⟨elapsed, success⟩ := ok.thawing thaw
  unfold FrostRecord.countThaw
  dsimp only
  split <;> omega

theorem thresholds_le (st : t.Ok) : t.thresholds.unbalanceExit ≤ 10000 ∧ t.thresholds.unbalanceOn ≤ 10000 := by
  have bounds := st.thresholds
  simp only [Thresholds.toList, List.mem_cons, List.not_mem_nil, or_false, forall_eq_or_imp, forall_eq] at bounds
  omega

theorem thawSucceeds (ok : g.Ok) (st : t.Ok) (thaw : g.stage = .thaw) (eha : Int) :
    (thawSucceeds t (g.countThaw t eha)).record.Ok := by
  obtain ⟨elapsed, success⟩ := ok.countThaw (t := t) thaw eha
  have left : g.stage ≠ .blind := by rw [thaw]; decide
  have entered : (g.enter .unbalance).Ok :=
    ok.enter left (ok.failures_few (by rw [thaw]; decide)) (by decide) (by decide) (by rintro ⟨⟩)
  exact
    { entered with
      f := (thresholds_le st).1, gap := Nat.zero_le _, elapsed := elapsed, success := success
      thawing := by rintro ⟨⟩, failures := Nat.zero_le 2 }

theorem thawTimesOut (ok : g.Ok) (st : t.Ok) (thaw : g.stage = .thaw) (eha : Int) :
    (thawTimesOut t (g.countThaw t eha)).record.Ok := by
  obtain ⟨elapsed, success⟩ := ok.countThaw (t := t) thaw eha
  have left : g.stage ≠ .blind := by rw [thaw]; decide
  have few := ok.failures_few (by rw [thaw]; decide)
  have ends (stage : Stage) (h : stage = .lockout ∨ stage = .unbalance) (count : stage = .lockout ∨ g.failures < 2) :
      { g.enter stage with
        elapsed := (g.countThaw t eha).elapsed, success := (g.countThaw t eha).success
        f := t.thresholds.unbalanceOn, failures := g.failures + 1, gap := 0 }.Ok := by
    have entered : (g.enter stage).Ok :=
      ok.enter left few (by rintro rfl; simp at h) (by rintro rfl; simp at h) (by rintro rfl; simp at h)
    refine
      { entered with
        f := (thresholds_le st).2, gap := Nat.zero_le _, elapsed := elapsed, success := success
        thawing := ?thawing, failures := ?failures }
    case thawing =>
      rintro rfl
      simp at h
    case failures =>
      show if stage = .lockout then _ else _
      split
      · exact Nat.succ_le_succ few
      · next other => exact count.resolve_left other
  unfold Machine.thawTimesOut
  dsimp only
  by_cases third : 3 ≤ (g.countThaw t eha).failures + 1
  · rw [if_pos third]
    exact ends .lockout (.inl rfl) (.inl rfl)
  · rw [if_neg third]
    have few : g.failures < 2 := by
      have : ¬ 3 ≤ g.failures + 1 := third
      omega
    exact ends .unbalance (.inr rfl) (.inr few)

theorem release (ok : g.Ok) (lockout : g.stage = .lockout) : g.release.Ok :=
  { ok with
    f := Nat.zero_le _, r := Nat.zero_le _, warmth := by show 0 < 360; decide
    thawing := by rintro ⟨⟩
    blind := by
      show g.blindPhase.isSome = false
      rw [ok.phase_none (by rw [lockout]; decide)]
      rfl
    pinned := ok.pinned
    balanced := fun _ => rfl, failures := Nat.zero_le 2 }

theorem blindRatio_le (st : t.Ok) (oda : Option Int) : blindRatio t oda ≤ 1000 := by
  have high : t.get .maxUnbalance ≤ 1000 := (st.range .maxUnbalance).2
  unfold blindRatio Settings.nat
  split <;> omega

/-- BLIND with its schedule at some point (R88). -/
theorem schedule (ok : g.Ok) (blind : g.stage = .blind) {phase : BlindPhase} {count r : Nat} (short : count ≤ 360)
    (low : r ≤ 1000) : { g with blindPhase := some phase, blindCount := count, r := r }.Ok :=
  { ok with
    r := low, blindCount := short, blind := by simp [blind], balanced := by simp [blind] }

theorem blindTurn (ok : g.Ok) (st : t.Ok) (blind : g.stage = .blind) (oda : Option Int) : (blindTurn t g oda).Ok := by
  unfold Machine.blindTurn
  split
  next => exact ok.schedule blind (by decide) (blindRatio_le st oda)
  next =>
    split
    next => exact ok.schedule blind (by decide) ok.r
    next => exact ok.schedule blind (by decide) (Nat.zero_le _)

theorem blindStep (ok : g.Ok) (st : t.Ok) (blind : g.stage = .blind) (oda : Option Int) : (blindStep t g oda).Ok := by
  have fewer : g.blindCount - 1 ≤ 360 := Nat.le_trans (Nat.sub_le ..) ok.blindCount
  unfold Machine.blindStep
  split
  next => exact ok.blindTurn st blind oda
  next =>
    split
    next => exact { ok with blindCount := fewer }
    next => exact { ok with blindCount := fewer, r := blindRatio_le st oda, balanced := by simp [blind] }

theorem leaveBlind (ok : g.Ok) (st : t.Ok) (blind : g.stage = .blind) : (leaveBlind t g).Ok :=
  { ok with
    f := (thresholds_le st).2, r := Nat.zero_le _, blindCount := Nat.zero_le _, pinned := ok.pinned
    thawing := by rintro ⟨⟩, blind := rfl, balanced := fun _ => rfl
    failures := ok.failures_few (by rw [blind]; decide) }

theorem enterBlind (ok : g.Ok) (st : t.Ok) (lockout : g.stage ≠ .lockout) (oda : Option Int) :
    (enterBlind t g oda).record.Ok := by
  have few := ok.failures_few lockout
  have long : t.get .thawMax ≤ 60 := (st.range .thawMax).2
  unfold Machine.enterBlind
  split
  next =>
    exact
      { ok with
        gap := Nat.zero_le _, thawing := by rintro ⟨⟩
        blindCount := by dsimp only; unfold Settings.nat; omega
        blind := rfl, balanced := by simp, failures := few }
  next =>
    exact
      { ok with
        r := blindRatio_le st oda, thawing := by rintro ⟨⟩
        blindCount := by show 300 ≤ 360; decide
        blind := rfl, balanced := by rintro (⟨⟨⟩⟩ | ⟨⟨⟩⟩ | ⟨⟨⟩⟩), failures := few }

theorem judgeNormal (ok : g.Ok) (normal : g.stage = .normal) : (judgeNormal t g).record.Ok := by
  unfold Machine.judgeNormal
  split
  next =>
    exact ok.enter (by rw [normal]; decide) (ok.failures_few (by rw [normal]; decide)) (by decide) (by decide) (by simp)
  next => exact ok

theorem judgeWatch (ok : g.Ok) (watch : g.stage = .watch) : (judgeWatch t g).record.Ok := by
  have flat := ok.balanced (.inr (.inl watch))
  have enters {stage : Stage} (thaw : stage ≠ .thaw) (blind : stage ≠ .blind) : (g.enter stage).Ok :=
    ok.enter (by rw [watch]; decide) (ok.failures_few (by rw [watch]; decide)) thaw blind fun _ => flat
  unfold Machine.judgeWatch
  split
  next => exact enters (by decide) (by decide)
  next =>
    split
    next => exact enters (by split <;> decide) (by split <;> decide)
    next => exact ok

theorem judgePreheat (ok : g.Ok) (preheat : g.stage = .preheat) : (judgePreheat t g).record.Ok := by
  have enters {stage : Stage} (thaw : stage ≠ .thaw) (blind : stage ≠ .blind) : (g.enter stage).Ok :=
    ok.enter (by rw [preheat]; decide) (ok.failures_few (by rw [preheat]; decide)) thaw blind fun _ =>
      ok.balanced (.inr (.inr preheat))
  have unbalance : (g.enter .unbalance).Ok := enters (by decide) (by decide)
  unfold Machine.judgePreheat
  split
  next => exact unbalance
  next =>
    split
    next => exact enters (by decide) (by decide)
    next =>
      split
      next => exact unbalance
      next =>
        split
        next => exact unbalance
        next => exact ok

theorem judgeUnbalance (ok : g.Ok) (unbalance : g.stage = .unbalance) : (judgeUnbalance t g).record.Ok := by
  have few := ok.failures_few (by rw [unbalance]; decide)
  have left : g.stage ≠ .blind := by rw [unbalance]; decide
  unfold Machine.judgeUnbalance
  split
  next =>
    exact
      { ok with
        elapsed := Nat.zero_le _, success := Nat.zero_le _, thawing := fun _ => ⟨by show 0 < 360; decide, by show 0 < 18; decide⟩
        r := ok.r, pinned := ok.pinned
        blind := by
          show g.blindPhase.isSome = false
          rw [ok.phase_none left]
          rfl
        balanced := by rintro (⟨⟨⟩⟩ | ⟨⟨⟩⟩ | ⟨⟨⟩⟩), failures := few }
  next =>
    split
    next low => exact ok.enter left few (by split <;> decide) (by split <;> decide) fun _ => low.1
    next => exact ok

theorem judgeThaw (ok : g.Ok) (st : t.Ok) (thaw : g.stage = .thaw) (eha : Int) : (judgeThaw t g eha).record.Ok := by
  have long : t.get .thawMax ≤ 60 := (st.range .thawMax).2
  unfold Machine.judgeThaw
  dsimp only
  split
  next => exact ok.thawSucceeds st thaw eha
  next few =>
    split
    next => exact ok.thawTimesOut st thaw eha
    next short =>
      have elapsed : (g.countThaw t eha).elapsed < 360 := by
        unfold Settings.nat at short
        omega
      have success : (g.countThaw t eha).success < 18 := by omega
      exact
        { ok with
          elapsed := Nat.le_of_lt elapsed, success := Nat.le_of_lt success, thawing := fun _ => ⟨elapsed, success⟩ }

theorem judgeLockout (ok : g.Ok) (lockout : g.stage = .lockout) (oda : Option Int) :
    (judgeLockout t g oda).record.Ok := by
  unfold Machine.judgeLockout
  split
  next =>
    split
    next => exact ok.release lockout
    next short => exact { ok with warmth := by show g.warmth + 1 < 360; omega }
  next => exact { ok with warmth := by show 0 < 360; decide }

/-- The stage machine keeps the record in its ranges (R74 to R81, R87 to R89). -/
theorem judgeStage (ok : g.Ok) (st : t.Ok) (eha oda : Option Int) : (judgeStage t g eha oda).record.Ok := by
  unfold Machine.judgeStage
  split
  case h_1 lockout => exact ok.judgeLockout lockout oda
  case h_2 blind => exact ok.leaveBlind st blind
  case h_3 blind => exact ok.blindStep st blind oda
  case h_4 lockout _ => exact ok.enterBlind st lockout oda
  case h_5 normal => exact ok.judgeNormal normal
  case h_6 watch => exact ok.judgeWatch watch
  case h_7 preheat => exact ok.judgePreheat preheat
  case h_8 unbalance => exact ok.judgeUnbalance unbalance
  case h_9 thaw => exact ok.judgeThaw st thaw _

theorem ramp (ok : g.Ok) (st : t.Ok) (isRamp : Bool) : (g.ramp t isRamp).Ok := by
  have high : t.get .maxUnbalance ≤ 1000 := (st.range .maxUnbalance).2
  refine { ok with r := ?r, balanced := ?balanced }
  case r =>
    unfold FrostRecord.ramp Settings.nat
    dsimp only
    omega
  case balanced =>
    intro h
    have flat := ok.balanced h
    have outside : (g.stage == .unbalance) = false := by
      rcases h with h | h | h <;> rw [show g.stage = _ from h] <;> rfl
    show min (if isRamp && g.stage == .unbalance then _ else _) _ = 0
    rw [outside, Bool.and_false, if_neg (by decide), flat, Nat.zero_min]

theorem heat (ok : g.Ok) (st : t.Ok) (may : Bool) (eha : Option Int) (rose : Bool) : (g.heat t may eha rose).Ok := by
  have high : t.get .preheatMax ≤ 1000 := (st.range .preheatMax).2
  refine { ok with duty := ?duty, pinned := ?pinned }
  case duty =>
    unfold FrostRecord.heat nextDuty clampInt
    dsimp only
    split
    next => split <;> omega
    next => exact Nat.zero_le _
  case pinned =>
    have counted (c : Bool) : (if c then min (g.pinned + 1) 180 else 0) ≤ 180 := by split <;> omega
    exact counted _

/-- A crossing of the frost guard keeps the record in its ranges. -/
theorem row (ok : g.Ok) (st : t.Ok) {oda : Option Int} {m : FrostMove} (h : FrostRow t g oda m) : m.record.Ok := by
  cases h with
  | success thaw eha => exact ok.thawSucceeds st thaw eha
  | timeout thaw eha warming => exact ok.thawTimesOut st thaw eha
  | release lockout => exact ok.release lockout
  | turn blind => exact ok.blindTurn st blind oda

theorem clearLockout (ok : g.Ok) (st : t.Ok) (lockout : g.stage = .lockout) : (g.clearLockout t).Ok :=
  { ok with
    f := (thresholds_le st).2, r := Nat.zero_le _, warmth := by show 0 < 360; decide, pinned := ok.pinned
    thawing := by rintro ⟨⟩
    blind := by
      show g.blindPhase.isSome = false
      rw [ok.phase_none (by rw [lockout]; decide)]
      rfl
    balanced := fun _ => rfl, failures := Nat.zero_le 2 }

end

end FrostRecord.Ok

/-! ### The record through a frost step and a control step -/

theorem frostIndex_le (t : Settings) {g : FrostRecord} (h : g.f ≤ 10000) (eha : Option Int) (ah : Option Nat)
    (shortfall : Bool) : frostIndex t g eha ah shortfall ≤ 10000 := by
  unfold frostIndex clampInt
  dsimp only
  split
  next => exact h
  next =>
    split
    next => exact h
    next => split <;> omega

section
variable {s t : State} (st : s.settings.Ok) (ok : s.frost.record.Ok)
include st ok

theorem frostDriven_ok : (frostDriven s).Ok := by
  have updated : (frostUpdated s).Ok := ok.countGap.withF (frostIndex_le _ ok.countGap.f _ _ _)
  exact ((updated.judgeStage st _ _).ramp st _).heat st _ _ _

theorem Served.frost_ok {l : Link} (h : Served s l t) : t.frost.record.Ok := by
  cases h with
  | clearsLockout lockout => rw [takeFrostMove_frost]; exact ok.clearLockout st lockout
  | clearsPreheater => exact { ok with }
  | aborts => rw [abortProcedure_frost]; exact ok
  | clearsFan => rw [handFan_frost]; exact ok
  | setsTime c => rw [setTime_frame]; exact ok
  | sets k v free => rw [storeKey_frost]; exact ok
  | _ => exact ok

end

/-- The state on which a control step judges the preheater: the fans have taken their step, and the probes are read. -/
def probesRead (s : State) (inp : ControlInputs) : State :=
  judgeTruths (readAirProbe (readAirProbe (readAirProbe (readAirProbe (fansStep s inp.supplyFlow inp.extractFlow)
    .oda inp.oda) .sup inp.sup) .eta inp.eta) .eha inp.eha)

theorem controlStep_frost (s : State) (inp : ControlInputs) :
    (controlStep s inp).frost = (overheat (interlock (probesRead s inp))).frost := by
  simp [controlStep, frostControl, probesRead]

@[simp] theorem probesRead_record (s : State) (inp : ControlInputs) :
    (probesRead s inp).frost.record = s.frost.record := by
  simp [probesRead]

/-- The preheater's tests of a control step may set its duty to 0 and latch its fault, and leave the rest of the record
(R83, R86). -/
theorem preheaterTests_record (u : State) :
    ∃ duty fault, duty ≤ u.frost.record.duty ∧
      (overheat (interlock u)).frost.record = { u.frost.record with duty := duty, fault := fault } := by
  unfold overheat
  split
  next => exact ⟨0, true, Nat.zero_le _, rfl⟩
  next =>
    refine ⟨_, _, ?_, rfl⟩
    split
    next => exact Nat.le_refl _
    next => exact Nat.zero_le _

theorem Deed.frost_ok {s t : State} {c : Instr} (h : Deed c s t) (st : s.settings.Ok) (ok : s.frost.record.Ok) :
    t.frost.record.Ok := by
  have kept {u : State} (same : u.frost = s.frost) : u.frost.record.Ok := by rw [same]; exact ok
  cases h with
  | powerOn => exact FrostRecord.reset_ok
  | load read row loading => rw [startUp_frost]; exact ok
  | control inp =>
    obtain ⟨duty, fault, low, record⟩ := preheaterTests_record (probesRead s inp)
    rw [probesRead_record] at low record
    rw [controlStep_frost, record]
    exact { ok with duty := Nat.le_trans low ok.duty }
  | airProbe n p => rw [handAirProbe_frost]; exact ok
  | frost loaded => rw [frostStep_frost]; exact frostDriven_ok st ok
  | frostMove m row => rw [takeFrostMove_frost]; exact ok.row st row
  | gap => exact ok.countGap
  | answers l tag kind r loaded =>
    show (answer s l r).state.frost.record.Ok
    exact (answer_served s l r).frost_ok st ok
  | nothing | pulse | heater | travel | handover | window | link | turnsAway | writes | written | rewritten => exact ok
  | _ => exact kept (by simp)

end Sys2Proof.Machine

namespace Sys2Proof

open Machine

/-- Settles O11: the stage machine, the ramp and the duty of a frost step, and each crossing, keep the record in its
ranges; a control step can only stop the preheater. -/
theorem frostRecordStaysInRange : Obligations.FrostRecordStaysInRange := by
  intro s t st ok h
  obtain ⟨-, rfl⟩ | ⟨c, rest, -, deed⟩ := step_cases h
  · rw [tickSecond_frost]; exact ok
  · exact deed.frost_ok (s := { s with pending := rest }) st ok

end Sys2Proof
end

section
/-! PROOFS. What every step keeps of the filter records and of the running procedure's counts (R134, R137, R145). -/

namespace Sys2Proof.Machine

/-! ### A filter's record (R134) -/

/-- The persisted fields within their ranges (R134). -/
structure Persisted.Ok (k : Persisted) : Prop where
  clean : ∀ d, k.clean = some d → 10 ≤ d ∧ d ≤ 5000
  volume : k.volume ≤ countLimit
  running : k.running ≤ countLimit
  age : k.age ≤ countLimit
  changes : k.changes ≤ 65535

theorem normalisedDrop_le (dp qRef q : Nat) : normalisedDrop dp qRef q ≤ 5000 := Nat.min_le_right ..

/-- A value that moves by a part of its distance to a goal comes no further than the goal (R115, R140). -/
theorem approach_le {x goal bound : Nat} (hx : x ≤ bound) (hgoal : goal ≤ bound) : approach 16 x goal ≤ bound := by
  unfold approach
  obtain up | down := Nat.le_total x goal
  · rw [Int.tdiv_eq_ediv_of_nonneg (by omega)]
    omega
  · rw [← Int.neg_sub, Int.neg_tdiv, Int.tdiv_eq_ediv_of_nonneg (by omega)]
    omega

theorem smoothedAfter_le {smoothed : Option Nat} {d : Nat} (held : ∀ x, smoothed = some x → x ≤ 5000) (h : d ≤ 5000) :
    smoothedAfter smoothed d ≤ 5000 := by
  unfold smoothedAfter
  split
  next => exact h
  next x => exact approach_le (held x rfl) h

theorem pressureLoading_le (clean : Option Nat) (factor ds : Nat) : pressureLoading clean factor ds ≤ 100 := by
  unfold pressureLoading clampInt
  split
  next => exact Nat.zero_le _
  next => omega

theorem missingAfter_le (clean : Option Nat) (ds : Nat) {missing : Nat} (h : missing ≤ 10) :
    missingAfter clean ds missing ≤ 10 := by
  unfold missingAfter
  split
  next => exact h
  next =>
    split
    · omega
    · split <;> omega

namespace FilterRecord.Ok

section
variable {x : FilterRecord}

theorem read {dp : Nat} (good : dp ≤ 5000) : ∀ d, some dp = some d → d ≤ 5000 := by
  rintro d ⟨⟩
  exact good

theorem judgeProbe (ok : x.Ok) (c : Conversion) : (x.judgeProbe c).Ok := by
  have good {dp : Nat} (h : goodReading c = some dp) : dp ≤ 5000 := by
    unfold goodReading at h
    split at h
    next =>
      split at h
      next low => cases h; exact low
      next => cases h
    next => cases h
  unfold FilterRecord.judgeProbe
  split
  next dp h => exact { ok with lastGood := read (good h) }
  next => split <;> exact { ok with }
  next => exact { ok with }
  next dp h =>
    split
    next => exact { ok with }
    next => exact { ok with lastGood := read (good h) }

theorem row (ok : x.Ok) {y : FilterRecord} (h : FilterRow x y) : y.Ok := by
  cases h with
  | losesProbe => exact { ok with }
  | regainsProbe dp good => exact { ok with lastGood := read good }

theorem older (ok : x.Ok) : x.older.Ok := { ok with age := Nat.min_le_right .. }

theorem pass (ok : x.Ok) (q : Nat) : (x.pass q).Ok :=
  { ok with
    volume := Nat.min_le_right ..
    running := Nat.min_le_right ..
    carry := by
      unfold FilterRecord.pass
      dsimp only
      split <;> omega }

theorem minute (ok : x.Ok) (runs : Bool) (q : Nat) : (x.minute runs q).Ok := by
  unfold FilterRecord.minute
  split
  next => exact ok.older.pass q
  next => exact ok.older

theorem press (ok : x.Ok) (t : Settings) (dp q : Nat) : (x.press t dp q).Ok :=
  { ok with
    smoothed := by
      rintro d ⟨⟩
      exact smoothedAfter_le ok.smoothed (normalisedDrop_le ..)
    loading := pressureLoading_le ..
    missing := missingAfter_le _ _ ok.missing }

theorem decide (ok : x.Ok) (t : Settings) (shortfall : Bool) : (x.decide t shortfall).Ok :=
  { ok with lifeUsed := Nat.min_le_left .. }

theorem step (ok : x.Ok) (t : Settings) (f : Side) (fan : FanRecord) (stage : Stage) : (x.step t f fan stage).Ok := by
  unfold FilterRecord.step
  split
  next =>
    refine FilterRecord.Ok.decide ?_ ..
    split
    next => exact ok.press ..
    next => exact ok
  next => exact ok

/-- A record with fields handed to it, and nothing measured since (R150, R155). -/
theorem withKept (ok : x.Ok) {k : Persisted} (kept : k.Ok) {smoothed : Option Nat}
    (low : ∀ d, smoothed = some d → d ≤ 5000) :
    { x with kept := k, smoothed := smoothed, loading := 0, carry := 0, missing := 0 }.Ok :=
  { ok with
    clean := kept.clean, smoothed := low, loading := Nat.zero_le _, volume := kept.volume, carry := Nat.zero_le _
    running := kept.running, age := kept.age, changes := kept.changes, missing := Nat.zero_le _ }

theorem fill (ok : x.Ok) (t : Settings) {k : Persisted} (kept : k.Ok) (shortfall : Bool) : (x.fill t k shortfall).Ok :=
  (ok.withKept kept (by simp)).decide ..

theorem renew (ok : x.Ok) {clean : Nat} (low : 10 ≤ clean) (high : clean ≤ 5000) : (x.renew clean).Ok := by
  refine ok.withKept ⟨?clean, Nat.zero_le _, Nat.zero_le _, Nat.zero_le _, Nat.min_le_right ..⟩ ?smoothed
  case clean => rintro d ⟨⟩; exact ⟨low, high⟩
  case smoothed => rintro d ⟨⟩; exact high

end

end FilterRecord.Ok

/-! ### The fields a load gives (R183, R193) -/

theorem imagePersisted_ok (bs : List Byte) (i : Nat) : (imagePersisted bs i).Ok := by
  refine ⟨?clean, Nat.min_le_right .., Nat.min_le_right .., Nat.min_le_right .., ?changes⟩
  case clean =>
    intro d h
    unfold imagePersisted clampNat at h
    dsimp only at h
    split at h
    next => cases h
    next => cases h; omega
  case changes =>
    have wide := (halfAt bs (i + 14)).isLt
    show (halfAt bs (i + 14)).toNat ≤ 65535
    omega

theorem Persisted.reset_ok : Persisted.reset.Ok := by
  constructor <;> simp [Persisted.reset]

theorem loadedFrom_persisted_ok (r : ImageRead) (f : Side) : ((loadedFrom r).persisted.get f).Ok := by
  unfold loadedFrom
  split
  next =>
    split
    next => cases f <;> exact imagePersisted_ok ..
    next => cases f <;> exact Persisted.reset_ok
  next => cases f <;> exact Persisted.reset_ok

/-! ### The samples of a procedure (R148, R149) -/

section
variable {s : State} {sel : Selection} {taken new : PerSide (List Nat)}

/-- Samples that are taken join the lists of the selected sides. -/
theorem sampleBoth_new (h : sampleBoth s sel taken = .ok new) (f : Side) :
    new.get f = if sel.has f then taken.get f ++ [sampleDrop s f] else taken.get f := by
  by_cases fails : ∃ g q, sel.has g = true ∧ sampleFails s g = some q
  · obtain ⟨g, q, has, bad⟩ := fails
    obtain ⟨f, r, -, -, error⟩ := sampleBoth_fails has bad taken
    rw [error] at h
    cases h
  · have passes : ∀ f, sel.has f = true → sampleFails s f = none := fun f has =>
      Option.eq_none_iff_forall_ne_some.mpr fun q bad => fails ⟨f, q, has, bad⟩
    have joined := sampleBoth_ok passes (taken := taken)
      (new := ⟨if sel.has .supply then taken.supply ++ [sampleDrop s .supply] else taken.supply,
        if sel.has .extract then taken.extract ++ [sampleDrop s .extract] else taken.extract⟩)
      (fun f => by cases f <;> rfl)
    rw [joined] at h
    cases h
    cases f <;> rfl

theorem sampleBoth_counts {n : Nat} (tenth : (n + 1) % 10 = 0)
    (ok : ∀ f, (taken.get f).length = (if sel.has f then n / 10 else 0) ∧ ∀ d ∈ taken.get f, d ≤ 5000)
    (h : sampleBoth s sel taken = .ok new) (f : Side) :
    (new.get f).length = (if sel.has f then (n + 1) / 10 else 0) ∧ ∀ d ∈ new.get f, d ≤ 5000 := by
  obtain ⟨length, low⟩ := ok f
  have drop : sampleDrop s f ≤ 5000 := normalisedDrop_le ..
  rw [sampleBoth_new h f]
  cases has : sel.has f with
  | false =>
    rw [has] at length
    simp only [Bool.false_eq_true, ↓reduceIte] at length ⊢
    exact ⟨length, low⟩
  | true =>
    rw [has] at length
    simp only [↓reduceIte, List.length_append, List.length_singleton, List.mem_append, List.mem_singleton] at length ⊢
    refine ⟨by omega, ?_⟩
    rintro d (old | rfl)
    · exact low d old
    · exact drop

theorem sum_le_of_forall_le {l : List Nat} {c : Nat} (low : ∀ d ∈ l, d ≤ c) : l.sum ≤ l.length * c := by
  induction l with
  | nil => exact Nat.zero_le _
  | cons d ds ih =>
    rw [List.sum_cons, List.length_cons, Nat.succ_mul, Nat.add_comm]
    exact Nat.add_le_add (ih fun e h => low e (List.mem_cons_of_mem _ h)) (low d List.mem_cons_self)

theorem cleanReference_bounds {l : List Nat} (six : l.length = 6) (low : ∀ d ∈ l, d ≤ 5000) :
    10 ≤ cleanReference l ∧ cleanReference l ≤ 5000 := by
  have sum := sum_le_of_forall_le low
  rw [six] at sum
  unfold cleanReference
  omega

end

/-! ### The procedure stays or ends (R145, R153) -/

/-- The procedure goes on as it was, or has ended. -/
def ProcedureStays (s t : State) : Prop :=
  t.runner.procedure = s.runner.procedure ∨ t.runner.procedure = .idle

section
variable {s t u : State}

theorem ProcedureStays.refl (s : State) : ProcedureStays s s := .inl rfl

theorem ProcedureStays.of_runner (h : t.runner = s.runner) : ProcedureStays s t := .inl (by rw [h])

theorem ProcedureStays.trans (a : ProcedureStays s t) (b : ProcedureStays t u) : ProcedureStays s u := by
  obtain b | b := b
  · obtain a | a := a
    · exact .inl (b.trans a)
    · exact .inr (b.trans a)
  · exact .inr b

theorem ProcedureStays.ok (h : ProcedureStays s t) (counts : s.runner.procedure.Ok) : t.runner.procedure.Ok := by
  obtain same | ended := h
  · rw [same]; exact counts
  · rw [ended]; exact trivial

variable (s)

theorem endedRunner_stays (o : ProcedureOutcome) (r : PerSide (Option Nat)) :
    (endedRunner s o r).procedure = .idle := by
  unfold endedRunner
  split
  next none =>
    cases h : s.runner.procedure with
    | idle => rfl
    | settling => rw [h] at none; cases none
    | measuring => rw [h] at none; cases none
  next => rfl

/-- After the end of a procedure none runs (R153). -/
theorem finishProcedure_idle (o : ProcedureOutcome) (r : PerSide (Option Nat)) :
    (finishProcedure s o r).runner.procedure = .idle := by
  rw [finishProcedure_runner]
  exact endedRunner_stays ..

theorem ProcedureStays.handFan (f : Side) (x : FanRecord) : ProcedureStays s (handFan s f x) := by
  unfold ProcedureStays
  rw [handFan_runner]
  split
  next => exact .inr (endedRunner_stays ..)
  next => exact .inl rfl

theorem ProcedureStays.controlStep (inp : ControlInputs) : ProcedureStays s (controlStep s inp) := by
  have fans : ProcedureStays s (fansStep s inp.supplyFlow inp.extractFlow) := (handFan ..).trans (.handFan ..)
  exact fans.trans (.of_runner (by simp [Machine.controlStep]))

theorem ProcedureStays.applyFrostMove (m : FrostMove) : ProcedureStays s (applyFrostMove s m) := by
  by_cases same : s.frost.record.stage = m.record.stage
  · refine .of_runner ?_
    simp [Machine.applyFrostMove, stageChanged, same]
  · unfold ProcedureStays
    rw [applyFrostMove_runner s m same]
    split
    next => exact .inr (endedRunner_stays ..)
    next => exact .inl rfl

theorem ProcedureStays.takeFrostMove (m : FrostMove) : ProcedureStays s (takeFrostMove s m) := by
  refine (ProcedureStays.applyFrostMove s m).trans (.of_runner ?_)
  unfold Machine.takeFrostMove
  dsimp only
  split <;> rfl

theorem ProcedureStays.frostStep : ProcedureStays s (frostStep s) := by
  refine (ProcedureStays.applyFrostMove s (frostMove s)).trans (.of_runner ?_)
  unfold Machine.frostStep
  dsimp only
  split <;> rfl

theorem ProcedureStays.resetLink (l : Link) : ProcedureStays s (resetLink s l) := by
  show ProcedureStays s (resetProcedure (dropLinkEntries s l) l)
  refine (ProcedureStays.of_runner (dropLinkEntries_runner s l)).trans ?_
  unfold resetProcedure
  split
  next =>
    split
    next => exact .inr (finishProcedure_idle ..)
    next => exact .refl _
  next => exact .refl _

end

/-! ### Both records through a step -/

section
variable {s t : State} (ok : ∀ f, (s.filters.records.get f).Ok)
include ok

theorem commit_ok {sel : Selection} {taken : PerSide (List Nat)}
    (six : ∀ f, sel.has f = true → (taken.get f).length = 6 ∧ ∀ d ∈ taken.get f, d ≤ 5000) :
    ∀ f, ((commit s sel taken).filters.records.get f).Ok := by
  intro f
  rw [commit_record]
  cases has : sel.has f with
  | false => rw [committed_unselected s taken has]; exact ok f
  | true =>
    obtain ⟨length, low⟩ := six f has
    obtain ⟨atLeast, atMost⟩ := cleanReference_bounds length low
    rw [committed_selected s taken has]
    exact ((ok f).renew atLeast atMost).decide ..

theorem filterStep_ok : ∀ f, ((filterStep s).filters.records.get f).Ok := by
  intro f
  rw [filterStep_eq]
  cases f <;> exact FilterRecord.Ok.step (ok _) ..

theorem filtersMinute_ok : ∀ f, ((filtersMinute s).filters.records.get f).Ok := by
  intro f
  unfold filtersMinute
  dsimp only
  split
  next => exact ok f
  next => split <;> cases f <;> exact FilterRecord.Ok.minute (ok _) ..

theorem minuteTick_ok : ∀ f, ((minuteTick s).filters.records.get f).Ok := by
  unfold minuteTick
  refine filtersMinute_ok fun f => ?_
  simpa using ok f

theorem tickSecond_filters_ok : ∀ f, ((tickSecond s).filters.records.get f).Ok := by
  have same : (tickSecond s).filters = (timeSecond s).filters := by simp [tickSecond]
  rw [same]
  unfold timeSecond
  split
  next => exact minuteTick_ok ok
  next => exact ok

theorem Served.filters_ok {l : Link} (h : Served s l t) : ∀ f, (t.filters.records.get f).Ok := by
  cases h with
  | aborts => rw [abortProcedure_filters]; exact ok
  | clearsFan => rw [handFan_filters]; exact ok
  | clearsLockout => rw [takeFrostMove_filters]; exact ok
  | setsTime c => rw [setTime_frame]; exact ok
  | sets k v free => rw [storeKey_filters]; exact ok
  | _ => exact ok

theorem takeSample_ok {owner : Link} {sel : Selection} {n : Nat} {taken : PerSide (List Nat)}
    (counts : Procedure.Ok (.measuring owner sel n taken)) (tenth : (n + 1) % 10 = 0) :
    (∀ f, ((takeSample s owner sel (n + 1) taken).filters.records.get f).Ok) ∧
      (takeSample s owner sel (n + 1) taken).runner.procedure.Ok := by
  obtain ⟨short, samples⟩ := counts
  cases sampled : sampleBoth s sel taken with
  | error o =>
    rw [takeSample_fails sampled, finishProcedure_filters, finishProcedure_idle]
    exact ⟨ok, trivial⟩
  | ok new =>
    have counted := sampleBoth_counts tenth samples sampled
    by_cases early : n + 1 < 60
    · rw [takeSample_goesOn sampled early]
      exact ⟨ok, early, counted⟩
    · obtain rfl : n = 59 := by omega
      rw [takeSample_commits sampled]
      refine ⟨commit_ok ok fun f has => ?_, ?_⟩
      · obtain ⟨length, low⟩ := counted f
        rw [if_pos has] at length
        exact ⟨length, low⟩
      · rw [commit_runner, endedRunner_stays]
        exact trivial

theorem procedureSecond_ok (counts : s.runner.procedure.Ok) :
    (∀ f, ((procedureSecond s).filters.records.get f).Ok) ∧ (procedureSecond s).runner.procedure.Ok := by
  cases phase : s.runner.procedure with
  | idle =>
    rw [procedureSecond, phase]
    exact ⟨ok, counts⟩
  | settling owner sel n =>
    have short : n < 90 := by rw [phase] at counts; exact counts
    by_cases early : n < 89
    · rw [procedureSecond_settles phase early]
      exact ⟨ok, show n + 1 < 90 by omega⟩
    · obtain rfl : n = 89 := by omega
      rw [procedureSecond_checks phase, takeFlowCheck_filters]
      refine ⟨ok, ?_⟩
      cases check : flowCheckFails s sel with
      | some o => rw [takeFlowCheck_fails check, finishProcedure_idle]; exact trivial
      | none =>
        rw [takeFlowCheck_passes check]
        exact ⟨by decide, fun f => by cases f <;> simp [PerSide.get]⟩
  | measuring owner sel n taken =>
    rw [phase] at counts
    by_cases tenth : (n + 1) % 10 = 0
    · rw [procedureSecond_samples phase tenth]
      exact takeSample_ok ok counts tenth
    · obtain ⟨short, samples⟩ := counts
      rw [procedureSecond_measures phase tenth]
      refine ⟨ok, show n + 1 < 60 by omega, fun f => ?_⟩
      obtain ⟨length, low⟩ := samples f
      refine ⟨?_, low⟩
      rw [length, show (n + 1) / 10 = n / 10 by omega]

theorem Deed.filters_ok {c : Instr} (h : Deed c s t) (counts : s.runner.procedure.Ok) :
    ∀ f, (t.filters.records.get f).Ok := by
  have kept {u : State} (same : u.filters = s.filters) : ∀ f, (u.filters.records.get f).Ok := by rw [same]; exact ok
  cases h with
  | powerOn => exact fun f => by cases f <;> exact FilterRecord.reset_ok
  | load read row loading =>
    intro f
    rw [startUp_filters, setUp_filter]
    exact (ok f).fill _ (loadedFrom_persisted_ok read f) _
  | control inp =>
    intro f
    rw [controlStep_filters]
    exact (ok f).judgeProbe _
  | filterProbe f x row =>
    intro g
    rw [handFilterProbe_filters, PerSide.get_set]
    split
    next => exact (ok f).row row
    next => exact ok g
  | minute => exact minuteTick_ok ok
  | filterStep => exact filterStep_ok ok
  | procedure => exact (procedureSecond_ok ok counts).1
  | answers l tag kind r loaded =>
    show ∀ f, ((answer s l r).state.filters.records.get f).Ok
    exact (answer_served s l r).filters_ok ok
  | nothing | pulse | heater | gap | travel | handover | window | link | turnsAway | writes | written | rewritten =>
    exact ok
  | _ => exact kept (by simp)

end

section
variable {s t : State}

theorem Served.procedure_ok {l : Link} (h : Served s l t) (counts : s.runner.procedure.Ok) :
    t.runner.procedure.Ok := by
  cases h with
  | starts sel passed => exact show 0 < 90 by decide
  | aborts => exact ProcedureStays.ok (.inr (finishProcedure_idle ..)) counts
  | clearsFan => exact (ProcedureStays.handFan ..).ok counts
  | clearsLockout => exact (ProcedureStays.takeFrostMove ..).ok counts
  | setsTime c => rw [setTime_frame]; exact counts
  | sets k v free => rw [storeKey_runner]; exact counts
  | _ => exact counts

theorem Deed.procedure_ok {c : Instr} (h : Deed c s t) (ok : ∀ f, (s.filters.records.get f).Ok)
    (counts : s.runner.procedure.Ok) : t.runner.procedure.Ok := by
  have kept {u : State} (same : u.runner = s.runner) : u.runner.procedure.Ok := by rw [same]; exact counts
  cases h with
  | powerOn => exact trivial
  | minute => rw [minuteTick_runner]; exact counts
  | control inp => exact (ProcedureStays.controlStep ..).ok counts
  | fan f x row => exact (ProcedureStays.handFan ..).ok counts
  | frost loaded => exact (ProcedureStays.frostStep s).ok counts
  | frostMove m row => exact (ProcedureStays.takeFrostMove ..).ok counts
  | procedure => exact (procedureSecond_ok ok counts).2
  | reset l => exact (ProcedureStays.resetLink s l).ok counts
  | answers l tag kind r loaded =>
    show (answer s l r).state.runner.procedure.Ok
    exact (answer_served s l r).procedure_ok counts
  | nothing | pulse | heater | gap | travel | handover | window | link | turnsAway | writes | written | rewritten =>
    exact counts
  | _ => exact kept (by simp)

end

end Sys2Proof.Machine

namespace Sys2Proof

open Machine

/-- Settles O12: each operation on a filter's record stays within the ranges, the clean reference of a commit because it
is the mean of six samples; a running procedure counts to its ends and no further. -/
theorem filterRecordsStayInRange : Obligations.FilterRecordsStayInRange := by
  intro s t ok counts h
  obtain ⟨-, rfl⟩ | ⟨c, rest, -, deed⟩ := step_cases h
  · rw [tickSecond_runner]
    exact ⟨tickSecond_filters_ok ok, counts⟩
  · exact ⟨deed.filters_ok (s := { s with pending := rest }) ok counts,
      deed.procedure_ok (s := { s with pending := rest }) ok counts⟩

end Sys2Proof
end

section
/-! PROOFS. What every step keeps of a running procedure's surroundings (R145, R146, R151): a stage or a fan's state in
which none may run ends it, and every recompute while it runs sets both targets to `q_ref` (R32). -/

namespace Sys2Proof.Machine

/-- A running procedure's surroundings stay clear. -/
structure Clears (s t : State) : Prop where
  clear : ProcedureClear s → ProcedureClear t

section
variable {s t u : State}

theorem Clears.refl (s : State) : Clears s s := ⟨id⟩

theorem Clears.trans (a : Clears s t) (b : Clears t u) : Clears s u := ⟨b.clear ∘ a.clear⟩

theorem Clears.ite {p : Prop} [Decidable p] (yes : p → Clears s t) (no : ¬p → Clears s u) :
    Clears s (if p then t else u) := by
  split
  next h => exact yes h
  next h => exact no h

/-- With no procedure running nothing is asked. -/
theorem ProcedureClear.of_idle (h : t.runner.procedure = .idle) : ProcedureClear t := by
  intro running
  rw [h] at running
  cases running

theorem Clears.same (runner : t.runner.procedure = s.runner.procedure) (loading : t.isLoading = s.isLoading)
    (settings : t.settings = s.settings) (fans : t.fans = s.fans)
    (stage : t.frost.record.stage = s.frost.record.stage) (op : t.op = s.op) : Clears s t := by
  refine ⟨fun h running => ?_⟩
  rw [runner] at running
  rw [loading, settings, fans, stage, op]
  exact h running

/-- A recompute while a procedure runs sets both targets to `q_ref` (R32). -/
theorem ProcedureClear.notice (h : s.runner.procedure.isRunning = true →
    s.isLoading = false ∧ s.frost.record.stage.bars = false ∧ ∀ f, (s.fans.get f).state.faulted = false) :
    ProcedureClear (notice s) := by
  intro running
  obtain ⟨loaded, stage, fans⟩ := h running
  refine ⟨loaded, stage, fans, ?_⟩
  rw [notice_op loaded]
  exact resolve_procedure running fans

theorem ProcedureClear.of_notice (e : t = Machine.notice u) (h : t.runner.procedure.isRunning = true →
    t.isLoading = false ∧ t.frost.record.stage.bars = false ∧ ∀ f, (t.fans.get f).state.faulted = false) :
    ProcedureClear t := by
  subst e
  exact .notice h

theorem Clears.notice (s : State) : Clears s (notice s) := by
  refine ⟨fun h => ProcedureClear.notice fun running => ?_⟩
  obtain ⟨loaded, stage, fans, -⟩ := h running
  exact ⟨loaded, stage, fans⟩

/-- A change that leaves the procedure, the stage and the fans, and its notice: the recompute sets the targets again. -/
theorem Clears.sameNotice (runner : t.runner.procedure = s.runner.procedure) (loading : t.isLoading = s.isLoading)
    (fans : t.fans = s.fans) (stage : t.frost.record.stage = s.frost.record.stage) : Clears s (Machine.notice t) := by
  refine ⟨fun h => ProcedureClear.notice fun running => ?_⟩
  rw [runner] at running
  obtain ⟨loaded, sound, spinning, -⟩ := h running
  rw [loading, fans, stage]
  exact ⟨loaded, sound, spinning⟩

end

/-! ### Fans (R35, R151) -/

section
variable (s : State)

theorem Clears.raiseTo (k : EventKind) (dest : Option Link) : Clears s (raiseTo s k dest) :=
  .same rfl rfl rfl rfl rfl rfl

theorem Clears.raise (k : EventKind) : Clears s (raise s k) := .raiseTo s k none

theorem Clears.writeLog (b : LogBody) : Clears s (writeLog s b) := .same rfl rfl rfl rfl rfl rfl

theorem Clears.finishProcedure (o : ProcedureOutcome) (r : PerSide (Option Nat)) : Clears s (finishProcedure s o r) :=
  ⟨fun _ => .of_idle (finishProcedure_idle ..)⟩

/-- A fan's change of state ends in a notice (R26, R49). -/
theorem handFan_notices (f : Side) (x : FanRecord) (h : (s.fans.get f).state ≠ x.state) :
    ∃ v, handFan s f x = Machine.notice v := by
  unfold handFan fanChanged
  dsimp only
  rw [if_neg h]
  exact ⟨_, rfl⟩

/-- A fan's record replaced by one in the same state. -/
theorem Clears.setFan {f : Side} {x : FanRecord} (same : (s.fans.get f).state = x.state) :
    Clears s { s with fans := s.fans.set f x } := by
  refine ⟨fun h running => ?_⟩
  obtain ⟨loaded, stage, fans, targets⟩ := h running
  refine ⟨loaded, stage, fun g => ?_, targets⟩
  show ((s.fans.set f x).get g).state.faulted = false
  rw [PerSide.get_set]
  split
  next => rw [← same, fans]
  next => exact fans g

theorem Clears.handFan (f : Side) (x : FanRecord) : Clears s (handFan s f x) := by
  refine ⟨fun h => ?_⟩
  by_cases same : (s.fans.get f).state = x.state
  · rw [handFan_still s f x same]
    split
    next => exact (Clears.setFan s same).clear h
    next => exact ((Clears.setFan s same).trans ((Clears.raise _ .probeFault).trans (.writeLog ..))).clear h
  · obtain ⟨v, notices⟩ := handFan_notices s f x same
    refine .of_notice notices fun running => ?_
    rw [handFan_runner] at running
    split at running
    next => rw [endedRunner_stays] at running; cases running
    next goesOn =>
      obtain ⟨loaded, stage, fans, -⟩ := h running
      refine ⟨(isLoading_congr (by simp)).trans loaded, by rw [handFan_frost]; exact stage, fun g => ?_⟩
      rw [handFan_fans, PerSide.get_set]
      split
      next => simpa using fun faulted => goesOn ⟨same, faulted⟩
      next => exact fans g

theorem Clears.fansStep (a b : Conversion) : Clears s (fansStep s a b) := (Clears.handFan ..).trans (.handFan ..)

/-! ### The control step (R49, R66) -/

theorem Clears.handAirProbe (n : AirProbe) (p : ProbeRecord) : Clears s (handAirProbe s n p) :=
  .same (by simp) (isLoading_congr (by simp)) (settings_congr (by simp)) (by simp) (by rw [handAirProbe_frost])
    (by simp)

theorem Clears.judgeTruths : Clears s (judgeTruths s) := by
  unfold Machine.judgeTruths
  dsimp only
  split
  next => exact .same rfl rfl rfl rfl rfl rfl
  next => exact .sameNotice rfl rfl rfl rfl

theorem Clears.overheat : Clears s (overheat s) := by
  unfold Machine.overheat
  split
  next => exact .same rfl rfl rfl rfl rfl rfl
  next => exact .refl s

theorem Clears.frostControl (i : ControlInputs) : Clears s (frostControl s i) := by
  have read (u : State) (n : AirProbe) (v : Int) : Clears u (readAirProbe u n v) := .handAirProbe ..
  have probes := (((read s .oda i.oda).trans (read _ .sup i.sup)).trans (read _ .eta i.eta)).trans (read _ .eha i.eha)
  have judged := probes.trans (.judgeTruths _)
  have locked (u : State) : Clears u (interlock u) := .same rfl rfl rfl rfl rfl rfl
  exact (judged.trans (locked _)).trans (.overheat _)

theorem Clears.handFilterProbe (f : Side) (x : FilterRecord) : Clears s (handFilterProbe s f x) :=
  .same (by simp) (isLoading_congr (by simp)) (settings_congr (by simp)) (by simp) (by simp) (by simp)

theorem Clears.controlStep (i : ControlInputs) : Clears s (controlStep s i) :=
  ((Clears.fansStep s ..).trans (.frostControl _ i)).trans ((Clears.handFilterProbe ..).trans (.handFilterProbe ..))

/-! ### The frost guard (R74, R151) -/

/-- A change to a stage in which a procedure may run tells the log and the links alone. -/
theorem applyFrostMove_op (m : FrostMove) (h : m.record.stage.bars = false) : (applyFrostMove s m).op = s.op := by
  unfold applyFrostMove stageChanged
  dsimp only
  rw [tellStage_eq, h, if_neg Bool.false_ne_true]
  split
  next => simp
  next => split <;> simp

theorem Clears.applyFrostMove (m : FrostMove) : Clears s (applyFrostMove s m) := by
  by_cases same : s.frost.record.stage = m.record.stage
  · refine .same ?_ (isLoading_congr (by simp)) (settings_congr (by simp)) (by simp) (by simp [same]) ?_
    all_goals simp [Machine.applyFrostMove, stageChanged, same]
  · refine ⟨fun h running => ?_⟩
    rw [applyFrostMove_runner s m same] at running
    split at running
    next => rw [endedRunner_stays] at running; cases running
    next mayRun =>
      obtain ⟨loaded, -, fans, targets⟩ := h running
      have sound : m.record.stage.bars = false := by simpa using mayRun
      rw [applyFrostMove_op s m sound, applyFrostMove_fans, applyFrostMove_frost,
        settings_congr (s := s) (t := Machine.applyFrostMove s m) (by simp)]
      exact ⟨(isLoading_congr (by simp)).trans loaded, sound, fans, targets⟩

theorem Clears.takeFrostMove (m : FrostMove) : Clears s (takeFrostMove s m) :=
  (Clears.applyFrostMove s m).trans (.ite (fun _ => .notice _) fun _ => .refl _)

theorem Clears.frostStep : Clears s (frostStep s) := by
  have moved := Clears.applyFrostMove s (frostMove s)
  unfold Machine.frostStep
  dsimp only
  refine (moved.trans (t := Machine.applyFrostMove s (frostMove s)) ?_)
  have driven {b : Bool} {n : Nat} : Clears (Machine.applyFrostMove s (frostMove s))
      { Machine.applyFrostMove s (frostMove s) with
        frost :=
          { (Machine.applyFrostMove s (frostMove s)).frost with
            record := frostDriven s, heaterOn := b, steps := n } } :=
    .same rfl rfl rfl rfl (by rw [applyFrostMove_frost]; rfl) rfl
  exact .ite (fun _ => driven.trans (.notice _)) fun _ => driven

/-! ### The demand table and the humidity monitor -/

theorem Clears.tableNotice (t : DemandTable) : Clears s (Machine.notice { s with table := t }) :=
  .sameNotice rfl rfl rfl rfl

theorem Clears.zoneAct (n : Zone) (a : ZoneAction) : Clears s (zoneAct s n a) := by
  obtain ⟨still, -⟩ | ⟨notices, -⟩ := zoneAct_cases s n a
  · rw [still]; exact .refl s
  · rw [notices]; exact .tableNotice ..

theorem Clears.applyZoneMove (n : Zone) (m : ZoneMove) : Clears s (applyZoneMove s n m) := by
  unfold Machine.applyZoneMove
  dsimp only
  refine Clears.trans ?_ (.zoneAct ..)
  split <;>
    exact .same (by simp) (isLoading_congr (by simp)) (settings_congr (by simp)) (by simp) (by simp) (by simp)

theorem Clears.removeInternal (slot : Fin 16) : Clears s (removeInternal s slot) :=
  .ite (fun _ => .tableNotice ..) fun _ => .refl s

theorem Clears.placeDry : Clears s (placeDry s) := .sameNotice rfl rfl rfl rfl

theorem Clears.dryDecision : Clears s (dryDecision s) := by
  unfold Machine.dryDecision
  dsimp only
  split
  next => exact .ite (fun _ => .placeDry s) fun _ => .refl s
  next =>
    refine .ite (fun _ => ?_) fun _ => .ite (fun _ => .placeDry s) fun _ => .refl s
    exact Clears.trans (t := { s with humidity := { s.humidity with dryPlaced := none } })
      (.same rfl rfl rfl rfl rfl rfl) (.removeInternal ..)

theorem Clears.extractOutcome (good : Option Sample) : Clears s (extractOutcome s good) := by
  unfold Machine.extractOutcome
  dsimp only
  refine Clears.trans ?_ (.dryDecision _)
  split <;>
    exact .same (by simp) (isLoading_congr (by simp)) (settings_congr (by simp)) (by simp) (by simp) (by simp)

theorem Clears.scannerOutcome (n : Sensor) (o : BusOutcome) : Clears s (scannerOutcome s n o) := by
  cases n with
  | zone n => exact .applyZoneMove ..
  | extract => exact .extractOutcome ..

/-! ### The sensor bus -/

theorem Clears.setBus (b : Bus) : Clears s (setBus s b) := .same rfl rfl rfl rfl rfl rfl

theorem Clears.grant : Clears s (grant s) := .setBus ..

theorem Clears.endPass (l : Link) (o : BusOutcome) : Clears s (endPass s l o) := by
  unfold Machine.endPass
  split
  next => exact (Clears.setBus s _).trans (.raiseTo ..)
  next => exact .setBus ..
  next => exact .refl s

theorem Clears.endTransaction (o : BusOutcome) : Clears s (endTransaction s o) := by
  unfold Machine.endTransaction
  split
  next => exact .refl s
  next =>
    dsimp only
    split
    next => exact ((Clears.setBus s _).trans (.scannerOutcome ..)).trans (.grant _)
    next => exact ((Clears.setBus s _).trans (.endPass ..)).trans (.grant _)

/-! ### The filters and the procedure -/

theorem Clears.handFilterState (f : Side) (x : FilterRecord) : Clears s (handFilterState s f x) :=
  .ite (fun _ => .same rfl rfl rfl rfl rfl rfl) fun _ => .sameNotice rfl rfl rfl rfl

theorem Clears.filterStep : Clears s (filterStep s) :=
  ((Clears.handFilterState ..).trans (.handFilterState ..)).trans (.same rfl rfl rfl rfl rfl rfl)

/-- A procedure that goes on in another phase. -/
theorem Clears.goesOn {p : Procedure} (running : s.runner.procedure.isRunning = true) :
    Clears s (setProcedure s p) := ⟨fun h _ => h running⟩

theorem Clears.takeFlowCheck (owner : Link) (sel : Selection) (running : s.runner.procedure.isRunning = true) :
    Clears s (takeFlowCheck s owner sel) := by
  cases check : flowCheckFails s sel with
  | some o => rw [takeFlowCheck_fails check]; exact .finishProcedure ..
  | none => rw [takeFlowCheck_passes check]; exact (Clears.goesOn s running).trans (.notice _)

theorem Clears.takeSample (owner : Link) (sel : Selection) (n : Nat) (taken : PerSide (List Nat))
    (running : s.runner.procedure.isRunning = true) : Clears s (takeSample s owner sel n taken) := by
  unfold Machine.takeSample
  split
  next => exact .finishProcedure ..
  next =>
    split
    next => exact ⟨fun _ => .of_idle (by rw [commit_runner, endedRunner_stays])⟩
    next => exact .goesOn s running

theorem Clears.procedureSecond : Clears s (procedureSecond s) := by
  unfold Machine.procedureSecond
  split
  next => exact .refl s
  next phase =>
    have running : s.runner.procedure.isRunning = true := by rw [phase]; rfl
    exact .ite (fun _ => .takeFlowCheck s _ _ running) fun _ => .goesOn s running
  next phase =>
    have running : s.runner.procedure.isRunning = true := by rw [phase]; rfl
    exact .ite (fun _ => .takeSample s _ _ _ _ running) fun _ => .goesOn s running

/-! ### The minute and the second -/

theorem Clears.reportExpired (e : Entry) : Clears s (reportExpired s e) := by
  unfold Machine.reportExpired
  split
  next => exact .same rfl rfl rfl rfl rfl rfl
  next => exact .applyZoneMove ..
  next => exact .refl s

theorem Clears.reportAll (es : List Entry) : Clears s (es.foldl Machine.reportExpired s) := by
  induction es generalizing s with
  | nil => exact .refl s
  | cons e es ih => exact (Clears.reportExpired s e).trans (ih _)

theorem Clears.demandMinute : Clears s (demandMinute s) := by
  have counted : Clears s { s with table := s.table.ticked } := .same rfl rfl rfl rfl rfl rfl
  exact .ite (fun _ => counted) fun _ => counted.trans ((Clears.reportAll _ _).trans (.notice _))

theorem Clears.logMinute : Clears s (logMinute s) :=
  .same (by simp) (isLoading_congr (by simp)) (settings_congr (by simp)) (by simp) (by simp) (by simp)

theorem Clears.boostMinute : Clears s (boostMinute s) :=
  ((Clears.applyZoneMove ..).trans (.applyZoneMove ..)).trans ((Clears.applyZoneMove ..).trans (.applyZoneMove ..))

theorem Clears.filtersMinute : Clears s (filtersMinute s) :=
  .same (by simp) (isLoading_congr (by simp)) (settings_congr (by simp)) (by simp) (by simp) (by simp)

theorem Clears.minuteTick : Clears s (minuteTick s) := by
  have timed : Clears s { s with time := s.time.minute } := .same rfl rfl rfl rfl rfl rfl
  exact (timed.trans (.demandMinute _)).trans ((Clears.logMinute _).trans ((Clears.boostMinute _).trans (.filtersMinute _)))

theorem Clears.tickSecond : Clears s (tickSecond s) := by
  have timed : Clears s (timeSecond s) := .ite (fun _ => .minuteTick s) fun _ => .same rfl rfl rfl rfl rfl rfl
  have round : Clears (timeSecond s) (roundSecond (timeSecond s)) :=
    .same (by simp) (isLoading_congr (by simp)) (settings_congr (by simp)) (by simp) (by simp) (by simp)
  have stored : Clears (roundSecond (timeSecond s)) (Machine.tickSecond s) := by
    refine .same rfl (isLoading_congr ?_) (settings_congr (Store.second_settings _)) rfl rfl rfl
    show (Store.second _).state = _
    unfold Store.second Store.startWrite
    dsimp only
    split <;> split <;> rfl
  exact (timed.trans round).trans stored

/-! ### The requests, a link reset and the load -/

theorem Clears.setTime (l : Link) (c : Word) : Clears s (setTime s l c) := by
  rw [setTime_frame]
  exact .same rfl rfl rfl rfl rfl rfl

/-- A START that passes its checks finds the surroundings clear (R146). -/
theorem startCheck_ok {sel : Selection} (h : startCheck s sel = .ok) :
    s.frost.record.stage.bars = false ∧ ∀ f, (s.fans.get f).state.faulted = false := by
  unfold startCheck at h
  split at h
  next => cases h
  next =>
    split at h
    next => cases h
    next sound =>
      split at h
      next => cases h
      next spinning =>
        refine ⟨by simpa using sound, ?_⟩
        rw [Bool.or_eq_true, not_or, Bool.not_eq_true, Bool.not_eq_true] at spinning
        exact fun f => match f with | .supply => spinning.1 | .extract => spinning.2

theorem ProcedureClear.startProcedure {l : Link} {sel : Selection} (loaded : s.isLoading = false)
    (h : startCheck s sel = .ok) : ProcedureClear (startProcedure s l sel) :=
  ProcedureClear.notice fun _ => ⟨loaded, startCheck_ok s h⟩

theorem Clears.tellBlocks (k : Key) (v : Int) : Clears s (tellBlocks s k v) := by
  unfold Machine.tellBlocks
  split
  next => exact .setBus ..
  next => exact .applyZoneMove ..
  next => exact .refl s

theorem Clears.storeKey (k : Key) (v : Int) (l : Link) : Clears s (storeKey s k v l) := by
  have recorded : Clears s (Machine.notice (keyRecorded s k v l)) :=
    .sameNotice (by simp [keyRecorded, keyStored, storeTable]) (storeKey_isLoading s k v l)
      (by simp [keyRecorded, keyStored, storeTable]) (by simp [keyRecorded, keyStored, storeTable])
  rw [storeKey_eq]
  exact recorded.trans (.tellBlocks ..)

theorem Clears.served {t : State} {l : Link} (loaded : s.isLoading = false) (h : Served s l t) : Clears s t := by
  cases h with
  | nothing => exact .refl s
  | empties => exact .same rfl rfl rfl rfl rfl rfl
  | posts slot want duration => exact .tableNotice ..
  | withdraws slot => exact .tableNotice ..
  | sets k v => exact .storeKey ..
  | setsThresholds => exact .sameNotice rfl rfl rfl rfl
  | setsEventMap => exact .sameNotice rfl rfl rfl rfl
  | starts sel passed => exact ⟨fun _ => .startProcedure s loaded passed⟩
  | aborts => exact .finishProcedure ..
  | clearsFan => exact .handFan ..
  | clearsPreheater => exact .same rfl rfl rfl rfl rfl rfl
  | clearsLockout => exact .takeFrostMove ..
  | setsTime c => exact .setTime ..
  | queues req => exact (Clears.setBus s _).trans (.grant _)
  | fetches => exact .setBus ..
  | readsLog | releasesLog | rewindsLog => exact .same rfl rfl rfl rfl rfl rfl

theorem Clears.resetLink (l : Link) : Clears s (resetLink s l) := by
  have dropped : Clears s (dropLinkEntries s l) := .ite (fun _ => .refl s) fun _ => .tableNotice ..
  have ended : Clears (dropLinkEntries s l) (resetProcedure (dropLinkEntries s l) l) := by
    unfold resetProcedure
    split
    next => exact .ite (fun _ => .finishProcedure ..) fun _ => .refl _
    next => exact .refl _
  exact (dropped.trans ended).trans (.same rfl rfl rfl rfl rfl rfl)

/-- No procedure runs during the load (R146, R183). -/
theorem ProcedureClear.startUp {x : Loaded} (loading : s.isLoading = true) (h : ProcedureClear s) :
    ProcedureClear (startUp s x) := by
  intro running
  rw [startUp_runner] at running
  obtain ⟨loaded, -⟩ := h running
  rw [loading] at loaded
  cases loaded

theorem Clears.endWrite {state : StoreState} (stays : state = .loading → s.isLoading = true) :
    Clears s { s with store := s.store.endWrite state } := by
  refine ⟨fun h running => ?_⟩
  obtain ⟨loaded, sound⟩ := h running
  refine ⟨?_, sound⟩
  show decide (state = .loading) = false
  rw [decide_eq_false_iff_not]
  intro again
  rw [stays again] at loaded
  cases loaded

theorem Deed.clear {c : Instr} {t : State} (h : Deed c s t) (clear : ProcedureClear s) : ProcedureClear t := by
  have kept (k : Clears s t) : ProcedureClear t := k.clear clear
  cases h with
  | nothing => exact clear
  | pulse f => exact kept (.setFan s rfl)
  | powerOn => exact .of_idle rfl
  | load read row loading => exact clear.startUp s loading
  | control inp => exact kept (.controlStep s inp)
  | fan f x row => exact kept (.handFan s f x)
  | airProbe n p => exact kept (.handAirProbe s n p)
  | heater | gap | travel | handover | writes | link | turnsAway | window => exact clear
  | filterProbe f x row => exact kept (.handFilterProbe s f x)
  | frost loaded => exact kept (.frostStep s)
  | frostMove m row => exact kept (.takeFrostMove s m)
  | minute => exact kept (.minuteTick s)
  | expiry => exact kept (.demandMinute s)
  | hour => exact kept (.logMinute s)
  | rebaseline n boosting => exact kept (.applyZoneMove ..)
  | zoneStale n typed => exact kept (.applyZoneMove ..)
  | extractStale third => exact kept (.extractOutcome ..)
  | filterStep => exact kept (.filterStep s)
  | procedure => exact kept (.procedureSecond s)
  | scan loaded =>
    exact kept (.same (by simp) (isLoading_congr (by simp)) (settings_congr (by simp)) (by simp) (by simp) (by simp))
  | ends o => exact kept (.endTransaction s o)
  | reset l => exact kept (.resetLink s l)
  | answers l tag kind r loaded =>
    have served := (Clears.served s loaded (answer_served s l r)).clear clear
    exact served
  | written state stays => exact kept (.endWrite s stays)
  | rewritten state stays => exact kept ((Clears.endWrite s stays).trans (.raise ..))

end

end Sys2Proof.Machine

namespace Sys2Proof

open Machine

/-- Settles O13: whatever would put a running procedure among frost stages or faulted fans ends it, and whatever moves
the targets while it runs is a recompute, which sets both to `q_ref`. -/
theorem runningProcedureStandsClear : Obligations.RunningProcedureStandsClear := by
  intro s t clear h
  obtain ⟨-, rfl⟩ | ⟨c, rest, -, deed⟩ := step_cases h
  · exact (Clears.tickSecond s).clear clear
  · exact deed.clear { s with pending := rest } clear

end Sys2Proof
end

section
/-! PROOFS. What every step keeps of the demand table (R1 to R4): the table's own operations keep it well formed, and
every step changes it by those alone. -/

namespace Sys2Proof.Machine

section
variable {t : DemandTable}

/-- A holding counts the sources of the entries (R1). -/
theorem DemandTable.holding_eq (t : DemandTable) (l : Link) :
    t.holding l = (t.entries.map Entry.source).countP (· == .link l) := by rw [List.countP_map]; rfl

/-- Entries that stand in slots the table had in use, for the sources that used them. -/
theorem DemandTable.Ok.entries (ok : t.Ok) {es : List Entry} (slots : (es.map Entry.slot).Sublist (t.entries.map Entry.slot))
    (sources : (es.map Entry.source).Sublist (t.entries.map Entry.source)) (each : ∀ e ∈ es, Entry.Ok t e) :
    DemandTable.Ok { t with entries := es } where
  distinct := ok.distinct.sublist slots
  each e he := { each e he with }
  holding l := by
    have before := ok.holding l
    rw [holding_eq] at before ⊢
    exact Nat.le_trans sources.countP_le before

theorem DemandTable.Ok.filter (ok : t.Ok) (p : Entry → Bool) :
    DemandTable.Ok { t with entries := t.entries.filter p } :=
  ok.entries (List.filter_sublist.map _) (List.filter_sublist.map _) fun e he => ok.each e (List.mem_filter.mp he).1

theorem DemandTable.Ok.vacate (ok : t.Ok) (slot : Fin 16) : (t.vacate slot).Ok := ok.filter _

theorem DemandTable.Ok.dropLink (ok : t.Ok) (l : Link) : (t.dropLink l).Ok := ok.filter _

/-- A count that is not spent by a minute is still at least 1 (R14). -/
theorem Entry.Ok.countDown {e : Entry} (ok : Entry.Ok t e) (left : e.countDown.isSpent = false) :
    Entry.Ok t e.countDown := by
  refine { ok with remaining := fun n counted => ?_ }
  obtain ⟨before, stood, rfl⟩ := Option.map_eq_some_iff.mp counted
  have bounds := ok.remaining before stood
  have unspent : before - 1 ≠ 0 := by
    rintro spent
    rw [spent] at counted
    simp [Entry.isSpent, counted] at left
  omega

theorem DemandTable.Ok.ticked (ok : t.Ok) : t.ticked.Ok := by
  refine ok.entries ?slots ?sources fun e he => ?each
  case slots =>
    have all : (t.entries.map Entry.countDown).map Entry.slot = t.entries.map Entry.slot := List.map_map
    exact all ▸ List.filter_sublist.map _
  case sources =>
    have all : (t.entries.map Entry.countDown).map Entry.source = t.entries.map Entry.source := List.map_map
    exact all ▸ List.filter_sublist.map _
  case each =>
    obtain ⟨counted, left⟩ := List.mem_filter.mp he
    obtain ⟨before, stood, rfl⟩ := List.mem_map.mp counted
    exact (ok.each before stood).countDown (by simpa using left)

theorem DemandTable.Ok.retime (ok : t.Ok) (slot : Fin 16) {r : Option Nat} (range : ∀ n, r = some n → 1 ≤ n ∧ n ≤ 1440) :
    (t.retime slot r).Ok := by
  refine ok.entries (es := t.entries.map _) ?slots ?sources fun e he => ?each
  case slots =>
    rewrite [List.map_map, List.map_congr_left fun e _ => (?same : (Entry.slot ∘ _) e = Entry.slot e)]
    exact List.Sublist.refl _
    case same => dsimp only [Function.comp]; split <;> rfl
  case sources =>
    rewrite [List.map_map, List.map_congr_left fun e _ => (?same : (Entry.source ∘ _) e = Entry.source e)]
    exact List.Sublist.refl _
    case same => dsimp only [Function.comp]; split <;> rfl
  case each =>
    obtain ⟨before, stood, rfl⟩ := List.mem_map.mp he
    split
    next => exact { ok.each before stood with remaining := range }
    next => exact ok.each before stood

theorem nodup_concat {α : Type} {l : List α} {a : α} (distinct : l.Nodup) (absent : a ∉ l) : (l ++ [a]).Nodup := by
  refine List.nodup_append.mpr ⟨distinct, List.nodup_cons.mpr ⟨List.not_mem_nil, List.nodup_nil⟩, ?_⟩
  intro x stood y joined
  rw [List.mem_singleton.mp joined]
  exact fun same => absent (same ▸ stood)

/-- A placement in a slot its source may use, for a link that holds fewer than 5 entries (R10, R18). -/
theorem DemandTable.Ok.place (ok : t.Ok) {slot : Fin 16} {source : Source} {want : Want} {r : Option Nat} (posted : Stamp)
    (fits : source.mayUse slot) (level : ∀ v, want.level? = some v → v ≤ 1200)
    (range : ∀ n, r = some n → 1 ≤ n ∧ n ≤ 1440) (room : ∀ l, source = .link l → t.holding l < 5) :
    (t.place slot source want r posted).Ok where
  distinct := by
    show (List.map Entry.slot ((t.vacate slot).entries ++ [_])).Nodup
    rw [List.map_append]
    refine nodup_concat (ok.vacate slot).distinct fun stood => ?_
    obtain ⟨e, he, here⟩ := List.mem_map.mp stood
    have apart : (!(e.slot == slot)) = true := (List.mem_filter.mp he).2
    simp [here] at apart
  each e he := by
    obtain stays | placed := List.mem_append.mp he
    · obtain ⟨stood, apart⟩ := List.mem_filter.mp stays
      have other : slot.val ≠ e.slot.val := fun same => by simp [Fin.ext same] at apart
      refine { ok.each e stood with gen := ?_ }
      show e.gen = (t.tags.set slot.val (t.nextGen slot) slot.isLt)[e.slot.val]
      rw [Vector.getElem_set_ne slot.isLt e.slot.isLt other]
      exact (ok.each e stood).gen
    · rw [List.mem_singleton] at placed
      subst placed
      refine ⟨fits, ?_, level, range⟩
      show t.nextGen slot = (t.tags.set slot.val (t.nextGen slot) slot.isLt)[slot.val]
      rw [Vector.getElem_set_self]
  holding l := by
    have before := (ok.vacate slot).holding l
    have fewer : (t.vacate slot).holding l ≤ t.holding l := List.filter_sublist.countP_le
    show List.countP _ ((t.vacate slot).entries ++ [_]) ≤ 5
    rw [List.countP_append, List.countP_singleton]
    split
    next mine =>
      have under := room l (by simpa using mine)
      exact Nat.succ_le_of_lt (Nat.lt_of_le_of_lt fewer under)
    next => exact before

/-- The first free shared slot is a shared one (R10). -/
theorem DemandTable.freeShared?_shared {slot : Fin 16} (h : t.freeShared? = some slot) : slot ∈ sharedSlots :=
  List.mem_of_find?_eq_some h

end

theorem storedRemaining_range {d n : Nat} (h : storedRemaining d = some n) : 1 ≤ n ∧ n ≤ 1440 := by
  unfold storedRemaining at h
  split at h
  next => cases h
  next => cases h; omega

end Sys2Proof.Machine
end

section
/-! PROOFS. The zones and the table (R113, R122): every move of a zone leaves its reserved slot live exactly where its new
state calls for an entry, and nothing else touches a reserved slot but the entry's own expiry. -/

namespace Sys2Proof.Machine

/-! ### Which slots an operation leaves live -/

section
variable {t : DemandTable} {slot : Fin 16}

theorem DemandTable.isLive_iff : t.isLive slot = true ↔ ∃ e ∈ t.entries, e.slot = slot := by
  simp [isLive]

theorem DemandTable.isLive_congr {u : DemandTable}
    (h : (∃ e ∈ t.entries, e.slot = slot) ↔ ∃ e ∈ u.entries, e.slot = slot) : t.isLive slot = u.isLive slot := by
  rw [Bool.eq_iff_iff, isLive_iff, isLive_iff, h]

theorem DemandTable.isLive_vacate_other {k : Fin 16} (other : slot ≠ k) : (t.vacate k).isLive slot = t.isLive slot := by
  refine isLive_congr ⟨?_, ?_⟩
  · rintro ⟨e, he, rfl⟩
    exact ⟨e, (List.mem_filter.mp he).1, rfl⟩
  · rintro ⟨e, he, rfl⟩
    exact ⟨e, List.mem_filter.mpr ⟨he, by simpa using other⟩, rfl⟩

theorem DemandTable.isLive_place_same {source : Source} {want : Want} {r : Option Nat} {posted : Stamp} :
    (t.place slot source want r posted).isLive slot = true :=
  isLive_iff.mpr ⟨_, List.mem_append_right _ (List.mem_singleton_self _), rfl⟩

theorem DemandTable.isLive_place_other {k : Fin 16} (other : slot ≠ k) {source : Source} {want : Want} {r : Option Nat}
    {posted : Stamp} : (t.place k source want r posted).isLive slot = t.isLive slot := by
  refine .trans (isLive_congr ⟨?_, ?_⟩) (isLive_vacate_other other)
  · rintro ⟨e, he, rfl⟩
    obtain stays | placed := List.mem_append.mp he
    · exact ⟨e, stays, rfl⟩
    · rw [List.mem_singleton.mp placed] at other
      exact absurd rfl other
  · rintro ⟨e, he, rfl⟩
    exact ⟨e, List.mem_append_left _ he, rfl⟩

theorem DemandTable.isLive_retime {k : Fin 16} {r : Option Nat} : (t.retime k r).isLive slot = t.isLive slot := by
  unfold DemandTable.retime isLive
  rw [List.any_map]
  congr 1
  funext e
  dsimp only [Function.comp]
  split <;> rfl

theorem zoneSlot_not_shared (n : Zone) : zoneSlot n ∉ sharedSlots := by cases n <;> decide

theorem zoneSlot_ne_dry (n : Zone) : zoneSlot n ≠ drySlot := by cases n <;> decide

theorem zoneSlot_inj {m n : Zone} (h : zoneSlot m = zoneSlot n) : m = n := by
  revert h; cases m <;> cases n <;> decide

/-- Dropping a link's entries leaves the reserved slots (R22). -/
theorem DemandTable.Ok.isLive_dropLink (ok : t.Ok) (l : Link) (n : Zone) :
    (t.dropLink l).isLive (zoneSlot n) = t.isLive (zoneSlot n) := by
  refine isLive_congr ⟨?_, ?_⟩
  · rintro ⟨e, he, here⟩
    exact ⟨e, (List.mem_filter.mp he).1, here⟩
  · rintro ⟨e, he, here⟩
    refine ⟨e, List.mem_filter.mpr ⟨he, ?_⟩, here⟩
    rw [Bool.not_eq_true', beq_eq_false_iff_ne]
    intro own
    have fits := (ok.each e he).slot
    rw [own, here] at fits
    exact zoneSlot_not_shared n fits

end

/-! ### What a zone asks of the table -/

/-- Whether the zone's slot is live once it has asked. -/
def ZoneAction.leaves (live : Bool) : ZoneAction → Bool
  | .keep | .standing | .timed => live
  | .place => true
  | .remove => false

section
variable (s : State) (n : Zone)

theorem zoneTable_isLive (a : ZoneAction) :
    (zoneTable s n a).isLive (zoneSlot n) = a.leaves (s.table.isLive (zoneSlot n)) := by
  cases a with
  | keep => rfl
  | place => exact DemandTable.isLive_place_same
  | standing | timed =>
    unfold zoneTable
    dsimp only
    split
    next => exact DemandTable.isLive_retime
    next => rfl
  | remove => exact zoneTable_remove_free s n

theorem zoneTable_isLive_other {slot : Fin 16} (other : slot ≠ zoneSlot n) (a : ZoneAction) :
    (zoneTable s n a).isLive slot = s.table.isLive slot := by
  cases a with
  | keep => rfl
  | place => exact DemandTable.isLive_place_other other
  | standing | timed =>
    unfold zoneTable
    dsimp only
    split
    next => exact DemandTable.isLive_retime
    next => rfl
  | remove =>
    unfold zoneTable
    dsimp only
    split
    next => exact DemandTable.isLive_vacate_other other
    next => rfl

theorem DemandTable.Ok.zoneTable (ok : s.table.Ok) (a : ZoneAction) : (zoneTable s n a).Ok := by
  have timed {r : Option Nat} (range : ∀ k, r = some k → 1 ≤ k ∧ k ≤ 1440) :
      (if s.table.isLive (zoneSlot n) then s.table.retime (zoneSlot n) r else s.table).Ok := by
    split
    next => exact ok.retime _ range
    next => exact ok
  cases a with
  | keep => exact ok
  | place =>
    refine ok.place _ rfl ?level (fun _ h => by cases h) fun _ h => by cases h
    case level => rintro v ⟨⟩; exact Nat.min_le_right ..
  | standing => exact timed fun _ h => by cases h
  | timed => exact timed fun k h => by cases h; unfold clampNat; omega
  | remove =>
    unfold Machine.zoneTable
    dsimp only
    split
    next => exact ok.vacate _
    next => exact ok

end

/-! ### The moves of a zone (R113 to R123) -/

/-- A move that leaves the slot, live or free before it, as its new state calls for. -/
structure ZoneMove.Fits (m : ZoneMove) (live : Bool) : Prop where
  entry : m.action.leaves live = m.record.state.holdsEntry
  unused : m.record.state = .unused ↔ m.record.zoneType = .unused

section
variable {z : ZoneRecord} (t : Settings) (n : Zone) (x : Sample)

/-- A record in the same state, of the same type. -/
theorem ZoneMove.Fits.only {live : Bool} (entry : live = z.state.holdsEntry)
    (unused : z.state = .unused ↔ z.zoneType = .unused) : z.only.Fits live := ⟨entry, unused⟩

theorem ZoneMove.Fits.judgeQuiet (typed : z.zoneType ≠ .unused) : (judgeQuiet t n z x).Fits false := by
  unfold Machine.judgeQuiet
  dsimp only
  split
  next => exact ⟨rfl, by simpa using typed⟩
  next => exact ⟨rfl, by simpa using typed⟩

theorem ZoneMove.Fits.zoneGood {live : Bool} (entry : live = z.state.holdsEntry)
    (unused : z.state = .unused ↔ z.zoneType = .unused) : (zoneGood t n z x).Fits live := by
  unfold Machine.zoneGood
  dsimp only
  split
  case h_1 => exact .only entry unused
  case h_2 quiet =>
    rw [entry, quiet]
    have typed : (z.fed x).zoneType ≠ .unused := by intro h; rw [quiet] at unused; cases unused.mpr h
    exact { ZoneMove.Fits.judgeQuiet t n x typed with }
  case h_3 boosting =>
    have typed : z.zoneType ≠ .unused := by intro h; rw [boosting] at unused; cases unused.mpr h
    rw [entry, boosting]
    split
    next =>
      split
      next => exact ⟨by show _ = z.state.holdsEntry; rw [boosting]; rfl, unused⟩
      next => exact ⟨rfl, by simpa [ZoneRecord.fed] using typed⟩
    next => exact ⟨by show _ = z.state.holdsEntry; rw [boosting]; rfl, unused⟩
  case h_4 recovering =>
    have typed : z.zoneType ≠ .unused := by intro h; rw [recovering] at unused; cases unused.mpr h
    rw [entry, recovering]
    split
    next => exact ⟨rfl, by simpa [ZoneRecord.fed] using typed⟩
    next => exact ⟨by show _ = z.state.holdsEntry; rw [recovering]; rfl, unused⟩
  case h_5 stale =>
    rw [entry, stale]
    have typed : (z.fed x).zoneType ≠ .unused := by intro h; rw [stale] at unused; cases unused.mpr h
    exact { ZoneMove.Fits.judgeQuiet (z := { z.fed x with state := .quiet, baseline := some x.ah }) t n x typed with }

theorem ZoneMove.Fits.zoneFailed {live : Bool} (entry : live = z.state.holdsEntry)
    (unused : z.state = .unused ↔ z.zoneType = .unused) : (zoneFailed z).Fits live := by
  unfold Machine.zoneFailed
  split
  next => exact .only entry unused
  next =>
    split
    next =>
      dsimp only
      split
      next quiet =>
        rw [quiet] at unused
        exact ⟨by rw [entry, quiet]; rfl, by simpa using unused⟩
      next boosting =>
        rw [boosting] at unused
        exact ⟨by rw [entry, boosting]; rfl, by simpa using unused⟩
      next => exact ⟨entry, unused⟩
    next => exact .only entry unused

theorem ZoneMove.Fits.zoneOutcome (o : BusOutcome) {live : Bool} (entry : live = z.state.holdsEntry)
    (unused : z.state = .unused ↔ z.zoneType = .unused) : (zoneOutcome t n z o).Fits live := by
  unfold Machine.zoneOutcome
  split
  next => exact .only entry unused
  next =>
    split
    next => exact .zoneGood t n _ entry unused
    next => exact .zoneFailed entry unused

theorem ZoneMove.Fits.rebaseline {live : Bool} (typed : z.zoneType ≠ .unused) : (rebaseline z).Fits live :=
  ⟨rfl, by simpa [Machine.rebaseline] using typed⟩

theorem ZoneMove.Fits.zoneTick {live : Bool} (entry : live = z.state.holdsEntry)
    (unused : z.state = .unused ↔ z.zoneType = .unused) : (zoneTick t n z).Fits live := by
  unfold Machine.zoneTick
  split
  next boosting =>
    split
    next => exact .rebaseline fun h => by rw [boosting] at unused; cases unused.mpr h
    next => exact .only entry unused
  next => exact .only entry unused

theorem ZoneMove.Fits.zoneRetyped (ty : ZoneType) {live : Bool} (entry : live = z.state.holdsEntry)
    (unused : z.state = .unused ↔ z.zoneType = .unused) : (zoneRetyped z ty).Fits live := by
  unfold Machine.zoneRetyped
  split
  next => exact .only entry unused
  next other =>
    split
    next was =>
      have used : ty ≠ .unused := fun h => other (h.trans was.symm)
      refine ⟨?_, by simp [ZoneRecord.ofType, used]⟩
      rw [unused.mpr was] at entry
      show live = (if ty = .unused then ZoneState.unused else .quiet).holdsEntry
      rw [if_neg used, entry]
      rfl
    next was =>
      split
      next => exact ⟨rfl, by simp [ZoneRecord.ofType]⟩
      next used => exact ⟨entry, by simpa [ZoneRecord.only, used] using fun h => was (unused.mp h)⟩

/-- The entry of a BOOSTING or RECOVERING zone has expired: its slot is free (R122). -/
theorem ZoneMove.Fits.zoneExpired (held : z.state.holdsEntry = true)
    (unused : z.state = .unused ↔ z.zoneType = .unused) : (zoneExpired t n z).Fits false := by
  have typed : z.zoneType ≠ .unused := fun h => by rw [unused.mpr h] at held; cases held
  unfold Machine.zoneExpired
  split
  next =>
    dsimp only
    split
    next => exact ⟨rfl, by simpa using typed⟩
    next => exact ⟨rfl, by simpa using typed⟩
  next =>
    dsimp only
    split
    next x _ => exact { ZoneMove.Fits.judgeQuiet (z := { z with state := .quiet, boostTimer := 0 }) t n x typed with }
    next => exact ⟨rfl, by simpa [ZoneRecord.only] using typed⟩
  all_goals next state => rw [state] at held; cases held

end

/-! ### The table and the zones through every operation -/

/-- The table stays well formed, and each zone with its entry. -/
structure Houses (s t : State) : Prop where
  table : s.table.Ok → t.table.Ok
  zones : s.table.Ok → (∀ n, ZoneOk s n) → ∀ n, ZoneOk t n

section
variable {s t u : State}

theorem Houses.refl (s : State) : Houses s s := ⟨id, fun _ => id⟩

theorem Houses.trans (a : Houses s t) (b : Houses t u) : Houses s u :=
  ⟨b.table ∘ a.table, fun ok zones => b.zones (a.table ok) (a.zones ok zones)⟩

theorem Houses.ite {p : Prop} [Decidable p] (yes : p → Houses s t) (no : ¬p → Houses s u) :
    Houses s (if p then t else u) := by
  split
  next h => exact yes h
  next h => exact no h

theorem ZoneOk.congr {n : Zone} (ok : ZoneOk s n) (live : t.table.isLive (zoneSlot n) = s.table.isLive (zoneSlot n))
    (zone : t.humidity.zones.get n = s.humidity.zones.get n) : ZoneOk t n := by
  refine ⟨?_, ?_⟩
  · rw [live, zone]; exact ok.entry
  · rw [zone]; exact ok.unused

theorem Houses.same (table : t.table = s.table) (zones : t.humidity.zones = s.humidity.zones) : Houses s t :=
  ⟨fun ok => table ▸ ok, fun _ ok n => (ok n).congr (by rw [table]) (by rw [zones])⟩

/-- A table operation that leaves the reserved slots of the zones. -/
theorem Houses.ofTable (ok : s.table.Ok → t.table.Ok)
    (live : s.table.Ok → ∀ n, t.table.isLive (zoneSlot n) = s.table.isLive (zoneSlot n))
    (zones : t.humidity.zones = s.humidity.zones) : Houses s t :=
  ⟨ok, fun well holds n => (holds n).congr (live well n) (by rw [zones])⟩

end

section
variable (s : State)

/-- A zone's move leaves the other zones with their entries. -/
theorem ZoneOk.applyZoneMove_other {m n : Zone} (ok : ZoneOk s m) (other : m ≠ n) (x : ZoneMove) :
    ZoneOk (applyZoneMove s n x) m := by
  refine ok.congr ?_ ?_
  · rw [applyZoneMove_table]
    exact zoneTable_isLive_other s n (fun h => other (zoneSlot_inj h)) _
  · rw [applyZoneMove_humidity, PerZone.get_set, if_neg other]

theorem ZoneOk.applyZoneMove_same {n : Zone} {x : ZoneMove} (fits : x.Fits (s.table.isLive (zoneSlot n))) :
    ZoneOk (applyZoneMove s n x) n := by
  have record : (applyZoneMove s n x).humidity.zones.get n = x.record := by
    rw [applyZoneMove_humidity, PerZone.get_set, if_pos rfl]
  refine ⟨?_, ?_⟩
  · rw [record, applyZoneMove_table, zoneTable_isLive]; exact fits.entry
  · rw [record]; exact fits.unused

theorem Houses.applyZoneMove {n : Zone} {x : ZoneMove} (fits : ZoneOk s n → x.Fits (s.table.isLive (zoneSlot n))) :
    Houses s (applyZoneMove s n x) where
  table ok := by rw [applyZoneMove_table]; exact ok.zoneTable s n _
  zones _ ok m := by
    by_cases same : m = n
    · subst same; exact .applyZoneMove_same s (fits (ok m))
    · exact (ok m).applyZoneMove_other s same x

theorem Houses.zoneTick (n : Zone) : Houses s (zoneMinute s n) :=
  .applyZoneMove s fun ok => .zoneTick _ _ ok.entry ok.unused

theorem Houses.boostMinute : Houses s (boostMinute s) :=
  ((Houses.zoneTick s .z1).trans (.zoneTick _ .z2)).trans ((Houses.zoneTick _ .z3).trans (.zoneTick _ .z4))

/-! ### The dry guard -/

theorem Houses.placeDry : Houses s (placeDry s) := by
  refine .ofTable (fun ok => ?_) (fun _ n => DemandTable.isLive_place_other (zoneSlot_ne_dry n)) rfl
  refine ok.place _ rfl ?level (fun _ h => by cases h) fun _ h => by cases h
  case level => rintro v ⟨⟩; exact Nat.min_le_right ..

theorem Houses.removeDry : Houses s (removeInternal s drySlot) := by
  refine .ofTable (fun ok => ?_) (fun _ n => ?_) (by simp)
  · rw [removeInternal_table]; exact ok.vacate _
  · rw [removeInternal_table]; exact DemandTable.isLive_vacate_other (zoneSlot_ne_dry n)

theorem Houses.dryDecision : Houses s (dryDecision s) := by
  unfold Machine.dryDecision
  dsimp only
  split
  next => exact .ite (fun _ => .placeDry s) fun _ => .refl s
  next =>
    refine .ite (fun _ => ?_) fun _ => .ite (fun _ => .placeDry s) fun _ => .refl s
    exact Houses.trans (t := { s with humidity := { s.humidity with dryPlaced := none } }) (.same rfl rfl) (.removeDry _)

theorem Houses.extractOutcome (good : Option Sample) : Houses s (extractOutcome s good) := by
  unfold Machine.extractOutcome
  dsimp only
  refine Houses.trans ?_ (.dryDecision _)
  split
  next => exact .same rfl rfl
  next => exact .same (by simp) (by simp)

/-! ### The sensor bus -/

theorem Houses.scannerOutcome (n : Sensor) (o : BusOutcome) : Houses s (scannerOutcome s n o) := by
  cases n with
  | zone n => exact .applyZoneMove s fun ok => .zoneOutcome _ _ o ok.entry ok.unused
  | extract => exact .extractOutcome ..

theorem Houses.endTransaction (o : BusOutcome) : Houses s (endTransaction s o) := by
  have bus (u : State) (b : Bus) : Houses u (setBus u b) := .same rfl rfl
  have granted (u : State) : Houses u (grant u) := .same rfl rfl
  unfold Machine.endTransaction
  split
  next => exact .refl s
  next =>
    dsimp only
    split
    next => exact ((bus s _).trans (.scannerOutcome ..)).trans (granted _)
    next => exact .same (by simp) (by simp)

/-! ### The minute tick (R14, R120) -/

/-- A zone whose entry has expired, before it is told so. -/
structure ZoneSpent (n : Zone) : Prop where
  free : s.table.isLive (zoneSlot n) = false
  held : (s.humidity.zones.get n).state.holdsEntry = true
  unused : (s.humidity.zones.get n).state = .unused ↔ (s.humidity.zones.get n).zoneType = .unused

end

/-- Telling the expiries in posting order leaves every zone with its entry: those told no longer call for one, or have
placed another. -/
theorem reportAll_zones {es : List Entry} {s : State} (fits : ∀ e ∈ es, e.source.mayUse e.slot)
    (distinct : (es.map Entry.slot).Nodup) (spent : ∀ n, zoneSlot n ∈ es.map Entry.slot → ZoneSpent s n)
    (others : ∀ n, zoneSlot n ∉ es.map Entry.slot → ZoneOk s n) : ∀ n, ZoneOk (es.foldl reportExpired s) n := by
  induction es generalizing s with
  | nil => exact fun n => others n (by simp)
  | cons e es ih =>
    rw [List.map_cons, List.nodup_cons] at distinct
    have slot := fits e (by simp)
    have later : ∀ n, zoneSlot n ∈ es.map Entry.slot → zoneSlot n ∈ (e :: es).map Entry.slot :=
      fun n => List.mem_cons_of_mem _
    have fits' : ∀ e ∈ es, e.source.mayUse e.slot := fun e he => fits e (List.mem_cons_of_mem _ he)
    have passed (apart : ∀ n, zoneSlot n ≠ e.slot) : ∀ n, zoneSlot n ∉ es.map Entry.slot → ZoneOk s n :=
      fun n absent => others n fun h => (List.mem_cons.mp h).elim (apart n) absent
    rw [List.foldl_cons]
    cases source : e.source with
    | link l =>
      rw [source] at slot
      have still : reportExpired s e = raiseTo (handExpired s l e.handle) .demandExpired (some l) := by
        rw [reportExpired, source]
      rw [still]
      refine ih fits' distinct.2 (fun n h => ?_) fun n h => ?_
      · exact { spent n (later n h) with }
      · exact { passed (fun n h => zoneSlot_not_shared n (h ▸ slot)) n h with }
    | dryGuard =>
      rw [source] at slot
      have still : reportExpired s e = s := by rw [reportExpired, source]
      rw [still]
      exact ih fits' distinct.2 (fun n h => spent n (later n h)) (passed fun n h => zoneSlot_ne_dry n (h.trans slot))
    | zone z =>
      rw [source] at slot
      have told : reportExpired s e = applyZoneMove s z (zoneExpired s.settings z (s.humidity.zones.get z)) := by
        rw [reportExpired, source]
      have expired := spent z (List.mem_cons.mpr (.inl slot.symm))
      have absent : zoneSlot z ∉ es.map Entry.slot := fun h => distinct.1 (slot ▸ h)
      rw [told]
      refine ih fits' distinct.2 (fun n h => ?_) fun n h => ?_
      · have other : n ≠ z := fun same => absent (same ▸ h)
        have before := spent n (later n h)
        have zone : (applyZoneMove s z (zoneExpired s.settings z (s.humidity.zones.get z))).humidity.zones.get n =
            s.humidity.zones.get n := by rw [applyZoneMove_humidity, PerZone.get_set, if_neg other]
        refine ⟨?_, zone ▸ before.held, zone ▸ before.unused⟩
        rw [applyZoneMove_table, zoneTable_isLive_other s z (fun h => other (zoneSlot_inj h))]
        exact before.free
      · by_cases same : n = z
        · subst same
          refine .applyZoneMove_same s ?_
          rw [expired.free]
          exact .zoneExpired _ _ expired.held expired.unused
        · refine (others n fun h' => ?_).applyZoneMove_other s same _
          exact (List.mem_cons.mp h').elim (fun here => same (zoneSlot_inj (here.trans slot))) h

section
variable {t : DemandTable} {slot : Fin 16}

/-- A slot live before the minute is live after it, or its entry is spent (R14). -/
theorem DemandTable.isLive_ticked_or (live : t.isLive slot = true) :
    t.ticked.isLive slot = true ∨ slot ∈ t.spent.map Entry.slot := by
  obtain ⟨e, he, rfl⟩ := isLive_iff.mp live
  have counted : e.countDown ∈ t.entries.map Entry.countDown := List.mem_map_of_mem he
  by_cases spent : e.countDown.isSpent = true
  · exact .inr (List.mem_map.mpr ⟨e.countDown, List.mem_filter.mpr ⟨counted, spent⟩, rfl⟩)
  · exact .inl (isLive_iff.mpr ⟨e.countDown, List.mem_filter.mpr ⟨counted, by simpa using spent⟩, rfl⟩)

theorem DemandTable.isLive_of_ticked (live : t.ticked.isLive slot = true) : t.isLive slot = true := by
  obtain ⟨e, he, rfl⟩ := isLive_iff.mp live
  obtain ⟨before, stood, rfl⟩ := List.mem_map.mp (List.mem_filter.mp he).1
  exact isLive_iff.mpr ⟨before, stood, rfl⟩

theorem DemandTable.isLive_of_spent (spent : slot ∈ t.spent.map Entry.slot) : t.isLive slot = true := by
  obtain ⟨e, he, rfl⟩ := List.mem_map.mp spent
  obtain ⟨before, stood, rfl⟩ := List.mem_map.mp (List.mem_filter.mp he).1
  exact isLive_iff.mpr ⟨before, stood, rfl⟩

theorem eq_of_nodup_map {α β : Type} {f : α → β} {l : List α} (distinct : (l.map f).Nodup) {x y : α} (hx : x ∈ l)
    (hy : y ∈ l) (same : f x = f y) : x = y := by
  obtain ⟨i, hi, rfl⟩ := List.mem_iff_getElem.mp hx
  obtain ⟨j, hj, rfl⟩ := List.mem_iff_getElem.mp hy
  have place : i = j :=
    (List.getElem_inj (h₀ := by simpa using hi) (h₁ := by simpa using hj) distinct).mp (by simpa using same)
  subst place
  rfl

/-- A slot whose entry is spent is free after the minute. -/
theorem DemandTable.Ok.free_of_spent (ok : t.Ok) (spent : slot ∈ t.spent.map Entry.slot) :
    t.ticked.isLive slot = false := by
  obtain ⟨e, he, rfl⟩ := List.mem_map.mp spent
  obtain ⟨counted, gone⟩ := List.mem_filter.mp he
  obtain ⟨before, stood, rfl⟩ := List.mem_map.mp counted
  rw [Bool.eq_false_iff]
  intro live
  obtain ⟨e', he', here⟩ := isLive_iff.mp live
  obtain ⟨counted', left⟩ := List.mem_filter.mp he'
  obtain ⟨before', stood', rfl⟩ := List.mem_map.mp counted'
  have same : before' = before := eq_of_nodup_map ok.distinct stood' stood here
  rw [same, gone] at left
  cases left

theorem DemandTable.Ok.spent_nodup (ok : t.Ok) : (t.spent.map Entry.slot).Nodup := by
  have all : (t.entries.map Entry.countDown).map Entry.slot = t.entries.map Entry.slot := List.map_map
  exact (all ▸ ok.distinct).sublist (List.filter_sublist.map _)

theorem DemandTable.Ok.spent_fits (ok : t.Ok) : ∀ e ∈ t.spent, e.source.mayUse e.slot := by
  intro e he
  obtain ⟨before, stood, rfl⟩ := List.mem_map.mp (List.mem_filter.mp he).1
  exact (ok.each before stood).slot

end

theorem reportAll_table_ok (es : List Entry) {s : State} (ok : s.table.Ok) : (es.foldl reportExpired s).table.Ok := by
  induction es generalizing s with
  | nil => exact ok
  | cons e es ih =>
    refine ih ?_
    unfold reportExpired
    split
    next => exact ok
    next => rw [applyZoneMove_table]; exact ok.zoneTable ..
    next => exact ok

section
variable (s : State)

theorem Houses.demandMinute : Houses s (demandMinute s) := by
  unfold Machine.demandMinute
  dsimp only
  have counted_ok (ok : s.table.Ok) : s.table.ticked.Ok := ok.ticked
  have others (ok : ∀ n, ZoneOk s n) (n : Zone) (absent : zoneSlot n ∉ s.table.spent.map Entry.slot) :
      ZoneOk { s with table := s.table.ticked } n := by
    refine (ok n).congr ?_ rfl
    rw [Bool.eq_iff_iff]
    exact ⟨DemandTable.isLive_of_ticked, fun live => (DemandTable.isLive_ticked_or live).resolve_right absent⟩
  refine .ite (fun none => ⟨counted_ok, fun _ ok n => others ok n ?_⟩) fun _ =>
    .trans (t := s.table.spent.foldl reportExpired { s with table := s.table.ticked }) ⟨?table, ?zones⟩ (.same rfl rfl)
  · rw [List.isEmpty_iff] at none
    rw [none]
    exact List.not_mem_nil
  case table => exact fun ok => reportAll_table_ok _ (counted_ok ok)
  case zones =>
    refine fun well ok => reportAll_zones well.spent_fits well.spent_nodup (fun n spent => ?_) (others ok)
    exact ⟨well.free_of_spent spent, (ok n).entry ▸ DemandTable.isLive_of_spent spent, (ok n).unused⟩

theorem Houses.minuteTick : Houses s (minuteTick s) := by
  have timed : Houses s { s with time := s.time.minute } := .same rfl rfl
  have logged (u : State) : Houses u (logMinute u) := .same (by simp) (by simp)
  have filters (u : State) : Houses u (filtersMinute u) := .same (by simp) (by simp)
  exact (timed.trans (.demandMinute _)).trans ((logged _).trans ((Houses.boostMinute _).trans (filters _)))

theorem Houses.tickSecond : Houses s (tickSecond s) := by
  have timed : Houses s (timeSecond s) := .ite (fun _ => .minuteTick s) fun _ => .same rfl rfl
  exact timed.trans (.same (by simp [Machine.tickSecond]) (by simp [Machine.tickSecond]))

/-! ### The requests, a link reset and the load -/

theorem Houses.storeKey (k : Key) (v : Int) (l : Link) : Houses s (storeKey s k v l) := by
  have recorded : Houses s (notice (keyRecorded s k v l)) := .same (by simp) (by simp)
  rw [storeKey_eq]
  refine recorded.trans ?_
  unfold tellBlocks
  split
  next => exact .same rfl rfl
  next => exact .applyZoneMove _ fun ok => .zoneRetyped _ ok.entry ok.unused
  next => exact .refl _

theorem Houses.served {t : State} {l : Link} (h : Served s l t) : Houses s t := by
  cases h with
  | posts slot want duration level quota free =>
    have shared := DemandTable.freeShared?_shared free
    refine .ofTable (fun ok => ?_) (fun _ n => DemandTable.isLive_place_other ?_) rfl
    · exact ok.place _ shared level (fun _ h => storedRemaining_range h) fun _ h => by cases h; exact quota
    · exact fun h => zoneSlot_not_shared n (h ▸ shared)
  | withdraws slot e live own =>
    refine .ofTable (fun ok => ok.vacate slot) (fun ok n => DemandTable.isLive_vacate_other ?_) rfl
    intro same
    have fits := (ok.each e (List.mem_of_find?_eq_some live)).slot
    have here : e.slot = slot := by simpa using List.find?_some live
    rw [own, here, ← same] at fits
    exact zoneSlot_not_shared n fits
  | sets k v => exact .storeKey ..
  | clearsFan => exact .same (by simp) (by simp)
  | clearsLockout => exact .same (by simp) (by simp)
  | aborts => exact .same (by simp) (by simp)
  | setsTime c => rw [setTime_frame]; exact .same rfl rfl
  | _ => exact .same rfl rfl

theorem Houses.resetLink (l : Link) : Houses s (resetLink s l) := by
  refine .ofTable (fun ok => ?_) (fun ok n => ?_) (by simp)
  · rw [resetLink_table]; exact ok.dropLink l
  · rw [resetLink_table]; exact ok.isLive_dropLink l n

/-- The zones the load sets up hold no entry (R24, R133). -/
theorem startUp_zones {x : Loaded} (empty : s.table.entries = []) (n : Zone) : ZoneOk (startUp s x) n := by
  have free : s.table.isLive (zoneSlot n) = false := by rw [DemandTable.isLive, empty]; rfl
  refine ⟨?_, ?_⟩
  · rw [startUp_humidity, setUp_zone, startUp_table, free]
    unfold ZoneRecord.ofType
    dsimp only
    split <;> rfl
  · rw [startUp_humidity, setUp_zone]
    simp [ZoneRecord.ofType]

/-- Every deed but the end of the load keeps the table and the zones. -/
theorem Deed.houses {c : Instr} {t : State} (h : Deed c s t) :
    Houses s t ∨ s.isLoading = true ∧ ∃ x, t = startUp s x := by
  have kept (same : Houses s t) : Houses s t ∨ s.isLoading = true ∧ ∃ x, t = startUp s x := .inl same
  cases h with
  | powerOn =>
    obtain ⟨-, -, -, -, -, table, zones, -⟩ := resetMeetsTheInvariants
    exact kept ⟨fun _ => table, fun _ _ n => { zones n with }⟩
  | load read row loading => exact .inr ⟨loading, _, rfl⟩
  | minute => exact kept (.minuteTick s)
  | expiry => exact kept (.demandMinute s)
  | rebaseline n boosting =>
    refine kept (.applyZoneMove s fun ok => .rebaseline fun untyped => ?_)
    rw [ok.unused.mpr untyped] at boosting
    cases boosting
  | zoneStale n typed => exact kept (.applyZoneMove s fun ok => .zoneFailed ok.entry ok.unused)
  | extractStale third => exact kept (.extractOutcome ..)
  | ends o => exact kept (.endTransaction s o)
  | reset l => exact kept (.resetLink s l)
  | answers l tag kind r loaded =>
    have served := Houses.served s (answer_served s l r)
    exact kept ⟨served.table, fun ok zones n => { served.zones ok zones n with }⟩
  | nothing | pulse | heater | gap | travel | handover | window | link | turnsAway | writes | written | rewritten =>
    exact kept (.same rfl rfl)
  | _ => exact kept (.same (by simp) (by simp))

end

end Sys2Proof.Machine

namespace Sys2Proof

open Machine

/-- Settles O7: every step changes the table by its own operations alone, and each of them keeps it well formed. -/
theorem demandTableStaysWellFormed : Obligations.DemandTableStaysWellFormed := by
  intro s t ok h
  obtain ⟨-, rfl⟩ | ⟨c, rest, -, deed⟩ := step_cases h
  · exact (Houses.tickSecond s).table ok
  · obtain houses | ⟨-, x, rfl⟩ := deed.houses { s with pending := rest }
    · exact houses.table ok
    · rw [startUp_table]; exact ok

end Sys2Proof
end

section
/-! PROOFS. Before the end of the load (R24, R109): nothing places an entry and the line stays released, so the zones the
load sets up stand without entries. -/

namespace Sys2Proof.Machine

/-- Nothing stands in the table and no transaction runs. -/
structure Vacant (s : State) : Prop where
  entries : s.table.entries = []
  released : s.bus.transaction = none

section
variable {s : State}

theorem Vacant.free (h : s.table.entries = []) (slot : Fin 16) : s.table.isLive slot = false := by
  rw [DemandTable.isLive, h]; rfl

/-- A zone that places nothing leaves an empty table. -/
theorem Vacant.zoneTable (h : s.table.entries = []) (n : Zone) {a : ZoneAction} (places : a ≠ .place) :
    (zoneTable s n a).entries = [] := by
  unfold Machine.zoneTable
  split
  next => exact h
  next => exact absurd rfl places
  all_goals rw [if_neg (by rw [Vacant.free h]; decide)]; exact h

theorem Vacant.applyZoneMove (h : s.table.entries = []) (n : Zone) {m : ZoneMove} (places : m.action ≠ .place) :
    (applyZoneMove s n m).table.entries = [] := by
  rw [applyZoneMove_table]; exact zoneTable h n places

theorem zoneTick_places (t : Settings) (n : Zone) (z : ZoneRecord) : (zoneTick t n z).action ≠ .place := by
  unfold zoneTick
  split
  next => split <;> exact ZoneAction.noConfusion
  next => exact ZoneAction.noConfusion

theorem zoneFailed_places (z : ZoneRecord) : (zoneFailed z).action ≠ .place := by
  unfold zoneFailed
  split
  next => exact ZoneAction.noConfusion
  next =>
    split
    next => dsimp only; split <;> exact ZoneAction.noConfusion
    next => exact ZoneAction.noConfusion

theorem Vacant.boostMinute (h : s.table.entries = []) : (boostMinute s).table.entries = [] := by
  have minute (u : State) (h : u.table.entries = []) (n : Zone) : (zoneMinute u n).table.entries = [] :=
    Vacant.applyZoneMove h n (zoneTick_places _ _ _)
  exact minute _ (minute _ (minute _ (minute _ h _) _) _) _

theorem Vacant.demandMinute (h : s.table.entries = []) : (demandMinute s).table.entries = [] := by
  have spent : s.table.spent = [] := by rw [DemandTable.spent, h]; rfl
  have ticked : s.table.ticked.entries = [] := by rw [DemandTable.ticked, h]; rfl
  unfold Machine.demandMinute
  dsimp only
  rw [spent]
  exact ticked

theorem Vacant.minuteTick (h : s.table.entries = []) : (minuteTick s).table.entries = [] := by
  unfold Machine.minuteTick
  rw [filtersMinute_table]
  refine Vacant.boostMinute ?_
  rw [logMinute_table]
  exact Vacant.demandMinute h

/-- A stale extract sensor turns the dry guard OFF and never ON (R129). -/
theorem Vacant.dryDecision (h : s.table.entries = []) (stale : s.humidity.extract.stale = true) :
    (dryDecision s).table.entries = [] := by
  cases placed : s.humidity.dryPlaced with
  | none =>
    have early : ¬s.dryOnDue = true := by simp [State.dryOnDue, dryTurnsOn, ExtractRecord.rhEta, stale]
    rw [((dryDecision_off placed).2 early).2]
    exact h
  | some level =>
    have due : s.dryOffDue = true := by simp [State.dryOffDue, dryTurnsOff, stale]
    rw [((dryDecision_on placed).1 due).2, DemandTable.vacate_of_free (Vacant.free h _)]
    exact h

theorem Vacant.extractStale (h : s.table.entries = []) (third : s.humidity.extract.failures = 2) :
    (extractOutcome s none).table.entries = [] := by
  have taken : s.humidity.extract.take none =
      ({ s.humidity.extract with failures := 3, stale := true }, some false) := by
    rw [ExtractRecord.take, third]; rfl
  rw [extractOutcome_eq taken]
  refine Vacant.dryDecision ?_ ?_
  · rw [extractTaken_table]; exact h
  · rw [extractTaken_humidity]

theorem Vacant.resetLink (v : Vacant s) (l : Link) : Vacant (resetLink s l) := by
  refine ⟨?_, ?_⟩
  · rw [resetLink_table, DemandTable.dropLink, v.entries]; rfl
  · rw [resetLink_bus, Bus.resetLink]
    split <;> exact v.released

/-- No request begins a load (R182, R183). -/
theorem Served.loaded {t : State} {l : Link} (h : Served s l t) (loaded : s.isLoading = false) : t.isLoading = false := by
  refine (isLoading_congr ?_).trans loaded
  cases h with
  | sets k v => rw [storeKey_store]
  | setsTime c => rw [setTime_frame]
  | clearsFan | clearsLockout | aborts => simp
  | _ => rfl

/-- A commit hands the filter fields over and leaves the store's state (R150, R184). -/
theorem procedureSecond_state (s : State) : (procedureSecond s).store.state = s.store.state := by
  unfold procedureSecond takeSample
  split
  next => rfl
  next => split <;> simp
  next =>
    split
    next =>
      split
      next => simp
      next => split <;> simp [commit, handOverFields, Store.takeFields]
    next => rfl

/-- No deed of a part still loading ends its vacancy, and no deed but the power-on begins a load. -/
theorem Deed.vacant {c : Instr} {t : State} (h : Deed c s t) (vacant : s.isLoading = true → Vacant s)
    (loading : t.isLoading = true) : Vacant t := by
  have before (same : t.store.state = s.store.state) : Vacant s := vacant ((isLoading_congr same).symm.trans loading)
  have kept (store : t.store.state = s.store.state) (table : t.table = s.table) (bus : t.bus = s.bus) : Vacant t :=
    ⟨by rw [table]; exact (before store).entries, by rw [bus]; exact (before store).released⟩
  have loadedNot (loaded : s.isLoading = false) (store : t.store.state = s.store.state) : Vacant t := by
    rw [isLoading_congr store, loaded] at loading
    cases loading
  cases h with
  | nothing | pulse | heater | gap | travel | handover | link | turnsAway | writes =>
    have stood := before rfl
    exact ⟨stood.entries, stood.released⟩
  | powerOn => exact ⟨rfl, rfl⟩
  | load read row =>
    rw [State.isLoading, startUp_store, installTable_store] at loading
    generalize (loadedFrom read).outcome = outcome at loading
    cases outcome <;> cases loading
  | written state stays =>
    have stood := vacant (stays (by simpa [State.isLoading, Store.endWrite] using loading))
    exact ⟨stood.entries, stood.released⟩
  | rewritten state stays =>
    have stood := vacant (stays (by simpa [State.isLoading, Store.endWrite] using loading))
    exact ⟨stood.entries, stood.released⟩
  | minute =>
    have stood := before (by simp)
    exact ⟨Vacant.minuteTick stood.entries, by rw [minuteTick_bus]; exact stood.released⟩
  | expiry =>
    have stood := before (by simp)
    exact ⟨Vacant.demandMinute stood.entries, by rw [demandMinute_bus]; exact stood.released⟩
  | rebaseline n =>
    have stood := before (by simp)
    exact ⟨Vacant.applyZoneMove stood.entries n ZoneAction.noConfusion, by rw [applyZoneMove_bus]; exact stood.released⟩
  | zoneStale n =>
    have stood := before (by simp)
    exact ⟨Vacant.applyZoneMove stood.entries n (zoneFailed_places _), by rw [applyZoneMove_bus]; exact stood.released⟩
  | extractStale third =>
    have stood := before (by simp)
    exact ⟨Vacant.extractStale stood.entries third, by rw [extractOutcome_bus]; exact stood.released⟩
  | frost loaded => exact loadedNot loaded (by simp)
  | scan loaded => exact loadedNot loaded (by simp)
  | window x y flight =>
    have stood := before rfl
    rw [stood.released] at flight
    cases flight
  | ends o =>
    have stood := before (by simp)
    have none : endTransaction s o = s := by rw [endTransaction, stood.released]
    rw [none]
    exact stood
  | reset l => exact (before (by simp)).resetLink l
  | answers l tag kind r loaded =>
    have served := Served.loaded (answer_served s l r) loaded
    have loading : (answer s l r).state.isLoading = true := loading
    rw [served] at loading
    cases loading
  | procedure => exact kept (procedureSecond_state s) (by simp) (by simp)
  | _ => exact kept (by simp) (by simp) (by simp)

theorem tickSecond_loading : (tickSecond s).isLoading = s.isLoading := by
  refine isLoading_congr ?_
  have stored (u : Store) : u.second.state = u.state := by
    unfold Store.second Store.startWrite
    dsimp only
    split <;> split <;> rfl
  rw [tickSecond, stored, roundSecond_store]
  unfold timeSecond
  split
  next => simp
  next => rfl

theorem Vacant.tickSecond (v : Vacant s) (loading : s.isLoading = true) : Vacant (tickSecond s) := by
  have timed : Vacant (timeSecond s) := by
    unfold timeSecond
    split
    next => exact ⟨Vacant.minuteTick v.entries, by rw [minuteTick_bus]; exact v.released⟩
    next => exact ⟨v.entries, v.released⟩
  have still : (timeSecond s).isLoading = true := by
    refine (isLoading_congr ?_).trans loading
    unfold timeSecond
    split <;> simp
  have waits : roundSecond (timeSecond s) = timeSecond s := if_pos still
  have stood : Machine.tickSecond s = { timeSecond s with store := (timeSecond s).store.second } := by
    rw [Machine.tickSecond, waits]
  rw [stood]
  exact ⟨timed.entries, timed.released⟩

end

end Sys2Proof.Machine

namespace Sys2Proof

open Machine

/-- Settles O8: a zone's every move leaves its slot as its new state calls for, an expiry tells the zone whose entry it
took, and during the load the table stays empty, so the zones the load sets up hold nothing. -/
theorem zonesHoldTheirEntries : Obligations.ZonesHoldTheirEntries := by
  intro s t ok zones loading h
  have vacant (busy : s.isLoading = true) : Vacant s := ⟨(loading busy).1, (loading busy).2⟩
  obtain ⟨-, rfl⟩ | ⟨c, rest, -, deed⟩ := step_cases h
  · refine ⟨(Houses.tickSecond s).zones ok zones, fun busy => ?_⟩
    rw [tickSecond_loading] at busy
    have after := (vacant busy).tickSecond busy
    exact ⟨after.entries, after.released⟩
  · have waiting (busy : s.isLoading = true) : Vacant { s with pending := rest } := { vacant busy with }
    refine ⟨?zones, fun busy => ?vacant⟩
    case zones =>
      obtain houses | ⟨busy, x, rfl⟩ := deed.houses
      · exact houses.zones ok fun n => { zones n with }
      · exact startUp_zones { s with pending := rest } (vacant busy).entries
    case vacant =>
      have after := deed.vacant waiting busy
      exact ⟨after.entries, after.released⟩

end Sys2Proof
end

section
/-! PROOFS. What every step keeps of the sensor bus controller (R95, R99, R102, R106): a link waits in the queue exactly
while its record is QUEUED, and the transaction is its own exactly while its record is ACTIVE. -/

namespace Sys2Proof.Machine

/-! ### A pass-through record against the queue and the transaction (R102) -/

/-- Whether a record is QUEUED. -/
def PassRecord.isQueued : PassRecord → Bool
  | .queued _ => true
  | .idle | .active _ _ | .done _ _ => false

/-- Whether a record is ACTIVE. -/
def PassRecord.isActive : PassRecord → Bool
  | .active _ _ => true
  | .idle | .queued _ | .done _ _ => false

/-- The transaction in flight is a link's pass-through. -/
def Bus.Serves (b : Bus) (l : Link) : Prop := ∃ x ∈ b.transaction, x.originator = .passThrough l

section
variable {b c : Bus} {t : Settings} {l m : Link}

theorem Bus.passOk_iff : b.passOk l ↔
    (l ∈ b.passQueue ↔ (b.pass.get l).isQueued = true) ∧ (b.Serves l ↔ (b.pass.get l).isActive = true) := by
  have unserved : (∀ x ∈ b.transaction, x.originator ≠ .passThrough l) ↔ ¬b.Serves l := by simp [Serves]
  unfold passOk
  split
  next record => rw [unserved, record]; simp [PassRecord.isQueued, PassRecord.isActive]
  next record => rw [unserved, record]; simp [PassRecord.isQueued, PassRecord.isActive]
  next record => rw [unserved, record]; simp [PassRecord.isQueued, PassRecord.isActive]
  next record => rw [record]; simp [PassRecord.isQueued, PassRecord.isActive, Serves]

theorem Bus.not_serves_released (released : b.transaction = none) : ¬b.Serves l := by
  rintro ⟨x, flight, -⟩
  rw [released] at flight
  cases flight

/-- What a link's agreement asks stays: its record, its place in the queue, and whose the transaction is. -/
theorem Bus.passOk.congr (ok : b.passOk l) (record : c.pass.get l = b.pass.get l)
    (queue : l ∈ c.passQueue ↔ l ∈ b.passQueue) (serves : c.Serves l ↔ b.Serves l) : c.passOk l := by
  rw [passOk_iff] at ok ⊢
  rw [record, queue, serves]
  exact ok

/-! ### The grant decision (R100, R105, R107) -/

theorem Bus.Ok.startPass {waiting : List Link} (ok : b.Ok t) (released : b.transaction = none)
    (first : b.passQueue = l :: waiting) : (b.startPass l waiting).Ok t := by
  have distinct := ok.passQueue
  rw [first, List.nodup_cons] at distinct
  obtain ⟨req, queued⟩ : ∃ req, b.pass.get l = .queued req := by
    have record := ((passOk_iff.mp (ok.pass l)).1).mp (by rw [first]; simp)
    cases stands : b.pass.get l with
    | queued req => exact ⟨req, rfl⟩
    | idle | active | done => rw [stands] at record; cases record
  rw [startPass_queued queued]
  refine { ok with credit := Nat.zero_le _, passQueue := distinct.2, reply := ?reply, pass := fun m => ?pass }
  case reply => rintro x ⟨⟩; exact Nat.zero_lt_succ 7
  case pass =>
    by_cases same : m = l
    · subst same
      rw [passOk_iff, PerLink.get_set, if_pos rfl]
      exact ⟨by simpa [PassRecord.isQueued] using distinct.1, by simp [PassRecord.isActive, Serves]⟩
    · refine (ok.pass m).congr ?_ ?_ ?_
      · rw [PerLink.get_set, if_neg same]
      · rw [first, List.mem_cons, or_iff_right same]
      · rw [iff_false_right (not_serves_released released)]
        rintro ⟨x, ⟨⟩, mine⟩
        exact same (by cases mine; rfl)

theorem Bus.Ok.startScan {n : Sensor} {rest : List Sensor} (ok : b.Ok t) (released : b.transaction = none)
    (distinct : rest.Nodup) : (b.startScan t n rest).Ok t := by
  refine { ok with scanQueue := distinct, reply := ?reply, pass := fun m => (ok.pass m).congr rfl Iff.rfl ?pass }
  case reply => rintro x ⟨⟩; exact Nat.zero_lt_succ 7
  case pass =>
    rw [iff_false_right (not_serves_released released)]
    rintro ⟨x, ⟨⟩, mine⟩
    cases mine

theorem Bus.Ok.withScanQueue {q : List Sensor} (ok : b.Ok t) (distinct : q.Nodup) : Bus.Ok { b with scanQueue := q } t :=
  { ok with scanQueue := distinct, pass := fun m => (ok.pass m).congr rfl Iff.rfl Iff.rfl }

theorem Bus.Ok.select (ok : b.Ok t) (released : b.transaction = none) (z : PerZone ZoneRecord) {q : List Sensor}
    (distinct : q.Nodup) : (b.select t z q).Ok t := by
  induction q with
  | nil =>
    unfold Bus.select
    split
    next => exact ok.withScanQueue distinct
    next first => exact (ok.withScanQueue distinct).startPass released first
  | cons n ns ih =>
    have rest := (List.nodup_cons.mp distinct).2
    unfold Bus.select
    split
    next =>
      split
      next => exact ih rest
      next => exact ok.startScan released rest
    next first =>
      split
      next => exact (ok.withScanQueue distinct).startPass released first
      next =>
        split
        next => exact ih rest
        next => exact ok.startScan released rest

theorem Bus.Ok.grant (ok : b.Ok t) (z : PerZone ZoneRecord) : (b.grant t z).Ok t := by
  unfold Bus.grant
  split
  next => exact ok
  next released => exact ok.select released z ok.scanQueue

/-! ### Pass-through requests and results (R103, R104, R108) -/

/-- A link's record brought to rest, its entry taken off the queue and its transaction not in flight. -/
theorem Bus.Ok.settle {queue : List Link} {r : PassRecord} (ok : b.Ok t) (unserved : ¬b.Serves l)
    (distinct : queue.Nodup) (absent : l ∉ queue) (others : ∀ m, m ≠ l → (m ∈ queue ↔ m ∈ b.passQueue))
    (queued : r.isQueued = false) (active : r.isActive = false) :
    Bus.Ok { b with passQueue := queue, pass := b.pass.set l r } t := by
  refine { ok with passQueue := distinct, pass := fun m => ?_ }
  by_cases same : m = l
  · subst same
    rw [passOk_iff, PerLink.get_set, if_pos rfl, queued, active]
    exact ⟨by simpa using absent, iff_of_false unserved Bool.false_ne_true⟩
  · exact (ok.pass m).congr (by rw [PerLink.get_set, if_neg same]) (others m same) Iff.rfl

theorem Bus.Ok.atRest (ok : b.Ok t) {r : PassRecord} (queued : (b.pass.get l).isQueued = false)
    (active : (b.pass.get l).isActive = false) (rests : r.isQueued = false) (released : r.isActive = false) :
    Bus.Ok { b with pass := b.pass.set l r } t := by
  have agrees := passOk_iff.mp (ok.pass l)
  rw [queued, active] at agrees
  exact ok.settle (by simpa using agrees.2) ok.passQueue (by simpa using agrees.1) (fun _ _ => Iff.rfl) rests released

theorem Bus.Ok.queue (ok : b.Ok t) {req : BusRequest} (queued : (b.pass.get l).isQueued = false)
    (active : (b.pass.get l).isActive = false) :
    Bus.Ok { b with passQueue := b.passQueue ++ [l], pass := b.pass.set l (.queued req) } t := by
  have agrees := passOk_iff.mp (ok.pass l)
  rw [queued, active] at agrees
  have absent : l ∉ b.passQueue := by simpa using agrees.1
  refine { ok with passQueue := nodup_concat ok.passQueue absent, pass := fun m => ?_ }
  by_cases same : m = l
  · subst same
    rw [passOk_iff, PerLink.get_set, if_pos rfl]
    exact ⟨by simp [PassRecord.isQueued], by simpa [PassRecord.isActive, Serves] using agrees.2⟩
  · exact (ok.pass m).congr (by rw [PerLink.get_set, if_neg same]) (by simp [same]) Iff.rfl

theorem Bus.Ok.resetLink (ok : b.Ok t) (l : Link) : (b.resetLink l).Ok t := by
  unfold Bus.resetLink
  split
  next => exact ok
  next req record =>
    have agrees := passOk_iff.mp (ok.pass l)
    rw [record] at agrees
    refine ok.settle (by simpa [PassRecord.isActive] using agrees.2) (ok.passQueue.filter _) (by simp)
      (fun m other => by simp [other]) rfl rfl
  next req discard record =>
    have agrees := passOk_iff.mp (ok.pass l)
    refine { ok with pass := fun m => ?_ }
    by_cases same : m = l
    · subst same
      rw [record] at agrees
      rw [passOk_iff, PerLink.get_set, if_pos rfl]
      exact agrees
    · exact (ok.pass m).congr (by rw [PerLink.get_set, if_neg same]) Iff.rfl Iff.rfl
  next req o record => exact ok.atRest (by rw [record]; rfl) (by rw [record]; rfl) rfl rfl

/-! ### The end of a transaction (R95, R105, R106) -/

/-- The transaction cleared, and the record of the link it served brought to rest. -/
theorem Bus.Ok.clear (ok : b.Ok t) {credit : Nat} {pass : PerLink PassRecord} (few : credit ≤ t.nat .scanQuota)
    (served : ∀ m, b.Serves m → (pass.get m).isQueued = false ∧ (pass.get m).isActive = false)
    (others : ∀ m, ¬b.Serves m → pass.get m = b.pass.get m) :
    Bus.Ok { b with transaction := none, credit := credit, pass := pass } t := by
  refine { ok with credit := few, reply := fun x flight => (by cases flight), pass := fun m => ?_ }
  by_cases owner : b.Serves m
  · obtain ⟨queued, active⟩ := served m owner
    have agrees := passOk_iff.mp (ok.pass m)
    have before := agrees.2.mp owner
    rw [passOk_iff, queued, active]
    refine ⟨iff_of_false (fun waits => ?_) Bool.false_ne_true, iff_of_false (not_serves_released rfl) Bool.false_ne_true⟩
    have again := agrees.1.mp waits
    cases record : b.pass.get m with
    | queued => rw [record] at before; cases before
    | idle | active | done => rw [record] at again; cases again
  · exact (ok.pass m).congr (others m owner) Iff.rfl (iff_of_false (not_serves_released rfl) owner)

end

section
variable {s t : State}

theorem endPass_rests {l : Link} {o : BusOutcome} (active : (s.bus.pass.get l).isActive = true) :
    ((endPass s l o).bus.pass.get l).isQueued = false ∧ ((endPass s l o).bus.pass.get l).isActive = false := by
  unfold endPass
  cases record : s.bus.pass.get l with
  | active req discard => cases discard <;> simp [raiseTo, setBus, PassRecord.isQueued, PassRecord.isActive]
  | idle | queued | done => rw [record] at active; cases active

theorem handedOn_bus_ok (ok : s.bus.Ok s.settings) {x : Transaction} (flight : s.bus.transaction = some x)
    (o : BusOutcome) : (handedOn s x.originator o).bus.Ok s.settings := by
  have own (m : Link) : s.bus.Serves m ↔ x.originator = .passThrough m := by simp [Bus.Serves, flight]
  rw [handedOn_bus]
  refine ok.clear ?credit (fun m owner => ?served) fun m other => ?others
  case credit =>
    show creditAfter s x.originator ≤ _
    unfold creditAfter
    split
    next => exact Nat.min_le_right ..
    next => exact ok.credit
  case served =>
    have active := (Bus.passOk_iff.mp (ok.pass m)).2.mp owner
    rw [(own m).mp owner]
    exact endPass_rests (s := cleared s (.passThrough m)) active
  case others => exact handedOn_pass (fun e => other ((own m).mpr e)) o

theorem grant_bus_ok (ok : s.bus.Ok s.settings) : (grant s).bus.Ok s.settings := ok.grant _

theorem endTransaction_bus_ok (ok : s.bus.Ok s.settings) (o : BusOutcome) : (endTransaction s o).bus.Ok s.settings := by
  cases flight : s.bus.transaction with
  | none =>
    have none : endTransaction s o = s := by rw [endTransaction, flight]
    rw [none]
    exact ok
  | some x =>
    have handed := handedOn_bus_ok ok flight o
    rw [endTransaction_eq flight]
    rw [← handedOn_settings (s := s) x.originator o] at handed ⊢
    exact grant_bus_ok handed

/-! ### Scan rounds, the stored quota and the load -/

theorem scanRound_bus_ok (ok : s.bus.Ok s.settings) : (scanRound s).bus.Ok s.settings := by
  have distinct : ((roundSensors s.humidity.zones).foldl joinScan s.bus.scanQueue).Nodup := by
    rw [foldl_joinScan (roundSensors_nodup _)]
    refine List.nodup_append.mpr ⟨ok.scanQueue, (roundSensors_nodup _).filter _, ?_⟩
    rintro n waits _ joins rfl
    simpa [waits] using (List.mem_filter.mp joins).2
  have joined : Bus.Ok { s.bus with scanQueue := (roundSensors s.humidity.zones).foldl joinScan s.bus.scanQueue,
                                    roundCount := 0 } s.settings :=
    { ok.withScanQueue distinct with pass := fun m => (ok.pass m).congr rfl Iff.rfl Iff.rfl }
  unfold scanRound
  dsimp only
  split
  next => exact joined
  next => exact grant_bus_ok (s := setBus s _) joined

/-- Another table, whose quota the credit does not exceed. -/
theorem Bus.Ok.withCredit {b : Bus} {t u : Settings} {credit : Nat} (ok : b.Ok t) (few : credit ≤ u.nat .scanQuota) :
    Bus.Ok { b with credit := credit } u where
  credit := few
  scanQueue := ok.scanQueue
  passQueue := ok.passQueue
  reply := ok.reply
  pass m := (ok.pass m).congr rfl Iff.rfl Iff.rfl

/-- A stored `scan_quota` cuts the credit to it (R106). -/
theorem storeKey_bus_ok (ok : s.bus.Ok s.settings) (k : Key) (v : Int) (l : Link) :
    (storeKey s k v l).bus.Ok (storeKey s k v l).settings := by
  have settings : (storeKey s k v l).settings = tableAfter s.settings k v := by rw [State.settings, storeKey_store]
  rw [settings, storeKey_eq, tellBlocks_bus, notice_bus, keyRecorded_bus]
  refine ok.withCredit ?_
  split
  next quota =>
    subst quota
    rw [Settings.nat, tableAfter_own]
    exact Nat.min_le_right ..
  next other =>
    rw [Settings.nat, tableAfter_other _ _ (Ne.symm other) fun z _ => Key.noConfusion]
    exact ok.credit

theorem startUp_bus_ok (ok : s.bus.Ok s.settings) (x : Loaded) : (startUp s x).bus.Ok (startUp s x).settings := by
  have settings : (startUp s x).settings = x.settings := by rw [State.settings, startUp_store, installTable_store]
  have first : (recompute (setUp s x)).settings = x.settings := setUp_settings s x
  have bus : (recompute (setUp s x)).bus = s.bus := by rw [recompute_bus, setUp_bus]
  rw [settings, startUp_eq]
  show (scanRound (setBus (recompute (setUp s x)) _)).bus.Ok x.settings
  rw [first, bus]
  have scanned := scanRound_bus_ok (s := setBus (recompute (setUp s x)) { s.bus with credit := x.settings.nat .scanQuota })
    (ok.withCredit (Nat.le_of_eq (by rw [← first]; rfl)))
  exact first ▸ scanned

/-! ### The deeds -/

theorem Served.bus_ok {l : Link} (h : Served s l t) (ok : s.bus.Ok s.settings) : t.bus.Ok t.settings := by
  have kept (bus : t.bus = s.bus) (settings : t.store.settings = s.store.settings) : t.bus.Ok t.settings := by
    rw [bus, settings_congr settings]; exact ok
  cases h with
  | sets k v => exact storeKey_bus_ok ok k _ l
  | queues req free =>
    have rests : (s.bus.pass.get l).isQueued = false ∧ (s.bus.pass.get l).isActive = false := by
      obtain idle | ⟨q, o, done⟩ := free
      · rw [idle]; exact ⟨rfl, rfl⟩
      · rw [done]; exact ⟨rfl, rfl⟩
    exact grant_bus_ok (s := setBus s _) (ok.queue rests.1 rests.2)
  | fetches req o done => exact ok.atRest (by rw [done]; rfl) (by rw [done]; rfl) rfl rfl
  | setsTime c => rw [setTime_frame]; exact ok
  | clearsFan | clearsLockout | aborts => exact kept (by simp) (by simp)
  | setsThresholds | setsEventMap => exact ok.withCredit ok.credit
  | _ => exact ok

theorem Deed.bus_ok {c : Instr} (h : Deed c s t) (ok : s.bus.Ok s.settings) : t.bus.Ok t.settings := by
  have kept (bus : t.bus = s.bus) (settings : t.store.settings = s.store.settings) : t.bus.Ok t.settings := by
    rw [bus, settings_congr settings]; exact ok
  cases h with
  | powerOn =>
    obtain ⟨-, -, -, -, -, -, -, bus, -⟩ := resetMeetsTheInvariants
    exact bus
  | load read row loading => exact startUp_bus_ok ok _
  | procedure => rw [procedureSecond_settings, procedureSecond_bus]; exact ok
  | scan loaded => rw [settings_congr (s := s) (by simp)]; exact scanRound_bus_ok ok
  | window x y flight same fits =>
    refine { ok with reply := ?_, pass := fun m => (ok.pass m).congr rfl Iff.rfl ?_ }
    · rintro _ ⟨⟩
      exact fits (ok.reply x flight)
    · simp [Bus.Serves, setBus, flight, same]
  | ends o => rw [settings_congr (s := s) (by simp)]; exact endTransaction_bus_ok ok o
  | reset l => rw [settings_congr (s := s) (by simp), resetLink_bus]; exact ok.resetLink l
  | answers l tag kind r loaded => exact (answer_served s l r).bus_ok ok
  | nothing | pulse | heater | gap | travel | handover | link | turnsAway | writes | written | rewritten => exact ok
  | _ => exact kept (by simp) (by simp)

theorem tickSecond_bus_ok (ok : s.bus.Ok s.settings) : (tickSecond s).bus.Ok (tickSecond s).settings := by
  have timed : (timeSecond s).bus = s.bus ∧ (timeSecond s).settings = s.settings := by
    unfold timeSecond
    split
    next => exact ⟨minuteTick_bus s, settings_congr (by simp)⟩
    next => exact ⟨rfl, rfl⟩
  rw [tickSecond_settings]
  show (roundSecond (timeSecond s)).bus.Ok s.settings
  unfold roundSecond
  rw [← timed.1, ← timed.2] at ok
  split
  next => exact timed.2 ▸ ok
  next =>
    split
    next => exact timed.2 ▸ scanRound_bus_ok ok
    next => exact timed.2 ▸ { ok.withCredit ok.credit with }

end

end Sys2Proof.Machine

namespace Sys2Proof

open Machine

/-- Settles O9: a queue entry comes and goes with its QUEUED record, a transaction with its ACTIVE one, a reply ends at
its eighth byte, and a smaller `scan_quota` cuts the credit. -/
theorem sensorBusStaysConsistent : Obligations.SensorBusStaysConsistent := by
  intro s t ok h
  obtain ⟨-, rfl⟩ | ⟨c, rest, -, deed⟩ := step_cases h
  · exact tickSecond_bus_ok ok
  · exact deed.bus_ok (s := { s with pending := rest }) ok

end Sys2Proof
end

section
/-! PROOFS. Requests as bytes (R157, R188, R189): a field split is the field joined again, so every payload reads back,
and the bytes of a frame leave its link with the frame whole. -/

namespace Sys2Proof.Machine

/-! ### Fields -/

theorem joinHalf_split (h : Half) : joinHalf (h.extractLsb' 8 8) (h.extractLsb' 0 8) = h := by
  apply BitVec.eq_of_toNat_eq
  rw [joinHalf_toNat]
  simp only [BitVec.extractLsb'_toNat, Nat.shiftRight_eq_div_pow]
  omega

theorem joinWord_toNat (a b c d : Byte) :
    (joinWord a b c d).toNat = (joinHalf a b).toNat * 65536 + (joinHalf c d).toNat := by
  rw [joinWord, BitVec.toNat_append, ← Nat.shiftLeft_add_eq_or_of_lt (joinHalf c d).isLt, Nat.shiftLeft_eq]

theorem joinWord_split (w : Word) :
    joinWord (w.extractLsb' 24 8) (w.extractLsb' 16 8) (w.extractLsb' 8 8) (w.extractLsb' 0 8) = w := by
  apply BitVec.eq_of_toNat_eq
  simp only [joinWord_toNat, joinHalf_toNat, BitVec.extractLsb'_toNat, Nat.shiftRight_eq_div_pow]
  omega

theorem bytesOf_toList (v : Vector Byte 14) : bytesOf v.toList = some v := by
  rw [bytesOf, dif_pos (by simp)]
  rfl

theorem halvesOf_split (v : Vector Half 7) : halvesOf (v.toList.flatMap splitHalf) = some v := by
  obtain ⟨⟨l⟩, h⟩ := v
  match l, h with
  | [a, b, c, d, e, f, g], h =>
    show some _ = some _
    refine congrArg some (Vector.ext fun i hi => ?_)
    match i, hi with
    | 0, _ | 1, _ | 2, _ | 3, _ | 4, _ | 5, _ | 6, _ => exact joinHalf_split _

/-! ### Requests (R189) -/

/-- A target that is none of the part's names itself (R187). -/
theorem clearRequest_unknown {target : Byte} (h : 3 < target.toNat) : clearRequest target = .clearUnknown target := by
  unfold clearRequest
  split
  case h_5 => rfl
  all_goals omega

theorem parse_payload {r : Request} (h : r.canonical) : parseRequest r.kind r.payload = .request r := by
  cases r with
  | post k level duration =>
    show Parsed.request (.post k (joinHalf _ _) (joinHalf _ _)) = _
    rw [joinHalf_split, joinHalf_split]
  | set c v =>
    show Parsed.request (.set c (joinWord _ _ _ _)) = _
    rw [joinWord_split]
  | time c =>
    show Parsed.request (.time (joinWord _ _ _ _)) = _
    rw [joinWord_split]
  | setThresholds v =>
    show Parsed.of ((halvesOf (v.toList.flatMap splitHalf)).map Request.setThresholds) = _
    rw [halvesOf_split]
    rfl
  | setEventMap v =>
    show Parsed.of ((bytesOf v.toList).map Request.setEventMap) = _
    rw [bytesOf_toList]
    rfl
  | setUnknown c v =>
    obtain ⟨notThresholds, notMap⟩ := h
    show Parsed.of (groupRequest c v.toList) = _
    rw [groupRequest, if_neg notThresholds, if_neg notMap, bytesOf_toList]
    rfl
  | clearFan f => cases f <;> rfl
  | clearUnknown target =>
    show Parsed.request (clearRequest target) = _
    rw [clearRequest_unknown h]
  | _ => rfl

/-- Every payload fits a frame: the longest is a group's, its code and fourteen bytes (R189). -/
theorem payload_length_le (r : Request) : r.payload.length ≤ 48 := by
  cases r with
  | setThresholds v =>
    show (v.toList.flatMap splitHalf).length + 1 ≤ 48
    have two : v.toList.map (fun h => (splitHalf h).length) = List.replicate 7 2 :=
      List.eq_replicate_iff.mpr ⟨by simp, fun n h => by obtain ⟨_, _, rfl⟩ := List.mem_map.mp h; rfl⟩
    rw [List.length_flatMap, two]
    decide
  | setEventMap v => simp [Request.payload]
  | setUnknown c v => simp [Request.payload]
  | clearFan f => cases f <;> decide
  | _ => simp [Request.payload, splitHalf, splitWord]

/-! ### Frames (R157, R188) -/

/-- A link in the middle of a frame. -/
def receiving (s : State) (l : Link) (frame : List Byte) : State :=
  setLink s l { s.links.get l with state := .receiving, frame := frame }

section
variable (s : State) (l : Link)

theorem receiveAll_cons {b : Byte} {bs : List Byte} {t : State} (h : execLinkByteReceived l b s = .next t) :
    receiveAll l (b :: bs) s = receiveAll l bs t := by rw [receiveAll, h]

theorem receiving_link (frame : List Byte) :
    (receiving s l frame).links.get l = { s.links.get l with state := .receiving, frame := frame } := by
  simp [receiving, setLink]

theorem receiving_again (frame next : List Byte) : receiving (receiving s l frame) l next = receiving s l next := by
  simp [receiving, setLink]

/-- What a byte does in the middle of a frame. -/
theorem receiving_byte {frame : List Byte} {b : Byte} {m : RxMove} (h : receiveByte frame b = m) :
    execLinkByteReceived l b (receiving s l frame) =
      .next (match m with
        | .disregard => receiving s l frame
        | .discard => setLink (receiving s l frame) l ((receiving s l frame).links.get l).discard
        | .keep next => receiving s l next
        | .complete tag kind payload => takeFrame (receiving s l frame) l tag kind payload) := by
  have moves : ((receiving s l frame).links.get l).receive b = m := by rw [receiving_link]; exact h
  unfold execLinkByteReceived
  rw [moves]
  cases m with
  | keep next => exact congrArg Host.Outcome.next (receiving_again s l frame next)
  | disregard | discard | complete => rfl

/-- The bytes between the length and the CRC are taken (R157). -/
theorem receiveAll_body (a len : Byte) (bs rest more : List Byte) (room : rest.length + bs.length ≤ len.toNat) :
    receiveAll l (bs ++ more) (receiving s l (a :: len :: rest)) =
      receiveAll l more (receiving s l (a :: len :: (rest ++ bs))) := by
  induction bs generalizing rest with
  | nil => rw [List.append_nil, List.nil_append]
  | cons b bs ih =>
    rw [List.length_cons] at room
    have kept : receiveByte (a :: len :: rest) b = .keep (a :: len :: (rest ++ [b])) := by
      rw [receiveByte, if_pos (by omega)]
      rfl
    rw [List.cons_append, receiveAll_cons _ l (receiving_byte s l kept), ih (rest ++ [b]) (by simp; omega)]
    simp

/-- A frame taken whole: the link has received it up to its CRC (R157). -/
theorem receiveAll_frame {tag kind : Byte} {payload : List Byte} (fits : payload.length ≤ 48)
    (listens : (s.links.get l).state = .listening) :
    receiveAll l (frameBytes tag kind payload) s =
      .next (takeFrame (receiving s l (frameStart :: frameBody tag kind payload)) l tag kind payload) := by
  generalize hlen : BitVec.ofNat 8 (2 + payload.length) = len
  have length : len.toNat = 2 + payload.length := by
    rw [← hlen, BitVec.toNat_ofNat]
    omega
  have body : frameBody tag kind payload = len :: tag :: kind :: payload := by rw [← hlen]; rfl
  have starts : execLinkByteReceived l frameStart s = .next (receiving s l [frameStart]) := by
    unfold execLinkByteReceived
    rw [LinkRecord.receive, listens]
    rfl
  have measures : receiveByte [frameStart] len = .keep [frameStart, len] := by
    rw [receiveByte, if_pos (by simp [lengthFits, length]; omega)]
  have closes : receiveByte (frameStart :: len :: tag :: kind :: payload) (crc8 (len :: tag :: kind :: payload)) =
      .complete tag kind payload := by
    rw [receiveByte, if_neg (by simp [length]; omega), closeFrame, if_pos rfl]
  rw [frameBytes, body, List.cons_append, receiveAll_cons s l starts, List.cons_append,
    receiveAll_cons _ l (receiving_byte s l measures)]
  have taken := receiveAll_body s l frameStart len (tag :: kind :: payload) []
    [crc8 (len :: tag :: kind :: payload)] (by simp [length]; omega)
  refine taken.trans ?_
  rw [List.nil_append, receiveAll_cons _ l (receiving_byte s l closes)]
  rfl

end

end Sys2Proof.Machine

namespace Sys2Proof

open Machine

/-- Settles O17: each request's layout is read by the reader of its kind, field by field. -/
theorem requestsReadBackFromTheirBytes : Obligations.RequestsReadBackFromTheirBytes :=
  fun _ => parse_payload

/-- Settles O18: the start byte, the length, the bytes between and the matching CRC take the frame, whose payload reads
back as the request. -/
theorem frameBytesTakeTheRequest : Obligations.FrameBytesTakeTheRequest := by
  intro s l tag r canonical listens
  refine ⟨frameStart :: frameBody tag r.kind r.payload, ?_, rfl⟩
  rw [receiveAll_frame s l (payload_length_le r) listens, takeFrame, serveFrame, parse_payload canonical]
  rfl

end Sys2Proof
end

section
/-! PROOFS. The settings image read back (R183, R193): each field stands at its offset, and a table in range and relation
is clamped nowhere. -/

namespace Sys2Proof.Machine

/-! ### Fields at their offsets -/

/-- A field stands in the bytes at an offset. -/
structure Stands (bs : List Byte) (i : Nat) (field : List Byte) : Prop where
  split : ∃ before later, bs = before ++ (field ++ later) ∧ before.length = i

section
variable {bs field : List Byte} {i : Nat}

theorem Stands.byte (h : Stands bs i field) {j : Nat} (inside : j < field.length) : byteAt bs (i + j) = field[j] := by
  obtain ⟨before, later, rfl, rfl⟩ := h.split
  rw [byteAt, List.getD_eq_getElem?_getD, List.getElem?_append_right (by omega), Nat.add_sub_cancel_left,
    List.getElem?_append_left inside, List.getElem?_eq_getElem inside]
  rfl

/-- A part of a field. -/
theorem Stands.part {a b c : List Byte} (h : Stands bs i (a ++ (b ++ c))) : Stands bs (i + a.length) b := by
  obtain ⟨before, later, rfl, rfl⟩ := h.split
  exact ⟨before ++ a, c ++ later, by simp, by simp⟩

theorem Stands.first {a b : List Byte} (h : Stands bs i (a ++ b)) : Stands bs i a := h.part (a := [])

theorem Stands.last {a b : List Byte} (h : Stands bs i (a ++ b)) : Stands bs (i + a.length) b :=
  (by simpa using h : Stands bs i (a ++ (b ++ []))).part

/-- The fields of a list, each of one length. -/
theorem Stands.each {α : Type} {xs : List α} {f : α → List Byte} {width : Nat} (h : Stands bs i (xs.flatMap f))
    (same : ∀ x, (f x).length = width) {n : Nat} {x : α} (place : xs[n]? = some x) : Stands bs (i + width * n) (f x) := by
  obtain ⟨inside, rfl⟩ := List.getElem?_eq_some_iff.mp place
  have whole : xs.flatMap f = (xs.take n).flatMap f ++ (f xs[n] ++ (xs.drop (n + 1)).flatMap f) := by
    conv =>
      lhs
      rw [← List.take_append_drop n xs, List.drop_eq_getElem_cons inside]
    rw [List.flatMap_append, List.flatMap_cons]
  have before : ((xs.take n).flatMap f).length = width * n := by
    rw [List.length_flatMap, List.map_congr_left fun x _ => same x, List.map_const', List.sum_replicate_nat,
      List.length_take, Nat.min_eq_left (Nat.le_of_lt inside), Nat.mul_comm]
  rw [whole] at h
  exact before ▸ h.part

theorem Stands.half {n : Nat} (h : Stands bs i (be16 n)) (small : n < 65536) : (halfAt bs i).toNat = n := by
  have high : byteAt bs i = _ := h.byte (j := 0) (by simp)
  have low : byteAt bs (i + 1) = _ := h.byte (j := 1) (by simp)
  rw [halfAt, high, low, joinHalf_toNat]
  simp only [be16, List.getElem_cons_zero, List.getElem_cons_succ, BitVec.toNat_ofNat]
  omega

theorem Stands.word {n : Nat} (h : Stands bs i (be32 n)) (small : n < 4294967296) : (wordAt bs i).toNat = n := by
  have b0 : byteAt bs i = _ := h.byte (j := 0) (by simp [be32])
  have b1 : byteAt bs (i + 1) = _ := h.byte (j := 1) (by simp [be32])
  have b2 : byteAt bs (i + 2) = _ := h.byte (j := 2) (by simp [be32])
  have b3 : byteAt bs (i + 3) = _ := h.byte (j := 3) (by simp [be32])
  rw [wordAt, b0, b1, b2, b3, joinWord_toNat, joinHalf_toNat, joinHalf_toNat]
  simp only [be32, List.getElem_cons_zero, List.getElem_cons_succ, BitVec.toNat_ofNat]
  omega

end

/-! ### Keys (R189) -/

theorem keyRange_fits (k : Key) : -2147483648 ≤ (keyRange k).1 ∧ (keyRange k).2 < 2147483648 := by
  cases k with
  | zone z k => cases z <;> cases k <;> decide
  | _ => decide

theorem keyRange_unsigned {k : Key} : signedKey k = false → 0 ≤ (keyRange k).1 := by
  cases k with
  | zone z k => cases z <;> cases k <;> decide
  | _ => decide

/-- A value in its key's range reads back from its four bytes. -/
theorem keyValueOf_word {k : Key} {v : Int} (low : (keyRange k).1 ≤ v) (high : v ≤ (keyRange k).2) :
    keyValueOf k (keyValueWord v) = v := by
  have fits := keyRange_fits k
  unfold keyValueOf keyValueWord
  split
  next => rw [BitVec.toInt_ofInt, Int.bmod_def]; omega
  next unsigned =>
    have positive := keyRange_unsigned (Bool.eq_false_iff.mpr unsigned)
    rw [BitVec.toNat_ofInt]
    omega

/-! ### A table that no clamp changes (R182) -/

section
variable {t : Settings}

theorem Settings.put_get (t : Settings) (k : Key) : t.put k (t.get k) = t := by
  have same : t.values.set (keyPlace k).val (t.values.get (keyPlace k)) (keyPlace k).isLt = t.values :=
    Vector.set_getElem_self _
  rw [Settings.put, Settings.get, same]

/-- Clamps that leave each value leave the table. -/
theorem foldl_put_kept {f : Settings → Key → Int} {ks : List Key} (kept : ∀ k ∈ ks, f t k = t.get k) :
    ks.foldl (fun t k => t.put k (f t k)) t = t := by
  induction ks with
  | nil => rfl
  | cons k ks ih =>
    rw [List.foldl_cons, kept k (by simp), Settings.put_get]
    exact ih fun j hj => kept j (List.mem_cons_of_mem _ hj)

theorem Settings.Ok.clampToRange (ok : t.Ok) (k : Key) : clampToRange k (t.get k) = t.get k := by
  have range := ok.range k
  unfold Machine.clampToRange clampInt
  omega

theorem Settings.Ok.clampToRelated (ok : t.Ok) (k : Key) : clampToRelated t k (t.get k) = t.get k := by
  obtain ⟨-, health, unit, cap, ref, duty, low, high, boost, dry, -⟩ := ok
  unfold Machine.clampToRelated
  split
  case h_9 z | h_10 z => have order := boost z; omega
  case h_13 => rfl
  all_goals omega

theorem Settings.Ok.rangeAll (ok : t.Ok) : rangeAll t = t := foldl_put_kept fun k _ => ok.clampToRange k

theorem Settings.Ok.relateAll (ok : t.Ok) : relateAll t = t := foldl_put_kept fun k _ => ok.clampToRelated k

end

/-! ### The parts of an image (R193) -/

section
variable (t : Settings) (f : PerSide Persisted)

theorem length_keyBytes : (allKeys.flatMap fun k => wordBytes (keyValueWord (t.get k))).length = 252 := by
  rw [List.length_flatMap, List.map_congr_left fun k _ => length_wordBytes _]
  rfl

@[simp] theorem length_thresholdBytes (th : Thresholds) : (thresholdBytes th).length = 14 := rfl

@[simp] theorem length_mapBytes (m : PerLink KindSet) : (mapBytes m).length = 14 := rfl

@[simp] theorem length_be32 (n : Nat) : (be32 n).length = 4 := rfl

@[simp] theorem length_persistedBytes (p : Persisted) : (persistedBytes p).length = 16 := by simp [persistedBytes]

theorem length_imageBody : (imageBody t f).length = 313 := by
  simp only [imageBody, List.length_append, List.length_cons, length_keyBytes, length_thresholdBytes, length_mapBytes,
    length_persistedBytes]

/-- The image, field by field. -/
theorem imageBytes_eq :
    imageBytes t f = [imageVersion] ++ ((allKeys.flatMap fun k => wordBytes (keyValueWord (t.get k))) ++
      (thresholdBytes t.thresholds ++ (mapBytes t.eventMap ++ (persistedBytes f.supply ++
        (persistedBytes f.extract ++ halfBytes (crc16 (imageBody t f))))))) := by
  simp [imageBytes, imageBody]

/-- The version, the keys, the two groups, the two filters' fields and the CRC stand at their offsets. -/
structure ImageParts (bs : List Byte) : Prop where
  version : Stands bs 0 [imageVersion]
  keys : Stands bs 1 (allKeys.flatMap fun k => wordBytes (keyValueWord (t.get k)))
  thresholds : Stands bs 253 (thresholdBytes t.thresholds)
  map : Stands bs 267 (mapBytes t.eventMap)
  supply : Stands bs 281 (persistedBytes f.supply)
  extract : Stands bs 297 (persistedBytes f.extract)
  crc : Stands bs 313 (halfBytes (crc16 (imageBody t f)))

theorem imageBytes_parts : ImageParts t f (imageBytes t f) := by
  have whole : Stands (imageBytes t f) 0 (imageBytes t f) := ⟨[], [], by simp, rfl⟩
  rw (occs := [2]) [imageBytes_eq] at whole
  have keys := whole.last
  have thresholds := keys.last
  rw [length_keyBytes] at thresholds
  have map := thresholds.last
  have supply := map.last
  have extract := supply.last
  have crc := extract.last
  simp only [length_thresholdBytes, length_mapBytes, length_persistedBytes, List.length_singleton] at *
  exact ⟨whole.first, keys.first, thresholds.first, map.first, supply.first, extract.first, crc⟩

theorem Thresholds.toList_inj {a b : Thresholds} (h : a.toList = b.toList) : a = b := by
  cases a; cases b; simpa [Thresholds.toList] using h

theorem mapByte_link (m : PerLink KindSet) (k : EventKind) (l : Link) :
    (mapByte m k).getLsbD (linkCode l) = hasKind (m.get l) k := by
  have bits (a b c : Bool) : ∀ l : Link, (BitVec.ofNat 8 (maskOf [a, b, c])).getLsbD (linkCode l) =
      match l with | .panel => a | .heating => b | .service => c := by
    cases a <;> cases b <;> cases c <;> intro l <;> cases l <;> decide
  rw [mapByte, bits]
  cases l <;> rfl

theorem allKinds_get (k : EventKind) : allKinds[kindIndex k]? = some k := by cases k <;> rfl

variable {t f} {bs : List Byte} (parts : ImageParts t f bs)
include parts

/-- A key's value reads back (R189). -/
theorem ImageParts.value (ok : t.Ok) {i : Nat} {k : Key} (place : allKeys[i]? = some k) :
    keyValueOf k (wordAt bs (1 + 4 * i)) = t.get k := by
  have range := ok.range k
  have field : wordAt bs (1 + 4 * i) = keyValueWord (t.get k) :=
    BitVec.eq_of_toNat_eq ((parts.keys.each (fun _ => length_wordBytes _) place).word (BitVec.isLt _))
  rw [field, keyValueOf_word range.1 range.2]

theorem ImageParts.values (ok : t.Ok) : imageValues bs = t.values := by
  refine Vector.ext fun i inside => ?_
  have place : allKeys[i]? = some allKeys[i] := List.getElem?_eq_getElem inside
  rw [imageValues, Vector.getElem_ofFn]
  simp only [place, parts.value ok place, Settings.get]
  show t.values[(keyPlace allKeys[i]).val] = _
  congr 1
  exact keyPlace_of_allKeys ⟨i, inside⟩ _ place

theorem ImageParts.imageThresholds (ok : t.Ok) : imageThresholds bs = t.thresholds := by
  apply Thresholds.toList_inj
  rw [imageThresholds_toList]
  refine List.ext_getElem rfl fun i _ inside => ?_
  have range := ok.thresholds _ (List.getElem_mem inside)
  have field := (parts.thresholds.each length_be16 (List.getElem?_eq_getElem inside)).half (by omega)
  rw [List.getElem_map, List.getElem_range, field]
  unfold clampNat
  omega

theorem ImageParts.imageEventMap : imageEventMap bs = t.eventMap := by
  refine PerLink.ext_get fun l => hasKind_ext fun k => ?_
  have inside : kindIndex k < (mapBytes t.eventMap).length := kindIndex_lt k
  have field : byteAt bs (267 + kindIndex k) = mapByte t.eventMap k := by
    rw [parts.map.byte inside]
    refine Option.some.inj ?_
    rw [← List.getElem?_eq_getElem inside, mapBytes, List.getElem?_map, allKinds_get]
    rfl
  rw [hasKind_imageEventMap]
  show (byteAt bs _).getLsbD _ = _
  rw [field, mapByte_link]

end

/-! ### A filter's fields -/

/-- A filter's persisted fields within the ranges of R134. -/
theorem Stands.persisted {bs : List Byte} {i : Nat} {p : Persisted} (h : Stands bs i (persistedBytes p))
    (clean : ∀ d, p.clean = some d → 10 ≤ d ∧ d ≤ 5000) (volume : p.volume ≤ countLimit) (running : p.running ≤ countLimit)
    (age : p.age ≤ countLimit) (changes : p.changes ≤ 65535) : imagePersisted bs i = p := by
  have limit : countLimit = 9999999 := rfl
  have whole : Stands bs i (be16? p.clean ++ (be32 p.volume ++ (be32 p.running ++ (be32 p.age ++ be16 p.changes)))) := by
    simpa [persistedBytes] using h
  have v := whole.last
  have r := v.last
  have a := r.last
  have c := a.last
  simp only [length_be16?, length_be32] at v r a c
  have hv := v.first.word (by omega)
  have hr := r.first.word (by omega)
  have ha := a.first.word (by omega)
  have hc := c.half (by omega)
  have cleaned : (if halfAt bs i = 0xFFFF#16 then none else some (clampNat 10 5000 (halfAt bs i).toNat)) = p.clean := by
    cases stored : p.clean with
    | none =>
      have absent : halfAt bs i = 0xFFFF#16 := by
        have field := whole.first
        rw [stored] at field
        exact BitVec.eq_of_toNat_eq (field.half (by decide))
      rw [if_pos absent]
    | some d =>
      have range := clean d stored
      have field := whole.first
      rw [stored] at field
      have value := field.half (by omega)
      have here : halfAt bs i ≠ 0xFFFF#16 := by
        intro all
        rw [all, BitVec.toNat_ofNat] at value
        omega
      rw [if_neg here, value]
      unfold clampNat
      congr 1
      omega
  unfold imagePersisted
  rw [cleaned, hv, hr, ha, hc, Nat.min_eq_left volume, Nat.min_eq_left running, Nat.min_eq_left age]

section
variable {t : Settings} {f : PerSide Persisted}

theorem length_imageBytes : (imageBytes t f).length = 315 := by
  rw [imageBytes, List.length_append, length_imageBody]
  rfl

theorem imageBytes_good : imageGood (imageBytes t f) = true := by
  have parts := imageBytes_parts t f
  have version : byteAt (imageBytes t f) 0 = imageVersion := parts.version.byte (j := 0) (by simp)
  have crc : halfAt (imageBytes t f) 313 = crc16 (imageBody t f) :=
    BitVec.eq_of_toNat_eq (parts.crc.half (BitVec.isLt _))
  have body : (imageBytes t f).take 313 = imageBody t f := by
    rw [imageBytes, List.take_append_of_le_length (Nat.le_of_eq (length_imageBody t f).symm),
      List.take_of_length_le (Nat.le_of_eq (length_imageBody t f))]
  simp [imageGood, length_imageBytes, version, crc, body]

theorem imageBytes_settings (ok : t.Ok) : imageSettings (imageBytes t f) = t := by
  have parts := imageBytes_parts t f
  rw [imageSettings, parts.values ok, parts.imageThresholds ok, parts.imageEventMap]
  show relateAll (rangeAll t) = t
  rw [ok.rangeAll, ok.relateAll]

end

end Sys2Proof.Machine

namespace Sys2Proof

open Machine

/-- Settles O19: every field stands in the image where the load reads it, and no clamp changes a table in range and
relation. -/
theorem imageReadsBack : Obligations.ImageReadsBack := by
  intro t f ok kept
  refine ⟨length_imageBytes, ?_⟩
  have parts := imageBytes_parts t f
  obtain ⟨clean, volume, running, age, changes⟩ := kept .supply
  obtain ⟨clean', volume', running', age', changes'⟩ := kept .extract
  rw [loadedFrom_good imageBytes_good, imageBytes_settings ok,
    parts.supply.persisted clean volume running age changes,
    parts.extract.persisted clean' volume' running' age' changes']

end Sys2Proof
end

section
/-! PROOFS. The fans at a control step (R47, R49 to R58): the record the step leaves is the action of the fan's state on
its measured record, with the band and the shortfall judged after it. -/

namespace Sys2Proof.Machine

section
variable {x : FanRecord} {t : Settings} {k w : Nat} {c : Conversion}

/-! ### What the judgements after the action leave -/

theorem FanRecord.step_acts (x : FanRecord) (t : Settings) (k w : Nat) (c : Conversion) :
    (x.step t k w c).state = ((x.probed k w c).act t).state ∧ (x.step t k w c).duty = ((x.probed k w c).act t).duty ∧
      (x.step t k w c).phase = ((x.probed k w c).act t).phase ∧ (x.step t k w c).run = ((x.probed k w c).act t).run ∧
      (x.step t k w c).attempts = ((x.probed k w c).act t).attempts := by
  obtain ⟨u, v, shape⟩ := FanRecord.step_shape x t k w c
  rw [shape]
  exact ⟨rfl, rfl, rfl, rfl, rfl⟩

/-- Outside RUNNING the shortfall is not judged (R54). -/
theorem FanRecord.step_shortfall_still (h : ((x.probed k w c).act t).state ≠ .running) :
    (x.step t k w c).shortfall = ((x.probed k w c).act t).shortfall := by
  show (FanRecord.judgeShortfall (FanRecord.judgeBand _) t).shortfall = _
  rw [FanRecord.judgeShortfall, if_neg fun running => h running.1]
  rfl

theorem FanRecord.step_counts (x : FanRecord) (t : Settings) (k w : Nat) (c : Conversion) :
    (x.step t k w c).speed = min (x.pulses * 30) 9990 ∧ (x.step t k w c).pulses = 0 := by
  obtain ⟨u, v, shape⟩ := FanRecord.step_shape x t k w c
  obtain ⟨-, speed, pulses, -⟩ := FanRecord.act_keeps (x.probed k w c) t
  obtain ⟨-, counted, begun, -⟩ := FanRecord.probed_keeps x k w c
  rw [shape]
  exact ⟨speed.trans counted, pulses.trans begun⟩

/-! ### The table of R49 -/

theorem FanRecord.act_stopped (h : x.state = .stopped) :
    x.act t =
      if x.target = 0 then { x with duty := 0 } else { x with state := .starting, duty := t.nat .startDuty, phase := 5 } := by
  rw [act, h]

theorem FanRecord.act_starting (h : x.state = .starting) :
    x.act t =
      if x.target = 0 then { x with state := .stopped, duty := 0, phase := 0 }
      else if x.phase ≤ 1 then x.enterRunning t else { x with phase := x.phase - 1, duty := t.nat .startDuty } := by
  rw [act, h]

theorem FanRecord.act_running (h : x.state = .running) :
    x.act t =
      if x.target = 0 then { x.noShortfall with state := .stopped, duty := 0, run := 0 } else x.runStep t := by
  rw [act, h]

theorem FanRecord.act_stalled (h : x.state = .stalled) :
    x.act t = if x.phase ≤ 1 then x.retry t else { x with phase := x.phase - 1, duty := 0 } := by rw [act, h]

theorem FanRecord.act_retrying (h : x.state = .retrying) :
    x.act t = if x.phase ≤ 1 then x.endRetry else { x with phase := x.phase - 1, duty := t.nat .startDuty } := by
  rw [act, h]

theorem FanRecord.act_failed (h : x.state = .failed) : x.act t = { x with duty := 0 } := by rw [act, h]

/-- A fan that does not stall runs on, with its run counted and its duty set (R51, R52, R58). -/
theorem FanRecord.runStep_goesOn (h : x.lowSpeedNext t < 5) :
    x.runStep t =
      { x.countRun with
        lowSpeed := x.lowSpeedNext t
        duty := if x.probeFault then openLoopDuty t x else closedLoopDuty t x } := if_neg (by omega)

theorem FanRecord.runStep_stalls (h : 5 ≤ x.lowSpeedNext t) : x.runStep t = x.stall := if_pos h

/-- A fan enters RUNNING with no low-speed count, so it does not stall at that step (R50, R55). -/
theorem FanRecord.enterRunning_eq :
    (x.enterRunning t).state = .running ∧ (x.enterRunning t).phase = 0 ∧ (x.enterRunning t).run = 1 := by
  have few : FanRecord.lowSpeedNext { x with state := .running, phase := 0, run := 0, lowSpeed := 0 } t < 5 :=
    lowSpeedNext_lt t (.inl (Nat.zero_lt_succ 3))
  rw [enterRunning, runStep_goesOn few]
  exact ⟨rfl, rfl, rfl⟩

/-! ### The duty and the shortfall of a RUNNING fan (R51, R52, R54) -/

/-- A flow-probe fault that begins clears the shortfall (R48). -/
theorem FanRecord.probed_shortfall (x : FanRecord) (k w : Nat) (c : Conversion) :
    ((x.probed k w c).probeFault = true →
      (x.probed k w c).shortfall = (x.shortfall && x.probeFault) ∧
        (x.probed k w c).shortfallCount = if x.probeFault = true then x.shortfallCount else 0) ∧
      ((x.probed k w c).probeFault = false →
        (x.probed k w c).shortfall = x.shortfall ∧ (x.probed k w c).shortfallCount = x.shortfallCount) := by
  unfold probed judgeProbe
  split
  case h_1 healthy _ =>
    have healthy : x.probeFault = false := healthy
    simp [count, healthy]
  case h_2 healthy _ =>
    have healthy : x.probeFault = false := healthy
    split <;> simp [count, loseProbe, healthy]
  case h_3 faulted _ =>
    have faulted : x.probeFault = true := faulted
    simp [count, faulted]
  case h_4 faulted _ =>
    have faulted : x.probeFault = true := faulted
    split <;> simp [count, regainProbe, faulted]

/-- The shortfall rule on a RUNNING fan with a target and a good probe (R54). -/
theorem FanRecord.judgeShortfall_judges (running : x.state = .running) (wanted : 0 < x.target)
    (healthy : x.probeFault = false) :
    x.judgeShortfall t =
      if x.shortfall then
        if x.band = .inBand then
          if 9 ≤ x.shortfallCount then x.noShortfall else { x with shortfallCount := x.shortfallCount + 1 }
        else { x with shortfallCount := 0 }
      else if x.duty = t.nat .dutyMax ∧ x.band = .below then
        if 59 ≤ x.shortfallCount then { x with shortfall := true, shortfallCount := 0 }
        else { x with shortfallCount := x.shortfallCount + 1 }
      else { x with shortfallCount := 0 } := if_pos ⟨running, wanted, healthy⟩

/-- The record a step leaves of a fan that runs on, before its shortfall is judged. -/
def FanRecord.ranOn (x : FanRecord) (t : Settings) (k w : Nat) (c : Conversion) : FanRecord :=
  ((x.probed k w c).runStep t).judgeBand

/-- The change of a closed-loop step, for a flow short of its target by `e` (R51). -/
def closedLoopChange (t : Settings) (e : Int) : Int :=
  let moved := clampInt (-t.get .stepMax) (t.get .stepMax) ((e * t.get .loopGain).tdiv 64)
  if -t.get .deadband ≤ e ∧ e ≤ t.get .deadband then 0
  else if moved = 0 then (if 0 < e then 1 else -1)
  else moved

theorem closedLoopDuty_eq (t : Settings) (x : FanRecord) :
    closedLoopDuty t x =
      (clampInt (t.get .dutyMin) (t.get .dutyMax)
        ((x.duty : Int) + closedLoopChange t ((x.target : Int) - (x.flow : Int)))).toNat := rfl

/-- What the run step and the band leave: the duty set, and the rest as measured (R51 to R53). -/
theorem FanRecord.ranOn_eq (spins : (x.probed k w c).lowSpeedNext t < 5) :
    (x.ranOn t k w c).state = (x.probed k w c).state ∧ (x.ranOn t k w c).target = (x.probed k w c).target ∧
      (x.ranOn t k w c).flow = (x.probed k w c).flow ∧ (x.ranOn t k w c).probeFault = (x.probed k w c).probeFault ∧
      (x.ranOn t k w c).shortfall = (x.probed k w c).shortfall ∧
      (x.ranOn t k w c).shortfallCount = (x.probed k w c).shortfallCount ∧
      (x.ranOn t k w c).duty =
        if (x.probed k w c).probeFault then openLoopDuty t (x.probed k w c) else closedLoopDuty t (x.probed k w c) := by
  rw [ranOn, runStep_goesOn spins]
  exact ⟨rfl, rfl, rfl, rfl, rfl, rfl, rfl⟩

/-- The shortfall judged changes the flag and its counter alone. -/
theorem FanRecord.judgeShortfall_leaves (x : FanRecord) (t : Settings) :
    (x.judgeShortfall t).state = x.state ∧ (x.judgeShortfall t).flow = x.flow ∧ (x.judgeShortfall t).duty = x.duty ∧
      (x.judgeShortfall t).probeFault = x.probeFault ∧ (x.judgeShortfall t).band = x.band := by
  rw [judgeShortfall_keeps]
  exact ⟨rfl, rfl, rfl, rfl, rfl⟩

/-- Below the count of 4, below the least duty, or at speed, the low-speed count does not reach 5 (R55). -/
theorem FanRecord.lowSpeedNext_below (h : 200 ≤ x.speed ∨ x.duty < t.nat .dutyMin ∨ x.lowSpeed < 4) :
    x.lowSpeedNext t < 5 := by
  unfold lowSpeedNext
  split <;> omega

/-- The shortfall rule, clause by clause (R54). -/
theorem FanRecord.judgeShortfall_clauses (running : x.state = .running) (wanted : 0 < x.target)
    (healthy : x.probeFault = false) :
    (x.shortfall = false →
      (x.duty = t.nat .dutyMax ∧ x.band = .below →
        (x.shortfallCount < 59 →
          (x.judgeShortfall t).shortfall = false ∧ (x.judgeShortfall t).shortfallCount = x.shortfallCount + 1) ∧
        (59 ≤ x.shortfallCount →
          (x.judgeShortfall t).shortfall = true ∧ (x.judgeShortfall t).shortfallCount = 0)) ∧
      (¬(x.duty = t.nat .dutyMax ∧ x.band = .below) →
        (x.judgeShortfall t).shortfall = false ∧ (x.judgeShortfall t).shortfallCount = 0)) ∧
    (x.shortfall = true →
      (x.band = .inBand → x.shortfallCount < 9 →
        (x.judgeShortfall t).shortfall = true ∧ (x.judgeShortfall t).shortfallCount = x.shortfallCount + 1) ∧
      (x.band = .inBand → 9 ≤ x.shortfallCount →
        (x.judgeShortfall t).shortfall = false ∧ (x.judgeShortfall t).shortfallCount = 0) ∧
      (x.band ≠ .inBand →
        (x.judgeShortfall t).shortfall = true ∧ (x.judgeShortfall t).shortfallCount = 0)) := by
  rw [judgeShortfall_judges running wanted healthy]
  constructor
  · intro clear
    rw [if_neg (by simp [clear])]
    refine ⟨fun full => ⟨fun few => ?_, fun due => ?_⟩, fun other => ?_⟩
    · rw [if_pos full, if_neg (by omega)]; exact ⟨clear, rfl⟩
    · rw [if_pos full, if_pos due]; exact ⟨rfl, rfl⟩
    · rw [if_neg other]; exact ⟨clear, rfl⟩
  · intro set
    rw [if_pos set]
    refine ⟨fun inBand few => ?_, fun inBand due => ?_, fun other => ?_⟩
    · rw [if_pos inBand, if_neg (by omega)]; exact ⟨set, rfl⟩
    · rw [if_pos inBand, if_pos due]; exact ⟨rfl, rfl⟩
    · rw [if_neg other]; exact ⟨set, rfl⟩

/-- Away from RUNNING with a target and a good probe the rule leaves the record (R54). -/
theorem FanRecord.judgeShortfall_faulted (faulted : x.probeFault = true) : x.judgeShortfall t = x :=
  if_neg fun judged => by simp [faulted] at judged

theorem FanRecord.step_ranOn (running : x.state = .running) (wanted : 0 < w) :
    x.step t k w c = (x.ranOn t k w c).judgeShortfall t := by
  obtain ⟨aim, -, -, -, was, -⟩ := FanRecord.probed_keeps x k w c
  show (((x.probed k w c).act t).judgeBand).judgeShortfall t = _
  rw [act_running (was.trans running), if_neg (by omega)]
  rfl

end

end Sys2Proof.Machine

namespace Sys2Proof

open Machine

/-- Settles O23: each fan's record is its own step on the target of the operating point as it stood. -/
theorem controlStepTakesTargetsAndSpeeds : Obligations.ControlStepTakesTargetsAndSpeeds := by
  intro s inp
  refine ⟨_, rfl, ?supply, ?extract, fun f => ?speed, ?frame⟩
  case supply => rw [controlStep_fans]; exact (FanRecord.step_measures ..).2.2.2
  case extract => rw [controlStep_fans]; exact (FanRecord.step_measures ..).2.2.2
  case speed => rw [controlStep_fans]; exact FanRecord.step_counts ..
  case frame => apply State.eq_of_fields <;> simp

/-- Settles O26: a row for each state of the fan, read off the action of that state. -/
theorem controlStepFollowsTheFanTable : Obligations.ControlStepFollowsTheFanTable := by
  rintro s inp f x w hx hw
  have target : s.op.target f = w := by rw [hw]; cases f <;> rfl
  refine ⟨_, rfl, ?_⟩
  rintro y rfl
  rw [controlStep_fans, hx, target]
  generalize s.settings.nat (ringKey f) = k
  generalize flowInput inp f = c
  generalize s.settings = t
  obtain ⟨state, duty, phase, run, attempts⟩ := FanRecord.step_acts x t k w c
  have shortfall := @FanRecord.step_shortfall_still x t k w c
  obtain ⟨aim, speed, -, -, was, stood, drove, slow, -, tried⟩ := FanRecord.probed_keeps x k w c
  rw [state, duty, phase, run, attempts]
  generalize x.step t k w c = y at shortfall
  generalize x.probed k w c = p at *
  rw [← was, ← stood, ← drove, ← slow, ← tried]
  have fast : 200 ≤ p.speed ↔ 200 ≤ x.pulses * 30 := by omega
  refine ⟨?stopped, ?starts, ?startStops, ?startGoesOn, ?startEnds, ?runStops, ?stalls, ?stallGoesOn, ?stallEnds,
    ?retryGoesOn, ?retrySucceeds, ?retryFails, ?retryEnds, ?failed⟩
  case stopped =>
    rintro here rfl
    rw [FanRecord.act_stopped here, if_pos aim]
    exact ⟨here, rfl⟩
  case starts =>
    intro here wanted
    rw [FanRecord.act_stopped here, if_neg (by omega)]
    exact ⟨rfl, rfl, rfl⟩
  case startStops =>
    rintro here rfl
    rw [FanRecord.act_starting here, if_pos aim]
    exact ⟨rfl, rfl, rfl⟩
  case startGoesOn =>
    intro here wanted left
    rw [FanRecord.act_starting here, if_neg (by omega), if_neg (by omega)]
    exact ⟨here, rfl, rfl⟩
  case startEnds =>
    intro here wanted last
    rw [FanRecord.act_starting here, if_neg (by omega), if_pos (by omega)]
    exact FanRecord.enterRunning_eq
  case runStops =>
    rintro here rfl
    rw [FanRecord.act_running here, if_pos aim] at shortfall ⊢
    exact ⟨rfl, rfl, rfl, shortfall FanState.noConfusion⟩
  case stalls =>
    intro here wanted still driven fifth
    have low : p.lowSpeedNext t = 5 := by rw [FanRecord.lowSpeedNext, if_pos ⟨by omega, driven⟩, fifth]
    rw [FanRecord.act_running here, if_neg (by omega), FanRecord.runStep_stalls (Nat.le_of_eq low.symm)] at shortfall ⊢
    exact ⟨rfl, rfl, rfl, rfl, shortfall FanState.noConfusion⟩
  case stallGoesOn =>
    intro here left
    rw [FanRecord.act_stalled here, if_neg (by omega)]
    exact ⟨here, rfl, rfl⟩
  case stallEnds =>
    intro here last
    rw [FanRecord.act_stalled here, if_pos (by omega)]
    exact ⟨rfl, rfl, rfl⟩
  case retryGoesOn =>
    intro here left
    rw [FanRecord.act_retrying here, if_neg (by omega)]
    exact ⟨here, rfl, rfl⟩
  case retrySucceeds =>
    intro here last spins
    rw [FanRecord.act_retrying here, if_pos (by omega), FanRecord.endRetry, if_pos (fast.mpr spins)]
    exact ⟨rfl, rfl, rfl, rfl⟩
  case retryFails =>
    intro here last still few
    rw [FanRecord.act_retrying here, if_pos (by omega), FanRecord.endRetry, if_neg (by omega), if_pos few]
    exact ⟨rfl, rfl, rfl, rfl⟩
  case retryEnds =>
    intro here last still third
    rw [FanRecord.act_retrying here, if_pos (by omega), FanRecord.endRetry, if_neg (by omega), if_neg (by omega)]
    exact ⟨rfl, rfl, rfl, third⟩
  case failed =>
    intro here
    rw [FanRecord.act_failed here]
    exact ⟨here, rfl⟩

/-- Settles O25: a fan that does not stall runs on; its duty is the closed-loop or the open-loop one on the flow just
measured, and its shortfall is judged on that duty and the band. -/
theorem runningFanSetsItsDuty : Obligations.RunningFanSetsItsDuty := by
  rintro s inp f x w hx hw running wanted spins
  have target : s.op.target f = w := by rw [hw]; cases f <;> rfl
  refine ⟨_, rfl, ?_⟩
  rw [controlStep_fans, hx, target]
  generalize s.settings.nat (ringKey f) = k
  generalize flowInput inp f = c
  generalize s.settings = t at *
  obtain ⟨aim, speed, -, -, was, -, drove, slow, -⟩ := FanRecord.probed_keeps x k w c
  obtain ⟨lost, kept⟩ := FanRecord.probed_shortfall x k w c
  have low : (x.probed k w c).lowSpeedNext t < 5 :=
    FanRecord.lowSpeedNext_below (by rw [speed, drove, slow]; omega)
  obtain ⟨state, aimed, flow, fault, short, count, duty⟩ := FanRecord.ranOn_eq (x := x) low
  rw [FanRecord.step_ranOn running wanted]
  generalize x.ranOn t k w c = z at *
  generalize x.probed k w c = p at *
  obtain ⟨state', flow', duty', fault', band'⟩ := FanRecord.judgeShortfall_leaves z t
  rw [state', flow', duty', fault', state, flow, duty, fault]
  refine ⟨was.trans running, ?openLoop, ?closedLoop, ?shortfall⟩
  case openLoop =>
    intro faulted
    rw [if_pos faulted, openLoopDuty, aim]
    rfl
  case closedLoop =>
    intro healthy
    refine ⟨closedLoopChange t ((w : Int) - p.flow), ?_, fun inside => if_pos inside, fun outside moved hmoved => ?_⟩
    · rw [if_neg (by simp [healthy]), closedLoopDuty_eq, aim, drove]
      rfl
    · subst hmoved
      exact if_neg outside
  case shortfall =>
    rintro y rfl
    rw [fault', duty', band', fault]
    have running' : z.state = .running := state.trans (was.trans running)
    refine ⟨fun faulted => ?_, fun healthy clear => ?_, fun healthy set => ?_⟩
    · rw [FanRecord.judgeShortfall_faulted (fault.trans faulted), short, count]
      exact lost faulted
    · obtain ⟨short', count'⟩ := kept healthy
      have clauses := (FanRecord.judgeShortfall_clauses (t := t) running' (by omega) (fault.trans healthy)).1
        (short.trans (short'.trans clear))
      rw [← count', ← count]
      exact clauses
    · obtain ⟨short', count'⟩ := kept healthy
      have clauses := (FanRecord.judgeShortfall_clauses (t := t) running' (by omega) (fault.trans healthy)).2
        (short.trans (short'.trans set))
      rw [← count', ← count]
      exact clauses

end Sys2Proof
end

section
/-! PROOFS. The probes, the bypass truths and the preheater at a control step (R64 to R66, R83, R86, R136): the resolver
hears of the truths before the preheater is judged, and nothing after it changes what the resolver reads. -/

namespace Sys2Proof.Machine

/-! ### What the resolver reads (R27 to R37) -/

theorem resolveFlows_shape {t : Settings} {es : List Entry} {capped procedure supply extract wasOpen : Bool}
    {g h : FrostRecord} (shape : ∀ w, frostShape g w = frostShape h w) :
    resolveFlows t es capped procedure g supply extract wasOpen =
      resolveFlows t es capped procedure h supply extract wasOpen := by
  simp only [resolveFlows, shape]

/-- Of the frost record a recompute reads the stage, r and the BLIND phase; of the filters their states. -/
theorem Resolved.inputs {s t : State} (h : Resolved s) (op : t.op = s.op) (store : t.store = s.store)
    (table : t.table = s.table) (runner : t.runner = s.runner) (fans : t.fans = s.fans)
    (probes : t.frost.probes = s.frost.probes) (stage : t.frost.record.stage = s.frost.record.stage)
    (ratio : t.frost.record.r = s.frost.record.r) (phase : t.frost.record.blindPhase = s.frost.record.blindPhase)
    (filters : ∀ f, (t.filters.records.get f).state = (s.filters.records.get f).state) : Resolved t := by
  obtain ⟨wasOpen, up⟩ := h
  refine ⟨wasOpen, op.trans (up.trans ?_)⟩
  simp only [resolve, State.settings, store, table, runner, fans, probes, stage, filters]
  exact resolveFlows_shape fun w => by simp only [frostShape, stage, ratio, phase]

/-! ### The airstream probes (R64, R65) -/

section
variable {p : ProbeRecord} {v held : Int}

theorem goodRead_iff : goodRead v = true ↔ -400 ≤ v ∧ v ≤ 850 := by simp [goodRead]

theorem goodRead_bad (h : ¬(-400 ≤ v ∧ v ≤ 850)) : goodRead v = false := by
  rw [Bool.eq_false_iff, ne_eq, goodRead_iff]
  exact h

/-- A good read of a probe that is not faulted sets its value (R65). -/
theorem ProbeRecord.read_good (good : -400 ≤ v ∧ v ≤ 850) (sound : ∀ held, p.status ≠ .faulted held) :
    p.read v = { status := .good v, reads := 0 } := by
  rw [read, goodRead_iff.mpr good]
  cases status : p.status with
  | noValue | good => rfl
  | faulted held => exact absurd status (sound held)

/-- The first two bad reads in a row of a probe that is not faulted are counted (R65). -/
theorem ProbeRecord.read_counts_bad (bad : ¬(-400 ≤ v ∧ v ≤ 850)) (sound : ∀ held, p.status ≠ .faulted held)
    (few : p.reads < 2) : p.read v = { p with reads := p.reads + 1 } := by
  rw [read, goodRead_bad bad]
  cases status : p.status with
  | noValue => exact if_pos few
  | good => exact if_pos few
  | faulted held => exact absurd status (sound held)

theorem ProbeRecord.read_faults_empty (bad : ¬(-400 ≤ v ∧ v ≤ 850)) (empty : p.status = .noValue) (third : p.reads = 2) :
    p.read v = { status := .faulted none, reads := 0 } := by
  rw [read, goodRead_bad bad, empty]
  exact if_neg (by omega)

/-- The third bad read in a row makes the fault, with the value held (R65). -/
theorem ProbeRecord.read_faults (bad : ¬(-400 ≤ v ∧ v ≤ 850)) (good : p.status = .good held) (third : p.reads = 2) :
    p.read v = { status := .faulted (some held), reads := 0 } := by
  rw [read, goodRead_bad bad, good]
  exact if_neg (by omega)

theorem ProbeRecord.read_faulted_bad {held : Option Int} (bad : ¬(-400 ≤ v ∧ v ≤ 850))
    (faulted : p.status = .faulted held) : p.read v = { p with reads := 0 } := by
  rw [read, goodRead_bad bad, faulted]

theorem ProbeRecord.read_faulted_counts {held : Option Int} (good : -400 ≤ v ∧ v ≤ 850)
    (faulted : p.status = .faulted held) (few : p.reads < 2) : p.read v = { p with reads := p.reads + 1 } := by
  rw [read, goodRead_iff.mpr good, faulted]
  exact if_pos few

/-- The third good read in a row ends the fault (R65). -/
theorem ProbeRecord.read_recovers {held : Option Int} (good : -400 ≤ v ∧ v ≤ 850) (faulted : p.status = .faulted held)
    (third : p.reads = 2) : p.read v = { status := .good v, reads := 0 } := by
  rw [read, goodRead_iff.mpr good, faulted]
  exact if_neg (by omega)

end

/-! ### The filter probes (R136) -/

section
variable {x : FilterRecord} {c : Conversion} {dp : Nat}

theorem FilterRecord.judgeProbe_good (sound : x.probeFault = false) (good : goodReading c = some dp) :
    x.judgeProbe c = { x with probeCount := 0, lastGood := some dp } := by rw [judgeProbe, sound, good]

theorem FilterRecord.judgeProbe_bad (sound : x.probeFault = false) (bad : goodReading c = none) :
    x.judgeProbe c = if x.probeCount < 2 then { x with probeCount := x.probeCount + 1 } else x.loseProbe := by
  rw [judgeProbe, bad, sound]

theorem FilterRecord.judgeProbe_faulted_bad (faulted : x.probeFault = true) (bad : goodReading c = none) :
    x.judgeProbe c = { x with probeCount := 0 } := by rw [judgeProbe, bad, faulted]

theorem FilterRecord.judgeProbe_faulted_good (faulted : x.probeFault = true) (good : goodReading c = some dp) :
    x.judgeProbe c = if x.probeCount < 2 then { x with probeCount := x.probeCount + 1 } else x.regainProbe dp := by
  rw [judgeProbe, good, faulted]

/-- A reading leaves the filter's state (R136). -/
theorem FilterRecord.judgeProbe_state (x : FilterRecord) (c : Conversion) : (x.judgeProbe c).state = x.state := by
  unfold judgeProbe
  split
  next => rfl
  next => split <;> rfl
  next => rfl
  next => split <;> rfl

end

/-! ### The bypass truths (R66) -/

section
variable {s : State} {inp : ControlInputs}

/-- The state on which a control step judges the truths: the fans have taken their step, and the probes are read. -/
def truthsDue (s : State) (inp : ControlInputs) : State :=
  readAirProbe (readAirProbe (readAirProbe (readAirProbe (fansStep s inp.supplyFlow inp.extractFlow)
    .oda inp.oda) .sup inp.sup) .eta inp.eta) .eha inp.eha

theorem probesRead_eq (s : State) (inp : ControlInputs) : probesRead s inp = judgeTruths (truthsDue s inp) := rfl

theorem controlStep_eq (s : State) (inp : ControlInputs) :
    controlStep s inp =
      filtersControl (overheat (interlock (probesRead s inp))) inp.supplyFilter inp.extractFilter := rfl

theorem judgeTruths_truths (u : State) : (judgeTruths u).frost.truths = bypassTruths u.settings u.frost.probes := by
  unfold judgeTruths
  dsimp only
  split <;> rfl

theorem judgeTruths_still {u : State} (same : bypassTruths u.settings u.frost.probes = u.frost.truths) :
    (judgeTruths u).op = u.op ∧ (judgeTruths u).damper = u.damper := by
  unfold judgeTruths
  dsimp only
  rw [if_pos same]
  exact ⟨rfl, rfl⟩

theorem judgeTruths_resolved {u : State} (loaded : u.isLoading = false)
    (differ : bypassTruths u.settings u.frost.probes ≠ u.frost.truths) : Resolved (judgeTruths u) := by
  unfold judgeTruths
  dsimp only
  rw [if_neg differ]
  exact .notice _ loaded

theorem overheat_truths (u : State) : (overheat u).frost.truths = u.frost.truths := by
  unfold overheat
  split <;> rfl

theorem controlStep_read (s : State) (inp : ControlInputs) :
    (controlStep s inp).frost.probes = (probesRead s inp).frost.probes ∧
      (controlStep s inp).fans = (probesRead s inp).fans ∧ (controlStep s inp).op = (probesRead s inp).op ∧
      (controlStep s inp).damper = (probesRead s inp).damper ∧
      (controlStep s inp).frost.truths = (probesRead s inp).frost.truths := by
  refine ⟨?_, ?_, ?_, ?_, ?_⟩
  · rw [controlStep_frost, overheat_probes, interlock_probes]
  · simp [controlStep_eq]
  · simp [controlStep_eq]
  · simp [controlStep_eq]
  · rw [controlStep_frost, overheat_truths]
    rfl

theorem truthsDue_settings (s : State) (inp : ControlInputs) : (truthsDue s inp).settings = s.settings :=
  settings_congr (by simp [truthsDue])

theorem readAirProbe_truths (u : State) (n : AirProbe) (v : Int) : (readAirProbe u n v).frost.truths = u.frost.truths := by
  rw [readAirProbe, handAirProbe_frost]

theorem truthsDue_truths (s : State) (inp : ControlInputs) : (truthsDue s inp).frost.truths = s.frost.truths := by
  simp [truthsDue, readAirProbe_truths]

/-- The truths a control step leaves are those of the probes it leaves (R66). -/
theorem controlStep_truths (s : State) (inp : ControlInputs) :
    (controlStep s inp).frost.truths = bypassTruths s.settings (controlStep s inp).frost.probes := by
  obtain ⟨probes, -, -, -, truths⟩ := controlStep_read s inp
  rw [probes, truths, probesRead_eq, judgeTruths_truths, judgeTruths_probes, truthsDue_settings]

/-- What follows the truths leaves what the resolver reads. -/
theorem controlStep_resolved (h : Resolved (probesRead s inp)) : Resolved (controlStep s inp) := by
  obtain ⟨probes, fans, op, damper, -⟩ := controlStep_read s inp
  obtain ⟨duty, fault, -, record⟩ := preheaterTests_record (probesRead s inp)
  rw [← controlStep_frost] at record
  have filters (f : Side) : ((probesRead s inp).filters.records.get f) = s.filters.records.get f := by
    simp [probesRead]
  refine h.inputs op ?_ ?_ ?_ fans probes (by rw [record]) (by rw [record]) (by rw [record]) fun f => ?_
  · simp [controlStep_eq]
  · simp [controlStep_eq]
  · simp [controlStep_eq]
  · rw [controlStep_filters, FilterRecord.judgeProbe_state, filters]

/-- Fans that keep their states notify no one. -/
theorem handFan_quiet {f : Side} {x : FanRecord} (same : (s.fans.get f).state = x.state) :
    (handFan s f x).op = s.op ∧ (handFan s f x).damper = s.damper := by
  rw [handFan_still s f x same]
  split <;> exact ⟨rfl, rfl⟩

theorem fansStep_quiet {a b : Conversion}
    (same : ∀ f, ((fansStep s a b).fans.get f).state = (s.fans.get f).state) :
    (fansStep s a b).op = s.op ∧ (fansStep s a b).damper = s.damper := by
  have supply := same .supply
  have extract := same .extract
  simp only [fansStep, fanStep, handFan_fans, PerSide.get_set, reduceCtorEq, ↓reduceIte] at supply extract
  obtain ⟨op, damper⟩ := handFan_quiet (s := s) (f := .supply) supply.symm
  obtain ⟨op', damper'⟩ := handFan_quiet (s := fanStep s .supply s.op.s a) (f := .extract)
    (x := ((fanStep s .supply s.op.s a).fans.get .extract).step (fanStep s .supply s.op.s a).settings
      ((fanStep s .supply s.op.s a).settings.nat (ringKey .extract)) s.op.e b)
    (by simpa [fanStep] using extract.symm)
  exact ⟨op'.trans op, damper'.trans damper⟩

/-! ### The preheater (R83, R86) -/

theorem ProbeRecord.healthy?_isSome (p : ProbeRecord) : p.healthy?.isSome = true ↔ ∃ v, p.status = .good v := by
  unfold healthy?
  split
  next v status => simp [status]
  next other => exact iff_of_false (by simp) fun ⟨v, status⟩ => other v status

/-- The conditions under which the preheater may run (R75, R83). -/
theorem mayRun_iff {g : FrostRecord} : mayRun s g = true ↔
    s.settings.get .preheaterFitted = 1 ∧ g.fault = false ∧ (g.stage = .preheat ∨ g.stage = .unbalance) ∧
      (s.fans.get .supply).state = .running ∧ s.settings.nat .preheatMinFlow ≤ (s.fans.get .supply).flow ∧
      ∃ v, (s.frost.probes.get .sup).status = .good v := by
  simp only [mayRun, preheaterMayRun, preheaterUsable, Bool.and_eq_true, Bool.or_eq_true, beq_iff_eq, decide_eq_true_iff,
    Bool.not_eq_true', ProbeRecord.healthy?_isSome, and_assoc]

/-- The preheater latches its fault (R86): it may run, its duty is above 0, and T_sup is above +400. -/
theorem overheated_iff (u : State) : overheated (interlock u) = true ↔
    mayRun u u.frost.record = true ∧ 0 < u.frost.record.duty ∧
      ∃ v, (u.frost.probes.get .sup).status = .good v ∧ 400 < v := by
  have hot : (((u.frost.probes.get .sup).healthy?.any fun v => decide (400 < v)) = true) ↔
      ∃ v, (u.frost.probes.get .sup).status = .good v ∧ 400 < v := by
    unfold ProbeRecord.healthy?
    split
    next v status => simp [status]
    next other => exact iff_of_false (by simp) fun ⟨v, status, _⟩ => other v status
  have driven : 0 < (interlock u).frost.record.duty ↔ mayRun u u.frost.record = true ∧ 0 < u.frost.record.duty := by
    show 0 < (if mayRun u u.frost.record = true then u.frost.record.duty else 0) ↔ _
    split
    next may => simp [may]
    next may => simp [may]
  rw [overheated, Bool.and_eq_true, decide_eq_true_iff, driven, and_assoc]
  exact and_congr_right fun _ => and_congr_right fun _ => hot

/-- A preheater that overheats stands still, with its fault latched (R86). -/
theorem controlStep_overheats (hot : overheated (interlock (probesRead s inp)) = true) :
    (controlStep s inp).frost.record = { s.frost.record with duty := 0, fault := true } ∧
      (controlStep s inp).frost.heaterOn = false := by
  rw [controlStep_frost, overheat, if_pos hot]
  show ({ (probesRead s inp).frost.record with duty := 0, fault := true } : FrostRecord) = _ ∧ _
  rw [probesRead_record]
  exact ⟨rfl, rfl⟩

theorem controlStep_interlocked (cool : ¬overheated (interlock (probesRead s inp)) = true) :
    (controlStep s inp).frost.record =
      { s.frost.record with
        duty := if mayRun (probesRead s inp) s.frost.record = true then s.frost.record.duty else 0 } := by
  rw [controlStep_frost, overheat, if_neg cool]
  show ({ (probesRead s inp).frost.record with duty := _ } : FrostRecord) = _
  rw [probesRead_record]

theorem probesRead_settings (s : State) (inp : ControlInputs) : (probesRead s inp).settings = s.settings :=
  settings_congr (by simp [probesRead])

/-- PREHEATER_FAULT reaches the links the map gives it to (R86, R162). -/
theorem controlStep_overheat_raises (hot : overheated (interlock (probesRead s inp)) = true) (l : Link)
    (mapped : hasKind (s.settings.eventMap.get l) .preheaterFault = true) :
    hasKind ((controlStep s inp).links.get l).pending .preheaterFault = true := by
  have raised : hasKind ((overheat (interlock (probesRead s inp))).links.get l).pending .preheaterFault = true := by
    rw [overheat, if_pos hot, (Delivered.raise _ .preheaterFault rfl l).2 _ EventKind.noConfusion]
    have same : (interlock (probesRead s inp)).settings = s.settings := probesRead_settings s inp
    simp only [byMap, State.settings] at *
    rw [same, mapped]
    simp
  have kept (u : State) (f : Side) (c : Conversion) (h : hasKind (u.links.get l).pending .preheaterFault = true) :
      hasKind ((readFilterProbe u f c).links.get l).pending .preheaterFault = true := by
    rw [readFilterProbe, ((Told.handFilterProbe u f _).2.1 l).2 _ EventKind.noConfusion, h]
    rfl
  rw [controlStep_eq, filtersControl]
  exact kept _ _ _ (kept _ _ _ raised)

end

end Sys2Proof.Machine

namespace Sys2Proof

open Machine

/-- Settles O27: each probe is read by its own table, the truths are judged on the values it leaves, and what follows
them leaves the inputs of the resolver. -/
theorem controlStepReadsTheProbes : Obligations.ControlStepReadsTheProbes := by
  refine ⟨?air, ?filters, ?truths⟩
  case air =>
    rintro s inp n p v hp hv
    have conversion : airInput inp n = v := by rw [hv]; cases n <;> rfl
    refine ⟨_, rfl, ?_⟩
    rintro q rfl
    rw [controlStep_probes, hp, conversion]
    exact ⟨ProbeRecord.read_good, ProbeRecord.read_counts_bad, ProbeRecord.read_faults_empty,
      fun _ => ProbeRecord.read_faults, fun _ => ProbeRecord.read_faulted_bad, fun _ => ProbeRecord.read_faulted_counts,
      fun _ => ProbeRecord.read_recovers⟩
  case filters =>
    rintro s inp f x p hx hp
    have conversion : filterInput inp f = p := by rw [hp]; cases f <;> rfl
    refine ⟨_, rfl, ?_⟩
    rintro y rfl
    rw [controlStep_filters, hx, conversion]
    refine ⟨?good, ?counts, ?faults, ?faultedBad, ?faultedCounts, ?recovers⟩
    case good => rintro dp rfl fits sound; exact FilterRecord.judgeProbe_good sound (goodReading_reading fits)
    case counts => rintro rfl sound few; rw [FilterRecord.judgeProbe_bad sound rfl, if_pos few]
    case faults =>
      rintro rfl sound third
      rw [FilterRecord.judgeProbe_bad sound rfl, if_neg (by omega)]
      rfl
    case faultedBad => rintro rfl faulted; exact FilterRecord.judgeProbe_faulted_bad faulted rfl
    case faultedCounts =>
      rintro dp rfl fits faulted few
      rw [FilterRecord.judgeProbe_faulted_good faulted (goodReading_reading fits), if_pos few]
    case recovers =>
      rintro dp rfl fits faulted third
      rw [FilterRecord.judgeProbe_faulted_good faulted (goodReading_reading fits), if_neg (by omega)]
      rfl
  case truths =>
    intro s inp
    refine ⟨_, rfl, ?judged, fun differ loaded => ?resolved, fun same still => ?quiet⟩
    case judged =>
      intro value healthy hvalue hhealthy
      have truths := controlStep_truths s inp
      generalize controlStep s inp = t at *
      have values (n : AirProbe) : value n = (t.frost.probes.get n).value? := by
        rw [hvalue]
        unfold ProbeRecord.value?
        cases (t.frost.probes.get n).status <;> rfl
      have sound (n : AirProbe) : healthy n = (t.frost.probes.get n).healthy?.isSome := by
        rw [Bool.eq_iff_iff, hhealthy, ProbeRecord.healthy?_isSome]
      rw [truths]
      refine ⟨(sound _).symm, (sound _).symm, ?_, ?_, ?_⟩
      · simp [bypassTruths, values, Option.any_eq_true]
      · simp [bypassTruths, values, Option.any_eq_true]
      · unfold bypassTruths
        dsimp only
        rw [values, values]
        split
        next o h oda eta => simp only [oda, eta, decide_eq_true_iff, Option.some.injEq, exists_eq_left', exists_and_left]
        next other => exact iff_of_false Bool.false_ne_true fun ⟨o, h, oda, eta, _⟩ => other o h oda eta
    case resolved =>
      refine controlStep_resolved (judgeTruths_resolved (u := truthsDue s inp) ?_ fun same => differ ?_)
      · exact (isLoading_congr (by simp [truthsDue])).trans loaded
      · rw [truthsDue_truths, truthsDue_settings] at same
        obtain ⟨probes, -⟩ := controlStep_read s inp
        rw [controlStep_truths, probes, probesRead_eq, judgeTruths_probes, same]
    case quiet =>
      obtain ⟨probes, fans, op, damper, -⟩ := controlStep_read s inp
      have judged : bypassTruths (truthsDue s inp).settings (truthsDue s inp).frost.probes = (truthsDue s inp).frost.truths := by
        rw [controlStep_truths, probes, probesRead_eq, judgeTruths_probes] at same
        rw [truthsDue_truths, truthsDue_settings, same]
      obtain ⟨op', damper'⟩ := judgeTruths_still judged
      obtain ⟨op'', damper''⟩ := fansStep_quiet (s := s) (a := inp.supplyFlow) (b := inp.extractFlow)
        fun f => by rw [fansStep_fans, ← controlStep_fans]; exact still f
      rw [op, damper, probesRead_eq, op', damper']
      exact ⟨by simpa [truthsDue] using op'', by simpa [truthsDue] using damper''⟩

/-- Settles O28: the interlock takes the duty where the preheater may not run, and the overheat test where T_sup is above
+400; the test alone latches the fault. -/
theorem controlStepStopsThePreheater : Obligations.ControlStepStopsThePreheater := by
  intro s inp
  obtain ⟨probes, fans, -⟩ := controlStep_read s inp
  have may := @mayRun_iff (probesRead s inp) s.frost.record
  have hot := overheated_iff (probesRead s inp)
  rw [probesRead_record] at hot
  rw [probesRead_settings, ← probes, ← fans] at may
  rw [← probes] at hot
  refine ⟨_, rfl, ?_⟩
  by_cases overheats : overheated (interlock (probesRead s inp)) = true
  · obtain ⟨record, heater⟩ := controlStep_overheats overheats
    have raised := controlStep_overheat_raises overheats
    obtain ⟨mays, driven, v, good, high⟩ := hot.mp overheats
    rw [record]
    refine ⟨rfl, fun h => absurd h (Nat.lt_irrefl 0), .inl rfl, fun _ => rfl, ?_, fun _ _ => ⟨driven, ⟨v, good, high⟩, raised⟩⟩
    intro v' _ _ _ _ _ good' _
    obtain rfl : v = v' := by rw [good] at good'; cases good'; rfl
    exact ⟨fun low => by omega, fun _ => ⟨rfl, rfl, heater, raised⟩⟩
  · have record := controlStep_interlocked overheats
    rw [record]
    refine ⟨rfl, fun driven => ?runs, ?duty, id, ?kept, fun latched sound => ?never⟩
    case runs =>
      have mays : mayRun (probesRead s inp) s.frost.record = true := by
        refine Classical.byContradiction fun stopped => ?_
        rw [if_neg stopped] at driven
        exact Nat.lt_irrefl 0 driven
      rw [if_pos mays] at driven
      obtain ⟨fitted, sound, stage, running, flow, v, good⟩ := may.mp mays
      refine ⟨fitted, sound, stage, running, flow, v, good, ?_⟩
      refine Classical.byContradiction fun high => ?_
      exact overheats (hot.mpr ⟨mays, driven, v, good, by omega⟩)
    case duty =>
      dsimp only
      split
      next => exact .inr rfl
      next => exact .inl rfl
    case kept =>
      intro v fitted sound stage running flow good driven
      have mays := may.mpr ⟨fitted, sound, stage, running, flow, v, good⟩
      rw [if_pos mays]
      exact ⟨fun _ => ⟨sound, rfl⟩, fun high => absurd (hot.mpr ⟨mays, driven, v, good, high⟩) overheats⟩
    case never =>
      have latched : s.frost.record.fault = true := latched
      rw [sound] at latched
      cases latched

end Sys2Proof
end

section
/-! PROOFS. The rows of the fan block and of the probes (R47 to R60, R65, R136): each hands back a record, and what that
tells depends on the states before and after alone. -/

namespace Sys2Proof.Machine

section
variable {s : State} {f : Side} {x y : FanRecord}

/-- A change of a fan's state with its probe's fault kept tells what R60 and R151 say of the two states. -/
theorem handFan_moves (hx : s.fans.get f = x) (probe : x.probeFault = y.probeFault) (differ : x.state ≠ y.state) :
    Logged s (handFan s f y)
        ((if fanLogged x.state y.state then [.fan f y.state] else []) ++
          if y.state.faulted then endBodies s.runner.procedure .abortedFan else []) ∧
      Delivered s (handFan s f y) fun l k =>
        byMap s (if fanRaises x.state y.state then [.fanFault] else []) l k ||
          (y.state.faulted && endGiven s .abortedFan l k) := by
  obtain ⟨logged, delivered, -⟩ := Told.handFan s f y x hx
  rw [if_pos probe, if_neg differ, List.nil_append] at logged
  refine ⟨logged, delivered.mono fun l k _ => ?_⟩
  simp [probe, differ, byMap]

/-- A change that R60 neither logs nor raises, into a state in which the fan is not faulted, notifies the resolver
alone. -/
theorem handFan_silent (hx : s.fans.get f = x) (probe : x.probeFault = y.probeFault) (differ : x.state ≠ y.state)
    (unlogged : fanLogged x.state y.state = false) (unraised : fanRaises x.state y.state = false)
    (sound : y.state.faulted = false) : handFan s f y = notice { s with fans := s.fans.set f y } := by
  subst hx
  unfold handFan fanChanged tellFan
  dsimp only
  rw [if_pos probe, if_neg differ, unlogged, unraised, sound]
  rfl

/-- A record with its state and its probe's fault kept changes nothing else. -/
theorem handFan_plain (hx : s.fans.get f = x) (state : x.state = y.state) (probe : x.probeFault = y.probeFault) :
    handFan s f y = { s with fans := s.fans.set f y } := by
  subst hx
  rw [handFan_still s f y state, if_pos probe]

/-- A change that ends in a faulted state writes the FAN record and ends a running procedure (R60, R151). -/
theorem handFan_faults (hx : s.fans.get f = x) (probe : x.probeFault = y.probeFault) (differ : x.state ≠ y.state)
    (logged : fanLogged x.state y.state = true) (faulted : y.state.faulted = true) :
    (handFan s f y).runner = endedRunner s .abortedFan ⟨none, none⟩ ∧
      Wrote s (handFan s f y) (.fan f y.state :: endBodies s.runner.procedure .abortedFan) ∧
      Delivered s (handFan s f y) fun l k =>
        byMap s (if fanRaises x.state y.state then [.fanFault] else []) l k || endGiven s .abortedFan l k := by
  obtain ⟨wrote, delivered⟩ := handFan_moves hx probe differ
  rw [logged, faulted] at wrote
  have few := endBodies_length s.runner.procedure .abortedFan
  refine ⟨?_, wrote.wrote (by simp; omega), delivered.mono fun l k _ => by rw [faulted]; rfl⟩
  rw [handFan_runner, if_pos ⟨hx ▸ differ, faulted⟩]

/-- A change of the probe's fault with the state kept writes its PROBE record and raises PROBE_FAULT (R48). -/
theorem handFan_reports (hx : s.fans.get f = x) (state : x.state = y.state) (probe : x.probeFault ≠ y.probeFault) :
    Wrote s (handFan s f y) [.probe (.flow f) x.probeFault] ∧ Delivered s (handFan s f y) (byMap s [.probeFault]) ∧
      handFan s f y =
        { s with fans := (handFan s f y).fans, links := (handFan s f y).links, log := (handFan s f y).log } := by
  obtain ⟨logged, delivered, -⟩ := Told.handFan s f y x hx
  rw [if_neg probe, if_pos state] at logged
  refine ⟨logged.wrote (by simp), delivered.mono fun l k _ => by simp [probe, state], ?_⟩
  subst hx
  rw [handFan_still s f y state, if_neg probe]
  rfl

end

section
variable {s : State}

/-- A change of an airstream probe into or out of FAULTED writes its PROBE record and raises PROBE_FAULT (R65). -/
theorem handAirProbe_reports {n : AirProbe} {p q : ProbeRecord} (hp : s.frost.probes.get n = p)
    (differ : p.isFaulted ≠ q.isFaulted) :
    (handAirProbe s n q).frost = { s.frost with probes := s.frost.probes.set n q } ∧
      Wrote s (handAirProbe s n q) [.probe (.air n) p.isFaulted] ∧
      Delivered s (handAirProbe s n q) (byMap s [.probeFault]) ∧
      handAirProbe s n q =
        { s with
          frost := (handAirProbe s n q).frost, links := (handAirProbe s n q).links, log := (handAirProbe s n q).log } := by
  subst hp
  obtain ⟨logged, delivered, -⟩ := Told.handAirProbe s n q
  rw [if_neg differ] at logged delivered
  refine ⟨handAirProbe_frost .., logged.wrote (by simp), delivered, ?_⟩
  apply State.eq_of_fields <;> simp

/-- A change of a filter probe's fault writes its PROBE record and raises PROBE_FAULT (R136). -/
theorem handFilterProbe_reports {f : Side} {x y : FilterRecord} (hx : s.filters.records.get f = x)
    (differ : x.probeFault ≠ y.probeFault) :
    (handFilterProbe s f y).filters = { s.filters with records := s.filters.records.set f y } ∧
      Wrote s (handFilterProbe s f y) [.probe (.filter f) x.probeFault] ∧
      Delivered s (handFilterProbe s f y) (byMap s [.probeFault]) ∧
      handFilterProbe s f y =
        { s with
          filters := (handFilterProbe s f y).filters
          links := (handFilterProbe s f y).links
          log := (handFilterProbe s f y).log } := by
  subst hx
  obtain ⟨logged, delivered, -⟩ := Told.handFilterProbe s f y
  rw [if_neg differ] at logged delivered
  refine ⟨handFilterProbe_filters .., logged.wrote (by simp), delivered, ?_⟩
  apply State.eq_of_fields <;> simp

end

/-! ### The rows at their moments -/

section
variable {s : State} {f : Side} {x : FanRecord} (hx : s.fans.get f = x)
include hx

theorem exec_fanRunningEntry (here : x.state = .starting) (last : x.phase = 1) (wanted : 0 < x.target) :
    exec (.fanRunningEntry f) s = .next (handFan s f (x.enterRunning s.settings)) := by
  show execFanRunningEntry f s = _
  rw [execFanRunningEntry, hx]
  exact congrArg Host.Outcome.next (if_pos ⟨here, last, wanted⟩)

theorem exec_fanStall (here : x.state = .running) (wanted : 0 < x.target) (due : 5 ≤ x.lowSpeedNext s.settings) :
    exec (.fanStall f) s = .next (handFan s f x.stall) := by
  show execFanStall f s = _
  rw [execFanStall, hx]
  exact congrArg Host.Outcome.next (if_pos ⟨here, wanted, due⟩)

theorem exec_fanRetryStart (here : x.state = .stalled) (last : x.phase = 1) :
    exec (.fanRetryStart f) s = .next (handFan s f (x.retry s.settings)) := by
  show execFanRetryStart f s = _
  rw [execFanRetryStart, hx]
  exact congrArg Host.Outcome.next (if_pos ⟨here, last⟩)

theorem exec_fanRetryEnd (here : x.state = .retrying) (last : x.phase = 1) :
    exec (.fanRetryEnd f) s = .next (handFan s f x.endRetry) := by
  show execFanRetryEnd f s = _
  rw [execFanRetryEnd, hx]
  exact congrArg Host.Outcome.next (if_pos ⟨here, last⟩)

theorem exec_shortfallSet (clear : x.shortfall = false) (due : (x.judgeShortfall s.settings).shortfall = true) :
    exec (.shortfallSet f) s = .next (handFan s f (x.judgeShortfall s.settings)) := by
  show execShortfallSet f s = _
  rw [execShortfallSet, hx]
  exact congrArg Host.Outcome.next (if_pos ⟨clear, due⟩)

theorem exec_shortfallCleared (set : x.shortfall = true) (due : (x.judgeShortfall s.settings).shortfall = false) :
    exec (.shortfallCleared f) s = .next (handFan s f (x.judgeShortfall s.settings)) := by
  show execShortfallCleared f s = _
  rw [execShortfallCleared, hx]
  exact congrArg Host.Outcome.next (if_pos ⟨set, due⟩)

theorem exec_attemptCountReset (here : x.state = .running) (due : x.run = 59) :
    exec (.attemptCountReset f) s = .next (handFan s f x.countRun) := by
  show execAttemptCountReset f s = _
  rw [execAttemptCountReset, hx]
  exact congrArg Host.Outcome.next (if_pos ⟨here, due⟩)

theorem exec_flowProbeFault (sound : x.probeFault = false) (third : x.probeCount = 2) :
    exec (.flowProbeFault f) s = .next (handFan s f x.loseProbe) := by
  show execFlowProbeFault f s = _
  rw [execFlowProbeFault, hx]
  exact congrArg Host.Outcome.next (if_pos ⟨sound, third⟩)

theorem exec_flowProbeRecover {dp : Nat} (faulted : x.probeFault = true) (third : x.probeCount = 2) (fits : dp ≤ 5000) :
    exec (.flowProbeRecover f dp) s = .next (handFan s f (x.regainProbe (s.settings.nat (ringKey f)) dp)) := by
  show execFlowProbeRecover f dp s = _
  rw [execFlowProbeRecover, hx]
  exact congrArg Host.Outcome.next (if_pos ⟨faulted, third, fits⟩)

end

section
variable {s : State}

theorem exec_tempProbeFault {n : AirProbe} {p : ProbeRecord} (hp : s.frost.probes.get n = p)
    (sound : p.isFaulted = false) (third : p.reads = 2) :
    exec (.tempProbeFault n) s = .next (handAirProbe s n { status := .faulted p.value?, reads := 0 }) := by
  show execTempProbeFault n s = _
  rw [execTempProbeFault, hp]
  exact congrArg Host.Outcome.next (if_pos ⟨sound, third⟩)

theorem exec_tempProbeRecover {n : AirProbe} {p : ProbeRecord} {v : Int} (hp : s.frost.probes.get n = p)
    (faulted : p.isFaulted = true) (third : p.reads = 2) (good : goodRead v = true) :
    exec (.tempProbeRecover n v) s = .next (handAirProbe s n { status := .good v, reads := 0 }) := by
  show execTempProbeRecover n v s = _
  rw [execTempProbeRecover, hp]
  exact congrArg Host.Outcome.next (if_pos ⟨faulted, third, good⟩)

theorem exec_filterProbeFault {f : Side} {x : FilterRecord} (hx : s.filters.records.get f = x)
    (sound : x.probeFault = false) (third : x.probeCount = 2) :
    exec (.filterProbeFault f) s = .next (handFilterProbe s f x.loseProbe) := by
  show execFilterProbeFault f s = _
  rw [execFilterProbeFault, hx]
  exact congrArg Host.Outcome.next (if_pos ⟨sound, third⟩)

theorem exec_filterProbeRecover {f : Side} {x : FilterRecord} {dp : Nat} (hx : s.filters.records.get f = x)
    (faulted : x.probeFault = true) (third : x.probeCount = 2) (fits : dp ≤ 5000) :
    exec (.filterProbeRecover f dp) s = .next (handFilterProbe s f (x.regainProbe dp)) := by
  show execFilterProbeRecover f dp s = _
  rw [execFilterProbeRecover, hx]
  exact congrArg Host.Outcome.next (if_pos ⟨faulted, third, fits⟩)

/-- A fan that enters RUNNING sets its duty at once (R50). -/
theorem FanRecord.enterRunning_duty (x : FanRecord) (t : Settings) :
    (x.enterRunning t).probeFault = x.probeFault ∧
      (x.enterRunning t).duty = if x.probeFault then openLoopDuty t x else closedLoopDuty t x := by
  have few : FanRecord.lowSpeedNext { x with state := .running, phase := 0, run := 0, lowSpeed := 0 } t < 5 :=
    lowSpeedNext_lt t (.inl (Nat.zero_lt_succ 3))
  rw [enterRunning, runStep_goesOn few]
  exact ⟨rfl, rfl⟩

theorem ProbeRecord.isFaulted_false {p : ProbeRecord} (sound : ∀ held, p.status ≠ .faulted held) :
    p.isFaulted = false := by
  unfold isFaulted
  split
  next held status => exact absurd status (sound held)
  next => rfl

end

end Sys2Proof.Machine

namespace Sys2Proof

open Machine

/-- Settles O29: the entry into RUNNING is neither logged nor raised, and the other rows keep the fan's state. -/
theorem fanCountersReachTheirEnds : Obligations.FanCountersReachTheirEnds := by
  refine ⟨?entry, ?rows⟩
  case entry =>
    intro s f x hx here last wanted
    obtain ⟨state, phase, run⟩ := FanRecord.enterRunning_eq (x := x) (t := s.settings)
    obtain ⟨probe, duty⟩ := FanRecord.enterRunning_duty x s.settings
    have quiet := handFan_silent (y := x.enterRunning s.settings) hx probe.symm
      (by rw [here, state]; decide) (by rw [here, state]; rfl) (by rw [here, state]; rfl) (by rw [state]; rfl)
    refine ⟨_, exec_fanRunningEntry hx here last wanted, ?_⟩
    rw [quiet]
    have own : (notice { s with fans := s.fans.set f (x.enterRunning s.settings) }).fans.get f =
        x.enterRunning s.settings := by simp
    rw [own]
    refine ⟨state, run, phase, duty, fun g other => by simp [other], fun loaded => Resolved.notice _ loaded, ?_⟩
    apply State.eq_of_fields <;> simp
  case rows =>
    intro s f x hx
    refine ⟨fun here wanted sound clear full below due => ?sets, fun here wanted sound set inBand due => ?clears,
      fun here due => ?resets, ?pulse⟩
    case sets =>
      have judged : x.judgeShortfall s.settings = { x with shortfall := true, shortfallCount := 0 } := by
        rw [FanRecord.judgeShortfall_judges here wanted sound, if_neg (by simp [clear]), if_pos ⟨full, below⟩,
          if_pos (Nat.le_of_eq due.symm)]
      rw [exec_shortfallSet hx clear (by rw [judged]), judged]
      exact congrArg Host.Outcome.next (handFan_plain hx rfl rfl)
    case clears =>
      have judged : x.judgeShortfall s.settings = { x with shortfall := false, shortfallCount := 0 } := by
        rw [FanRecord.judgeShortfall_judges here wanted sound, if_pos set, if_pos inBand, if_pos (Nat.le_of_eq due.symm)]
        rfl
      rw [exec_shortfallCleared hx set (by rw [judged]), judged]
      exact congrArg Host.Outcome.next (handFan_plain hx rfl rfl)
    case resets =>
      have counted : x.countRun = { x with run := 60, attempts := 0 } := by
        rw [FanRecord.countRun, due]; rfl
      rw [exec_attemptCountReset hx here due, counted]
      exact congrArg Host.Outcome.next (handFan_plain hx rfl rfl)
    case pulse =>
      show execTachPulse f s = _
      rw [execTachPulse, hx]

/-- Settles O30: a stall, a retry and its judgement each hand back a record in another state, and R60 says of the two
states what is written and raised. -/
theorem fanStallsRetriesAndIsJudged : Obligations.FanStallsRetriesAndIsJudged := by
  refine ⟨?stall, ?retry, ?judge⟩
  case stall =>
    intro s f x hx here wanted still driven fifth
    have due : 5 ≤ x.lowSpeedNext s.settings := by rw [FanRecord.lowSpeedNext, if_pos ⟨still, driven⟩]; omega
    have differ : x.state ≠ x.stall.state := by rw [here]; exact FanState.noConfusion
    obtain ⟨runner, wrote, delivered⟩ := handFan_faults (y := x.stall) hx rfl differ rfl rfl
    rw [here] at delivered
    exact ⟨_, exec_fanStall hx here wanted due, handFan_fans .., runner, wrote, delivered,
      handFan_resolved s f _ (hx ▸ differ), handFan_frame ..⟩
  case retry =>
    intro s f x hx here last
    have differ : x.state ≠ (x.retry s.settings).state := by rw [here]; exact FanState.noConfusion
    obtain ⟨runner, wrote, delivered⟩ := handFan_faults (y := x.retry s.settings) hx rfl differ rfl rfl
    rw [here] at delivered
    exact ⟨_, exec_fanRetryStart hx here last, handFan_fans .., runner, wrote,
      delivered.mono fun l k _ => by simp [fanRaises, byMap],
      handFan_resolved s f _ (hx ▸ differ), handFan_frame ..⟩
  case judge =>
    intro s f x hx here last
    refine ⟨_, exec_fanRetryEnd hx here last, fun spins => ?stops, fun still few => ?stalls, fun still third => ?fails,
      handFan_resolved s f _ ?differ, handFan_frame ..⟩
    case differ =>
      rw [hx, here]
      unfold FanRecord.endRetry
      split
      next => exact FanState.noConfusion
      next => split <;> exact FanState.noConfusion
    case stops =>
      have ended : x.endRetry = { x with state := .stopped, duty := 0, phase := 0 } := if_pos spins
      have differ : x.state ≠ x.endRetry.state := by rw [here, ended]; exact FanState.noConfusion
      obtain ⟨wrote, delivered⟩ := handFan_moves (y := x.endRetry) hx (by rw [ended]) differ
      rw [handFan_fans, handFan_runner, ended]
      rw [here, ended] at wrote delivered
      exact ⟨rfl, if_neg fun h => by simp [FanState.faulted] at h, Logged.wrote (bs := [.fan f .stopped]) wrote (by simp),
        delivered.mono fun l k _ => by simp [FanState.faulted, fanRaises]⟩
    case stalls =>
      have ended : x.endRetry = { x with state := .stalled, duty := 0, phase := 30, attempts := x.attempts + 1 } :=
        (if_neg (by omega)).trans (if_pos few)
      have differ : x.state ≠ x.endRetry.state := by rw [here, ended]; exact FanState.noConfusion
      obtain ⟨runner, wrote, delivered⟩ := handFan_faults (y := x.endRetry) hx (by rw [ended]) differ
        (by rw [ended]; rfl) (by rw [ended]; rfl)
      rw [here, ended] at delivered
      rw [ended] at runner wrote ⊢
      exact ⟨handFan_fans .., runner, wrote, delivered.mono fun l k _ => by simp [fanRaises, byMap]⟩
    case fails =>
      have ended : x.endRetry = { x with state := .failed, duty := 0, phase := 0 } :=
        (if_neg (by omega)).trans (if_neg (by omega))
      have differ : x.state ≠ x.endRetry.state := by rw [here, ended]; exact FanState.noConfusion
      obtain ⟨runner, wrote, delivered⟩ := handFan_faults (y := x.endRetry) hx (by rw [ended]) differ
        (by rw [ended]; rfl) (by rw [ended]; rfl)
      rw [here, ended] at delivered
      rw [ended] at runner wrote ⊢
      exact ⟨handFan_fans .., runner, wrote, delivered⟩

/-- Settles O31: each row hands back the probe's record with its fault the other way, which is what is written and
raised. -/
theorem probesFaultAndRecover : Obligations.ProbesFaultAndRecover := by
  refine ⟨?flow, ?air, ?filter⟩
  case flow =>
    intro s f x hx third
    refine ⟨fun sound => ⟨_, exec_flowProbeFault hx sound third, handFan_fans .., ?_⟩,
      fun faulted dp fits => ⟨_, exec_flowProbeRecover hx faulted third fits, handFan_fans .., ?_⟩⟩
    · have reports := handFan_reports (y := x.loseProbe) hx rfl (by rw [sound]; exact Bool.false_ne_true)
      rw [sound] at reports
      exact reports
    · have reports := handFan_reports (y := x.regainProbe (s.settings.nat (ringKey f)) dp) hx rfl
        (by rw [faulted]; exact Bool.false_ne_true.symm)
      rw [faulted] at reports
      exact reports
  case air =>
    intro s n p hp third
    refine ⟨fun sound => ?_, fun held v faulted low high => ?_⟩
    · have healthy := ProbeRecord.isFaulted_false sound
      have reports := handAirProbe_reports (q := { status := .faulted p.value?, reads := 0 }) hp
        (by rw [healthy]; exact Bool.false_ne_true)
      have value : p.value? = match p.status with | .good v => some v | _ => none := by
        unfold ProbeRecord.value?
        cases status : p.status with
        | good | noValue => rfl
        | faulted held => exact absurd status (sound held)
      rw [healthy, value] at reports
      refine ⟨_, exec_tempProbeFault hp healthy third, ?_⟩
      rw [value]
      exact reports
    · have broken : p.isFaulted = true := by rw [ProbeRecord.isFaulted, faulted]
      have reports := handAirProbe_reports (q := { status := .good v, reads := 0 }) hp
        (by rw [broken]; exact Bool.false_ne_true.symm)
      rw [broken] at reports
      exact ⟨_, exec_tempProbeRecover hp broken third (goodRead_iff.mpr ⟨low, high⟩), reports⟩
  case filter =>
    intro s f x hx third
    refine ⟨fun sound => ⟨_, exec_filterProbeFault hx sound third, ?_⟩,
      fun faulted dp fits => ⟨_, exec_filterProbeRecover hx faulted third fits, ?_⟩⟩
    · have reports := handFilterProbe_reports (y := x.loseProbe) hx (by rw [sound]; exact Bool.false_ne_true)
      rw [sound] at reports
      exact reports
    · have reports := handFilterProbe_reports (y := x.regainProbe dp) hx
        (by rw [faulted]; exact Bool.false_ne_true.symm)
      rw [faulted] at reports
      exact reports

end Sys2Proof
end

section
/-! PROOFS. The frost step (R67): what it does with the log, the links, the runner and the resolver, by whether the
stage machine moves; then the stage machine in NORMAL to UNBALANCE (R75 to R77), and the preheater's duty (R84). -/

namespace Sys2Proof.Machine

/-! ### The frost step and the move of its stage machine (R67, R74) -/

section
variable {s : State}

theorem exec_frostStep (loaded : s.isLoading = false) : exec .frostStep s = .next (frostStep s) := by
  show execFrostStep s = _
  rw [execFrostStep, loaded]
  rfl

theorem frostStep_log (s : State) : (frostStep s).log = (applyFrostMove s (frostMove s)).log := by
  unfold frostStep
  dsimp only
  split <;> rfl

theorem frostStep_links (s : State) : (frostStep s).links = (applyFrostMove s (frostMove s)).links := by
  unfold frostStep
  dsimp only
  split <;> rfl

theorem frostStep_runner (s : State) : (frostStep s).runner = (applyFrostMove s (frostMove s)).runner := by
  unfold frostStep
  dsimp only
  split <;> rfl

theorem frostStep_frame (s : State) :
    frostStep s =
      { s with
        frost := (frostStep s).frost, op := (frostStep s).op, damper := (frostStep s).damper
        runner := (frostStep s).runner, links := (frostStep s).links, log := (frostStep s).log } := by
  apply State.eq_of_fields <;> simp

/-- A frost step tells what its stage move tells. -/
theorem Told.frostStep {bs : List LogBody} {g : Link → EventKind → Bool}
    (h : Told s (Machine.applyFrostMove s (frostMove s)) bs g) : Told s (Machine.frostStep s) bs g :=
  h.congr rfl rfl rfl rfl (frostStep_log s) (frostStep_links s) (by simp) (by simp)

/-- A frost step that changes the stage, r or the BLIND phase ends in a notice (R67). -/
theorem frostStep_resolved (loaded : s.isLoading = false)
    (changed : frostShapeChanged s.frost.record (frostDriven s) = true) : Resolved (frostStep s) := by
  unfold frostStep
  dsimp only
  rw [if_pos changed]
  exact .notice _ ((isLoading_congr (by simp)).trans loaded)

/-- A move that keeps the stage and ends no THAW leaves the log, the links and the runner, and with r and the BLIND phase
kept the operating point too (R67). -/
theorem frostStep_still (loaded : s.isLoading = false) (same : (frostMove s).record.stage = s.frost.record.stage)
    (thawing : (frostMove s).thawEnd = none) :
    (frostStep s).runner = s.runner ∧ (frostStep s).links = s.links ∧ (frostStep s).log = s.log ∧
      ((frostDriven s).r = s.frost.record.r → (frostDriven s).blindPhase = s.frost.record.blindPhase →
        (frostStep s).op = s.op ∧ (frostStep s).damper = s.damper) ∧
      ((frostDriven s).r ≠ s.frost.record.r ∨ (frostDriven s).blindPhase ≠ s.frost.record.blindPhase →
        Resolved (frostStep s)) := by
  have still := applyFrostMove_still s (frostMove s) same.symm thawing
  have stage : (frostDriven s).stage = s.frost.record.stage := same
  refine ⟨?runner, ?links, ?log, fun ratio phase => ?kept, fun differ => frostStep_resolved loaded ?changed⟩
  case runner => rw [frostStep_runner, still]; rfl
  case links => rw [frostStep_links, still]; rfl
  case log => rw [frostStep_log, still]; rfl
  case kept =>
    have shape : frostShapeChanged s.frost.record (frostDriven s) = false := by
      simp [frostShapeChanged, stage, ratio, phase]
    unfold frostStep
    dsimp only
    rw [shape, if_neg Bool.false_ne_true, still]
    exact ⟨rfl, rfl⟩
  case changed =>
    rcases differ with ratio | phase
    · simp [frostShapeChanged, ratio.symm]
    · simp [frostShapeChanged, phase.symm]

/-- A frost step that changes the stage (R74). -/
theorem frostStep_moves (loaded : s.isLoading = false) (differ : s.frost.record.stage ≠ (frostMove s).record.stage) :
    Resolved (frostStep s) ∧
      (frostStep s).runner =
        if (frostMove s).record.stage.bars then endedRunner s .abortedFrost ⟨none, none⟩ else s.runner := by
  refine ⟨frostStep_resolved loaded ?_, ?_⟩
  · have stage : s.frost.record.stage ≠ (frostDriven s).stage := differ
    simp [frostShapeChanged, stage]
  · rw [frostStep_runner, applyFrostMove_runner s _ differ]

/-- At most one record of a move is the procedure's (R153). -/
theorem length_endBodies_append (bs : List LogBody) (p : Procedure) (o : ProcedureOutcome) (few : bs.length ≤ 2) :
    (bs ++ endBodies p o).length ≤ 512 := by
  have one := endBodies_length p o
  rw [List.length_append]
  omega

theorem length_endBodies_cons (b : LogBody) (p : Procedure) (o : ProcedureOutcome) :
    (b :: endBodies p o).length ≤ 512 := length_endBodies_append [b] p o (by show 1 ≤ 2; decide)

/-! ### A move that reports no THAW and enters no LOCKOUT -/

variable {m : FrostMove}

/-- A move to a stage in which a procedure may run (R74, R151). -/
theorem Told.applyFrostMove_clear (thawing : m.thawEnd = none) (differ : s.frost.record.stage ≠ m.record.stage)
    (clear : m.record.stage.bars = false) :
    Told s (Machine.applyFrostMove s m) [.frostStage s.frost.record.stage m.record.stage m.record.f]
      (byMap s [.frostStage]) := by
  have out : m.record.stage ≠ .lockout := by rintro h; rw [h] at clear; cases clear
  refine (Told.applyFrostMove s m differ).mono ?_ fun l k _ => ?_
  · simp [thawing, clear]
  · simp [thawing, clear, out]

/-- A move to a stage that ends a running procedure (R74, R151). -/
theorem Told.applyFrostMove_barred (thawing : m.thawEnd = none) (differ : s.frost.record.stage ≠ m.record.stage)
    (barred : m.record.stage.bars = true) (out : m.record.stage ≠ .lockout) :
    Told s (Machine.applyFrostMove s m)
      (.frostStage s.frost.record.stage m.record.stage m.record.f :: endBodies s.runner.procedure .abortedFrost)
      (fun l k => byMap s [.frostStage] l k || endGiven s .abortedFrost l k) := by
  refine (Told.applyFrostMove s m differ).mono ?_ fun l k _ => ?_
  · simp [thawing, barred]
  · simp [thawing, barred, out]

end

/-! ### The record of a frost step (R67 to R71, R84, R85) -/

section
variable {s : State} {t : Settings} {g : FrostRecord}

theorem natCast_max (a b : Nat) : ((max a b : Nat) : Int) = max (a : Int) (b : Int) := by omega

/-- F with T_eha healthy, in a stage other than BLIND (R67 to R69, R80). -/
theorem frostIndex_healthy (here : g.stage ≠ .blind) (v : Int) (ah : Option Nat) (shortfall : Bool) :
    frostIndex t g (some v) ah shortfall =
      let ice := t.get .frostThreshold
      let moved : Int := (if v < ice then (g.f : Int) + max 1 ((min (ice - v) 100).toNat * ah.getD 800 / 8000 : Nat)
        else (g.f : Int) - max 1 ((min (v - ice) 100).toNat / 4 : Nat))
        + (if g.stage ≠ .normal ∧ shortfall = true then 20 else 0)
      if t.nat .thawGap * 6 ≤ g.gap then (min (max moved 0) 10000).toNat
      else min (min (max moved 0) 10000).toNat (t.thresholds.thawOn - 1) := by
  have counts : (g.stage.countsShortfall && shortfall) = decide (g.stage ≠ .normal ∧ shortfall = true) := by
    cases stage : g.stage
    case blind => exact absurd stage here
    all_goals simp [Stage.countsShortfall]
  simp only [frostIndex, if_neg here, counts, decide_eq_true_iff, gapElapsed, clampInt, frostRise, frostFall, natCast_max,
    Int.natCast_one]
  by_cases short : g.stage ≠ .normal ∧ shortfall = true
  · simp only [if_pos short]
  · simp only [if_neg short, Int.add_zero]

/-- AH_eta, or 800 where it is absent (R68). -/
theorem ExtractRecord.ahEta_getD (x : ExtractRecord) :
    x.ahEta.getD 800 = if x.stale then 800 else (x.last.map Prod.snd).getD 800 := by
  unfold ahEta
  split <;> rfl

/-- With T_eha not healthy F is held (R67). -/
theorem frostUpdated_unhealthy (gone : (s.frost.probes.get .eha).healthy? = none) :
    frostUpdated s = s.frost.record.countGap := by
  simp [frostUpdated, gone, frostIndex]

/-- In a stage other than NORMAL and BLIND a frost step leaves the F of `indexAfter` (R67 to R69, R80). -/
theorem frostUpdated_f {v : Int} (good : (s.frost.probes.get .eha).status = .good v) (normal : s.frost.record.stage ≠ .normal)
    (blind : s.frost.record.stage ≠ .blind) : (frostUpdated s).f = indexAfter s v := by
  have here : s.frost.record.countGap.stage ≠ .blind := blind
  have counted : s.frost.record.countGap.stage ≠ .normal := normal
  show frostIndex .. = _
  rw [healthy_of_good good, frostIndex_healthy here, ExtractRecord.ahEta_getD]
  simp only [ne_eq, counted, not_false_eq_true, true_and]
  rfl

/-- Ramp and duty leave a record but for r, the duty and the pinned count. -/
theorem frostDriven_eq (s : State) :
    frostDriven s =
      { (frostMove s).record with
        r := (frostDriven s).r, duty := (frostDriven s).duty, pinned := (frostDriven s).pinned } := rfl

/-- r after a frost step (R71, R77). -/
theorem frostDriven_r (s : State) :
    (frostDriven s).r =
      min (if (frostMove s).record.stage = .unbalance ∧ (s.frost.steps + 1) % 6 = 0 then
          rampRatio s.settings (frostMove s).record else (frostMove s).record.r) (s.settings.nat .maxUnbalance) := by
  have due : ((s.frost.steps + 1) % 6 == 0 && (frostMove s).record.stage == .unbalance) =
      decide ((frostMove s).record.stage = .unbalance ∧ (s.frost.steps + 1) % 6 = 0) := by
    rw [Bool.decide_and, Bool.and_comm]
    rfl
  show min (if ((s.frost.steps + 1) % 6 == 0 && (frostMove s).record.stage == .unbalance) = true then _ else _) _ = _
  simp only [due, decide_eq_true_iff]

/-- Outside UNBALANCE no ramp step moves r (R77). -/
theorem frostDriven_r_level (h : (frostMove s).record.stage ≠ .unbalance) :
    (frostDriven s).r = min (frostMove s).record.r (s.settings.nat .maxUnbalance) := by
  rw [frostDriven_r, if_neg fun due => h due.1]

/-- Outside PREHEAT and UNBALANCE the preheater stands still (R83, R84, R85). -/
theorem frostDriven_cold (h : (frostMove s).record.stage ≠ .preheat) (h' : (frostMove s).record.stage ≠ .unbalance) :
    (frostDriven s).duty = 0 ∧ (frostDriven s).pinned = 0 := by
  have still (b : Bool) : mayRun s ((frostMove s).record.ramp s.settings b) = false := by
    rw [Bool.eq_false_iff, ne_eq, mayRun_iff]
    rintro ⟨-, -, stage | stage, -⟩
    · exact h stage
    · exact h' stage
  unfold frostDriven FrostRecord.heat
  dsimp only
  rw [still]
  exact ⟨by split <;> rfl, rfl⟩

/-- The record of a frost step that leaves a stage other than PREHEAT and UNBALANCE. -/
theorem frostDriven_level {m : FrostMove} (move : frostMove s = m) (preheat : m.record.stage ≠ .preheat)
    (unbalance : m.record.stage ≠ .unbalance) :
    frostDriven s = { m.record with r := min m.record.r (s.settings.nat .maxUnbalance), duty := 0, pinned := 0 } := by
  subst move
  obtain ⟨duty, pinned⟩ := frostDriven_cold preheat unbalance
  rw [frostDriven_eq, duty, pinned, frostDriven_r_level unbalance]

/-- No rule of the stage machine touches the preheater's duty or its fault (R74 to R81, R87 to R89). -/
theorem judgeStage_preheater (eha oda : Option Int) :
    (judgeStage t g eha oda).record.duty = g.duty ∧ (judgeStage t g eha oda).record.fault = g.fault := by
  unfold judgeStage
  split
  case h_1 => unfold judgeLockout; (repeat' split) <;> exact ⟨rfl, rfl⟩
  case h_2 => exact ⟨rfl, rfl⟩
  case h_3 => unfold blindStep blindTurn; (repeat' split) <;> exact ⟨rfl, rfl⟩
  case h_4 => unfold enterBlind; split <;> exact ⟨rfl, rfl⟩
  case h_5 => unfold judgeNormal; split <;> exact ⟨rfl, rfl⟩
  case h_6 => unfold judgeWatch; (repeat' split) <;> exact ⟨rfl, rfl⟩
  case h_7 => unfold judgePreheat; (repeat' split) <;> exact ⟨rfl, rfl⟩
  case h_8 => unfold judgeUnbalance; (repeat' split) <;> exact ⟨rfl, rfl⟩
  case h_9 => unfold judgeThaw thawSucceeds thawTimesOut; dsimp only; (repeat' split) <;> exact ⟨rfl, rfl⟩

/-- The pinned count after a frost step (R85). -/
theorem frostDriven_pinned (s : State) :
    (frostDriven s).pinned =
      if mayRun s (frostDriven s) = true ∧ (frostDriven s).duty = s.settings.nat .preheatMax ∧
          s.frost.record.f < (frostUpdated s).f then
        min ((frostMove s).record.pinned + 1) 180
      else 0 := by
  show (if (mayRun s (frostDriven s) && (frostDriven s).duty == s.settings.nat .preheatMax &&
    decide (s.frost.record.f < (frostUpdated s).f)) = true then _ else _) = _
  simp only [Bool.and_eq_true, beq_iff_eq, decide_eq_true_iff, and_assoc]
  rfl

/-- The duty after a frost step with T_eha healthy (R84). -/
theorem frostDriven_duty {v : Int} (good : (s.frost.probes.get .eha).status = .good v) :
    (frostDriven s).duty =
      if mayRun s (frostDriven s) = true then nextDuty s.settings s.frost.record v else 0 := by
  have kept : (frostMove s).record.duty = s.frost.record.duty := (judgeStage_preheater _ _).1
  unfold frostDriven FrostRecord.heat
  dsimp only
  rw [healthy_of_good good]
  dsimp only
  congr 1
  unfold nextDuty
  rw [show ((frostMove s).record.ramp s.settings ((s.frost.steps + 1) % 6 == 0)).duty = s.frost.record.duty from kept]

end

/-! ### The stage machine in NORMAL to UNBALANCE (R75 to R77) -/

/-- What a rule of these stages leaves of the record `u` it judges: it may change the stage, and then sets r and the
pinned count as the entry demands. -/
structure FrostMove.Judged (u : FrostRecord) (m : FrostMove) : Prop where
  thawEnd : m.thawEnd = none
  f : m.record.f = u.f
  gap : m.record.gap = u.gap
  phase : m.record.blindPhase = u.blindPhase
  r : m.record.r = if m.record.stage = .normal ∨ m.record.stage = .watch then 0 else u.r
  pinned : m.record.pinned = if u.stage ≠ .preheat ∧ m.record.stage = .preheat then 0 else u.pinned
  lockout : m.record.stage ≠ .lockout
  blind : m.record.stage ≠ .blind

section
variable {t : Settings} {u : FrostRecord}

theorem FrostMove.Judged.stay (flat : u.stage = .normal ∨ u.stage = .watch → u.r = 0) (lockout : u.stage ≠ .lockout)
    (blind : u.stage ≠ .blind) : FrostMove.Judged u u.move where
  thawEnd := rfl
  f := rfl
  gap := rfl
  phase := rfl
  r := by
    show u.r = if u.stage = .normal ∨ u.stage = .watch then 0 else u.r
    split
    next h => exact flat h
    next => rfl
  pinned := by
    show u.pinned = if u.stage ≠ .preheat ∧ u.stage = .preheat then 0 else u.pinned
    rw [if_neg fun h => h.1 h.2]
  lockout := lockout
  blind := blind

theorem FrostMove.Judged.enter {stage : Stage} (other : u.stage ≠ .preheat ∨ stage ≠ .preheat)
    (lockout : stage ≠ .lockout) (blind : stage ≠ .blind) : FrostMove.Judged u (u.enter stage).move where
  thawEnd := rfl
  f := rfl
  gap := rfl
  phase := rfl
  r := rfl
  pinned := by
    show (if stage = .preheat then 0 else u.pinned) = if u.stage ≠ .preheat ∧ stage = .preheat then 0 else u.pinned
    refine ite_congr (propext ?_) (fun _ => rfl) fun _ => rfl
    exact ⟨fun h => ⟨other.resolve_right fun k => k h, h⟩, And.right⟩
  lockout := lockout
  blind := blind

/-- The stage that PREHEAT's place is taken by (R75, R77): PREHEAT itself where the preheater is usable. -/
theorem judged_preheatOr {stage : Stage} (left : u.stage ≠ .preheat) (lockout : stage ≠ .lockout)
    (blind : stage ≠ .blind) (usable : Bool) :
    FrostMove.Judged u (u.enter (if usable then .preheat else stage)).move := by
  refine .enter (.inl left) ?_ ?_
  · cases usable
    · exact lockout
    · exact Stage.noConfusion
  · cases usable
    · exact blind
    · exact Stage.noConfusion

theorem judgeNormal_judged (here : u.stage = .normal) (flat : u.r = 0) : FrostMove.Judged u (judgeNormal t u) := by
  unfold judgeNormal
  split
  next => exact .enter (.inr Stage.noConfusion) Stage.noConfusion Stage.noConfusion
  next => exact .stay (fun _ => flat) (by rw [here]; decide) (by rw [here]; decide)

theorem judgeWatch_judged (here : u.stage = .watch) (flat : u.r = 0) : FrostMove.Judged u (judgeWatch t u) := by
  unfold judgeWatch
  split
  next => exact .enter (.inr Stage.noConfusion) Stage.noConfusion Stage.noConfusion
  next =>
    split
    next => exact judged_preheatOr (by rw [here]; decide) Stage.noConfusion Stage.noConfusion _
    next => exact .stay (fun _ => flat) (by rw [here]; decide) (by rw [here]; decide)

theorem judgePreheat_judged (here : u.stage = .preheat) (flat : u.r = 0) : FrostMove.Judged u (judgePreheat t u) := by
  have enters : FrostMove.Judged u (u.enter .unbalance).move :=
    .enter (.inr Stage.noConfusion) Stage.noConfusion Stage.noConfusion
  unfold judgePreheat
  split
  next => exact enters
  next =>
    split
    next => exact .enter (.inr Stage.noConfusion) Stage.noConfusion Stage.noConfusion
    next =>
      split
      next => exact enters
      next =>
        split
        next => exact enters
        next => exact .stay (fun _ => flat) (by rw [here]; decide) (by rw [here]; decide)

theorem judgeUnbalance_judged (here : u.stage = .unbalance) : FrostMove.Judged u (judgeUnbalance t u) := by
  unfold judgeUnbalance
  split
  next => exact { FrostMove.Judged.enter (u := u) (stage := .thaw) (.inr Stage.noConfusion) Stage.noConfusion Stage.noConfusion with }
  next =>
    split
    next => exact judged_preheatOr (by rw [here]; decide) Stage.noConfusion Stage.noConfusion _
    next => exact .stay (by rw [here]; simp) (by rw [here]; decide) (by rw [here]; decide)

end

end Sys2Proof.Machine
end

section
/-! PROOFS. A frost step in NORMAL to UNBALANCE (R67 to R71, R74 to R77, R80, R84, R85). -/

namespace Sys2Proof.Machine

section
variable {s : State} {g : FrostRecord} {v : Int}

theorem Stage.bars_clear {g : Stage} (h : g = .watch ∨ g = .normal ∨ g = .preheat) : g.bars = false := by
  rcases h with rfl | rfl | rfl <;> rfl

theorem Stage.bars_barred {g : Stage} (h : g = .unbalance ∨ g = .thaw) : g.bars = true := by
  rcases h with rfl | rfl <;> rfl

section
variable {t : Settings} {u : FrostRecord}

theorem judgeNormal_stage (here : u.stage = .normal) :
    (judgeNormal t u).record.stage = if t.thresholds.watchOn ≤ u.f then .watch else .normal := by
  unfold judgeNormal
  split
  next => rfl
  next => exact here

theorem judgeWatch_stage (here : u.stage = .watch) :
    (judgeWatch t u).record.stage =
      if u.f = 0 then .normal
      else if t.thresholds.preheatOn ≤ u.f then (if preheaterUsable t u then .preheat else .unbalance)
      else .watch := by
  unfold judgeWatch
  split
  next => rfl
  next =>
    split
    next => rfl
    next => exact here

theorem judgePreheat_stage (here : u.stage = .preheat) :
    (judgePreheat t u).record.stage =
      if t.thresholds.unbalanceOn ≤ u.f then .unbalance
      else if u.f ≤ t.thresholds.preheatOff then .watch
      else if preheaterUsable t u = false then .unbalance
      else if 180 ≤ u.pinned then .unbalance
      else .preheat := by
  unfold judgePreheat
  simp only [Bool.not_eq_true']
  split
  next => rfl
  next =>
    split
    next => rfl
    next =>
      split
      next => rfl
      next =>
        split
        next => rfl
        next => exact here

theorem judgeUnbalance_stage (here : u.stage = .unbalance) :
    (judgeUnbalance t u).record.stage =
      if t.thresholds.thawOn ≤ u.f ∧ t.nat .thawGap * 6 ≤ u.gap then .thaw
      else if u.r = 0 ∧ u.f ≤ t.thresholds.unbalanceExit then (if preheaterUsable t u then .preheat else .watch)
      else .unbalance := by
  unfold judgeUnbalance
  simp only [gapElapsed, decide_eq_true_iff]
  split
  next => rfl
  next =>
    split
    next => rfl
    next => exact here

end

/-- Each of the four stages judges by its own rule while T_eha is healthy (R74). -/
theorem frostMove_judges (good : (s.frost.probes.get .eha).status = .good v) :
    (s.frost.record.stage = .normal → frostMove s = judgeNormal s.settings (frostUpdated s)) ∧
      (s.frost.record.stage = .watch → frostMove s = judgeWatch s.settings (frostUpdated s)) ∧
      (s.frost.record.stage = .preheat → frostMove s = judgePreheat s.settings (frostUpdated s)) ∧
      (s.frost.record.stage = .unbalance → frostMove s = judgeUnbalance s.settings (frostUpdated s)) ∧
      (s.frost.record.stage = .thaw → frostMove s = judgeThaw s.settings (frostUpdated s) v) := by
  have same : (frostUpdated s).stage = s.frost.record.stage := rfl
  have healthy := healthy_of_good good
  refine ⟨?_, ?_, ?_, ?_, ?_⟩ <;>
    (intro here; rw [← same] at here; simp only [frostMove, judgeStage, here, healthy])

/-- The frost step of a stage in which the stage machine judges F alone (R75 to R77). -/
theorem frostMove_judged (ok : s.frost.record.Ok) (good : (s.frost.probes.get .eha).status = .good v)
    (here : s.frost.record.stage = .normal ∨ s.frost.record.stage = .watch ∨ s.frost.record.stage = .preheat ∨
      s.frost.record.stage = .unbalance) : FrostMove.Judged (frostUpdated s) (frostMove s) := by
  obtain ⟨normal, watch, preheat, unbalance, -⟩ := frostMove_judges good
  rcases here with here | here | here | here
  · rw [normal here]; exact judgeNormal_judged here (ok.balanced (.inl here))
  · rw [watch here]; exact judgeWatch_judged here (ok.balanced (.inr (.inl here)))
  · rw [preheat here]; exact judgePreheat_judged here (ok.balanced (.inr (.inr here)))
  · rw [unbalance here]; exact judgeUnbalance_judged here

/-- r of a judged record after ramp and ceiling (R71, R77; assumption 36). -/
theorem FrostMove.Judged.driven (judged : FrostMove.Judged (frostUpdated s) (frostMove s)) :
    (frostDriven s).r =
      if (frostDriven s).stage = .normal ∨ (frostDriven s).stage = .watch then 0
      else if (frostDriven s).stage = .unbalance ∧ (s.frost.steps + 1) % 6 = 0 then
        (if s.settings.thresholds.unbalanceOn ≤ (frostUpdated s).f then
          min (s.frost.record.r + 50) (s.settings.nat .maxUnbalance)
         else if (frostUpdated s).f < s.settings.thresholds.unbalanceDown then
          min (s.frost.record.r - 50) (s.settings.nat .maxUnbalance)
         else min s.frost.record.r (s.settings.nat .maxUnbalance))
      else min s.frost.record.r (s.settings.nat .maxUnbalance) := by
  have ratio : (frostMove s).record.r = if (frostMove s).record.stage = .normal ∨ (frostMove s).record.stage = .watch
    then 0 else s.frost.record.r := judged.r
  have stage : (frostDriven s).stage = (frostMove s).record.stage := rfl
  rw [frostDriven_r, stage]
  by_cases flat : (frostMove s).record.stage = .normal ∨ (frostMove s).record.stage = .watch
  · rw [if_neg (by rcases flat with h | h <;> rw [h] <;> simp), ratio, if_pos flat, if_pos flat, Nat.zero_min]
  · rw [if_neg flat, rampRatio, judged.f, ratio, if_neg flat]
    split
    next => (repeat' split) <;> rfl
    next => rfl

end

end Sys2Proof.Machine

namespace Sys2Proof

open Machine

/-- Settles O33: the ramp and the stage machine leave the duty for stage 6 of the step to set. -/
theorem frostStepSetsThePreheaterDuty : Obligations.FrostStepSetsThePreheaterDuty := by
  intro s v loaded good
  refine ⟨_, exec_frostStep loaded, ?_⟩
  rw [frostStep_frost]
  refine ⟨rfl, decide_eq_true_iff, ?_⟩
  have fault : (frostDriven s).fault = s.frost.record.fault := (judgeStage_preheater _ _).2
  have may := mayRun_iff (s := s) (g := frostDriven s)
  rw [← ProbeRecord.healthy?_isSome, fault] at may
  show ((frostDriven s).duty : Int) = _
  rw [frostDriven_duty good]
  by_cases runs : mayRun s (frostDriven s) = true
  · refine Eq.trans ?_ (if_pos (may.mp runs)).symm
    rw [if_pos runs]
    unfold nextDuty clampInt
    omega
  · refine Eq.trans ?_ (if_neg fun h => runs (may.mpr h)).symm
    rw [if_neg runs]
    rfl

/-- Settles O32: the four stages judge F by tables of their own, and whatever they decide, the rest of the record, the
log, the links and the resolver follow from the move alone. -/
theorem frostStepMovesTheIndexAndTheStage : Obligations.FrostStepMovesTheIndexAndTheStage := by
  rintro s g v ah gap f moved rfl loaded ok here good rfl rfl rfl hf
  have index : (frostUpdated s).f = f := by
    rw [hf]
    have blind : s.frost.record.countGap.stage ≠ .blind := by
      show s.frost.record.stage ≠ .blind
      rcases here with h | h | h | h <;> rw [h] <;> decide
    show frostIndex .. = _
    rw [healthy_of_good good, frostIndex_healthy blind, ExtractRecord.ahEta_getD]
    rfl
  clear hf
  have judged := frostMove_judged ok good here
  obtain ⟨normal, watch, preheat, unbalance, -⟩ := frostMove_judges good
  refine ⟨_, exec_frostStep loaded, ?_⟩
  rw [frostStep_frost]
  refine ⟨judged.f.trans index, judged.gap, fun h => ?normal, fun h => ?watch, fun h => ?preheat, fun h => ?unbalance,
    ?ratio, fun may hmay => ?pinned, fun same => ?still, fun differ => ⟨?resolved, fun clear => ?clear, fun barred => ?barred⟩,
    ?frame⟩
  all_goals subst index
  case normal => exact (congrArg (·.record.stage) (normal h)).trans (judgeNormal_stage (u := frostUpdated s) h)
  case watch => exact (congrArg (·.record.stage) (watch h)).trans (judgeWatch_stage (u := frostUpdated s) h)
  case preheat => exact (congrArg (·.record.stage) (preheat h)).trans (judgePreheat_stage (u := frostUpdated s) h)
  case unbalance => exact (congrArg (·.record.stage) (unbalance h)).trans (judgeUnbalance_stage (u := frostUpdated s) h)
  case ratio => exact judged.driven
  case pinned =>
    have runs : mayRun s (frostDriven s) = may := by
      rw [hmay]
      have fault : (frostDriven s).fault = s.frost.record.fault := (judgeStage_preheater _ _).2
      simp only [mayRun, preheaterMayRun, preheaterUsable, fault, Bool.decide_or]
      rfl
    have pinned := frostDriven_pinned s
    rw [runs, judged.pinned] at pinned
    refine pinned.trans (ite_congr rfl (fun _ => ?_) fun _ => rfl)
    by_cases enters : s.frost.record.stage ≠ .preheat ∧ (frostMove s).record.stage = .preheat
    · exact (congrArg (fun n => min (n + 1) 180) (if_pos enters)).trans (if_pos enters).symm
    · exact (congrArg (fun n => min (n + 1) 180) (if_neg enters)).trans (if_neg enters).symm
  case still =>
    obtain ⟨runner, links, log, kept, differ⟩ := frostStep_still loaded same judged.thawEnd
    exact ⟨runner, links, log, fun ratio => kept ratio judged.phase, fun ratio => differ (.inl ratio)⟩
  case resolved => exact (frostStep_moves loaded differ.symm).1
  case clear =>
    have clear : (frostMove s).record.stage.bars = false := Stage.bars_clear clear
    obtain ⟨-, runner⟩ := frostStep_moves loaded differ.symm
    obtain ⟨logged, delivered, -⟩ := (Told.applyFrostMove_clear judged.thawEnd differ.symm clear).frostStep
    rw [judged.f] at logged
    exact ⟨runner.trans (if_neg (by rw [clear]; exact Bool.false_ne_true)), logged.wrote (by simp), delivered⟩
  case barred =>
    have bars : (frostMove s).record.stage.bars = true := Stage.bars_barred barred
    obtain ⟨-, runner⟩ := frostStep_moves loaded differ.symm
    obtain ⟨logged, delivered, -⟩ :=
      (Told.applyFrostMove_barred judged.thawEnd differ.symm bars judged.lockout).frostStep
    rw [judged.f] at logged
    exact ⟨runner.trans (if_pos bars), logged.wrote (length_endBodies_cons ..), delivered⟩
  case frame => exact (frostStep_frame s).trans (by rw [frostStep_frost])

end Sys2Proof
end

section
/-! PROOFS. A frost step into BLIND, within it and out of it (R74, R87 to R89). -/

namespace Sys2Proof.Machine

section
variable {s : State} {t : Settings} {u : FrostRecord} {oda : Option Int}

/-! ### The rules of BLIND -/

theorem blindCold_iff (p : ProbeRecord) : blindCold p.healthy? = true ↔ ∀ v, p.status = .good v → v < -30 := by
  unfold blindCold ProbeRecord.healthy?
  cases p.status with
  | good v => simp
  | noValue | faulted => exact iff_of_true rfl fun _ => ProbeStatus.noConfusion

theorem enterBlind_thaw (thaw : u.stage = .thaw) :
    enterBlind t u oda =
      { record :=
          { u with
            stage := .blind, gap := 0, blindPhase := some .thaw
            blindCount := max 1 (t.nat .thawMax * 6 - u.elapsed) }
        thawEnd := some { outcome := .interrupted, seconds := u.elapsed * 10 } } := if_pos thaw

theorem enterBlind_other (other : u.stage ≠ .thaw) :
    enterBlind t u oda =
      { u with stage := .blind, blindPhase := some .run, blindCount := 300, r := blindRatio t oda }.move := if_neg other

theorem enterBlind_keeps (t : Settings) (u : FrostRecord) (oda : Option Int) :
    (enterBlind t u oda).record.stage = .blind ∧ (enterBlind t u oda).record.f = u.f ∧
      (enterBlind t u oda).record.failures = u.failures := by
  unfold enterBlind
  split <;> exact ⟨rfl, rfl, rfl⟩

/-- The ratio of a RUN step does not pass its ceiling (R88). -/
theorem blindRatio_capped :
    min (blindRatio t oda) (t.nat .maxUnbalance) = if blindCold oda then t.nat .maxUnbalance else 0 := by
  unfold blindRatio
  split
  next => exact Nat.min_self _
  next => exact Nat.zero_min _

theorem blindStep_run (phase : u.blindPhase = some .run) (going : 1 < u.blindCount) :
    blindStep t u oda = { u with blindPhase := some .run, blindCount := u.blindCount - 1, r := blindRatio t oda } := by
  unfold blindStep
  rw [if_neg (by omega), phase]

theorem blindStep_thaw (phase : u.blindPhase = some .thaw) (going : 1 < u.blindCount) :
    blindStep t u oda = { u with blindPhase := some .thaw, blindCount := u.blindCount - 1 } := by
  unfold blindStep
  rw [if_neg (by omega), phase]

theorem blindStep_turns (due : u.blindCount ≤ 1) : blindStep t u oda = blindTurn t u oda := if_pos due

theorem blindTurn_cold (phase : u.blindPhase = some .run) (cold : blindCold oda = true) :
    blindTurn t u oda = { u with blindPhase := some .thaw, blindCount := 60 } := by
  unfold blindTurn
  rw [phase]
  exact if_pos cold

theorem blindTurn_mild (phase : u.blindPhase = some .run) (mild : blindCold oda = false) :
    blindTurn t u oda = { u with blindPhase := some .run, blindCount := 300, r := 0 } := by
  unfold blindTurn
  rw [phase]
  exact if_neg (by rw [mild]; exact Bool.false_ne_true)

theorem blindTurn_thaw (phase : u.blindPhase = some .thaw) :
    blindTurn t u oda = { u with blindPhase := some .run, blindCount := 300, r := blindRatio t oda } := by
  unfold blindTurn
  rw [phase]

theorem blindStep_stage : (blindStep t u oda).stage = u.stage := by
  unfold blindStep blindTurn
  (repeat' split) <;> rfl

/-! ### The move of a frost step -/

theorem frostMove_entersBlind (gone : (s.frost.probes.get .eha).healthy? = none) (lockout : s.frost.record.stage ≠ .lockout)
    (blind : s.frost.record.stage ≠ .blind) :
    frostMove s = enterBlind s.settings s.frost.record.countGap (s.frost.probes.get .oda).healthy? := by
  rw [frostMove, frostUpdated_unhealthy gone, gone]
  have stage : s.frost.record.countGap.stage = s.frost.record.stage := rfl
  unfold judgeStage
  rw [stage]
  cases here : s.frost.record.stage with
  | lockout => exact absurd here lockout
  | blind => exact absurd here blind
  | normal | watch | preheat | unbalance | thaw => rfl

theorem frostMove_staysBlind (gone : (s.frost.probes.get .eha).healthy? = none) (blind : s.frost.record.stage = .blind) :
    frostMove s = (blindStep s.settings s.frost.record.countGap (s.frost.probes.get .oda).healthy?).move := by
  have stage : s.frost.record.countGap.stage = .blind := blind
  rw [frostMove, frostUpdated_unhealthy gone, gone]
  unfold judgeStage
  rw [stage]

theorem frostMove_leavesBlind {v : Int} (good : (s.frost.probes.get .eha).status = .good v)
    (blind : s.frost.record.stage = .blind) : frostMove s = (leaveBlind s.settings (frostUpdated s)).move := by
  have stage : (frostUpdated s).stage = .blind := blind
  rw [frostMove, healthy_of_good good]
  unfold judgeStage
  rw [stage]

end

end Sys2Proof.Machine

namespace Sys2Proof

open Machine

/-- Settles O34: entry to BLIND and its leaving are moves that change the stage, and a step of its schedule is one that
keeps it. -/
theorem blindIsEnteredAndLeft : Obligations.BlindIsEnteredAndLeft := by
  rintro s g cold ceiling rfl loaded isCold rfl
  have judgedCold : blindCold (s.frost.probes.get .oda).healthy? = cold := by
    rw [Bool.eq_iff_iff, blindCold_iff, isCold]
  refine ⟨fun gone lockout blind => ?enters, fun gone blind => ?schedule, fun v good blind => ?leaves⟩
  case enters =>
    have move := frostMove_entersBlind (healthy_of_notGood gone) lockout blind
    obtain ⟨stage, f, failures⟩ := enterBlind_keeps s.settings s.frost.record.countGap (s.frost.probes.get .oda).healthy?
    rw [← move] at stage f failures
    have differ : s.frost.record.stage ≠ (frostMove s).record.stage := by rw [stage]; exact blind
    obtain ⟨resolved, runner⟩ := frostStep_moves loaded differ
    have ratio := frostDriven_r_level (s := s) (by rw [stage]; exact Stage.noConfusion)
    have told : Told s (frostStep s)
        ((if s.frost.record.stage = .thaw then [.thaw .interrupted (s.frost.record.elapsed * 10)] else [])
          ++ .frostStage s.frost.record.stage .blind s.frost.record.f :: endBodies s.runner.procedure .abortedFrost)
        (fun l k => byMap s [.frostStage] l k || endGiven s .abortedFrost l k) := by
      have moved := (Told.applyFrostMove s (frostMove s) differ).frostStep
      rw [stage, f] at moved
      by_cases thaw : s.frost.record.stage = .thaw
      · have ends := congrArg FrostMove.thawEnd (move.trans (enterBlind_thaw (u := s.frost.record.countGap) thaw))
        exact moved.mono (by rw [ends, if_pos thaw]; rfl) fun l k _ => by rw [ends]; rfl
      · have ends := congrArg FrostMove.thawEnd (move.trans (enterBlind_other (u := s.frost.record.countGap) thaw))
        exact moved.mono (by rw [ends, if_neg thaw]; rfl) fun l k _ => by rw [ends]; rfl
    obtain ⟨logged, delivered, -⟩ := told
    refine ⟨_, exec_frostStep loaded, ?_⟩
    rw [frostStep_frost]
    refine ⟨stage, f, failures, fun thaw => ?thaw, fun other => ?other, fun l => ?quiet, logged.wrote ?few, delivered, ?runner,
      resolved, (frostStep_frame s).trans (by rw [frostStep_frost])⟩
    case thaw =>
      rw [move, enterBlind_thaw (u := s.frost.record.countGap) thaw] at ratio
      rw [frostDriven_eq, ratio, move, enterBlind_thaw (u := s.frost.record.countGap) thaw]
      exact ⟨rfl, rfl, rfl, rfl⟩
    case other =>
      rw [move, enterBlind_other (u := s.frost.record.countGap) other] at ratio
      rw [frostDriven_eq, ratio, move, enterBlind_other (u := s.frost.record.countGap) other, ← judgedCold]
      exact ⟨rfl, rfl, blindRatio_capped⟩
    case quiet =>
      have silent : endGiven s .abortedFrost l .thawEnd = false := by unfold endGiven; split <;> rfl
      rw [(delivered l).2 _ EventKind.noConfusion]
      simp [byMap, silent]
    case few =>
      have one := endBodies_length s.runner.procedure .abortedFrost
      rw [List.length_append, List.length_cons]
      split
      next => simp only [List.length_cons, List.length_nil]; omega
      next => simp only [List.length_nil]; omega
    case runner => rw [runner, stage]; rfl
  case schedule =>
    have move := frostMove_staysBlind (healthy_of_notGood gone) blind
    have same : (frostMove s).record.stage = s.frost.record.stage := by rw [move]; exact blindStep_stage
    obtain ⟨runner, links, log, kept, changed⟩ := frostStep_still loaded same (by rw [move]; rfl)
    refine ⟨_, exec_frostStep loaded, ?rule, ?frame⟩
    case frame =>
      refine (frostStep_frame s).trans ?_
      rw [runner, links, log]
    case rule =>
      intro phase here next count ratio going turns mild thawing ended
      obtain ⟨r, step, capped⟩ : ∃ r, blindStep s.settings s.frost.record.countGap (s.frost.probes.get .oda).healthy? =
          { s.frost.record.countGap with blindPhase := some next, blindCount := count, r := r } ∧
          min r (s.settings.nat .maxUnbalance) = ratio := by
        have phased : s.frost.record.countGap.blindPhase = some phase := here
        have capped := blindRatio_capped (t := s.settings) (oda := (s.frost.probes.get .oda).healthy?)
        rw [judgedCold] at capped
        by_cases goes : 1 < s.frost.record.blindCount
        · cases phase with
          | run => obtain ⟨rfl, rfl, rfl⟩ := going rfl goes; exact ⟨_, blindStep_run phased goes, capped⟩
          | thaw => obtain ⟨rfl, rfl, rfl⟩ := thawing rfl goes; exact ⟨_, blindStep_thaw phased goes, rfl⟩
        · have due : s.frost.record.blindCount ≤ 1 := by omega
          rw [blindStep_turns (u := s.frost.record.countGap) due]
          cases phase with
          | run =>
            cases cold with
            | true => obtain ⟨rfl, rfl, rfl⟩ := turns rfl due rfl; exact ⟨_, blindTurn_cold phased judgedCold, rfl⟩
            | false => obtain ⟨rfl, rfl, rfl⟩ := mild rfl due rfl; exact ⟨_, blindTurn_mild phased judgedCold, Nat.zero_min _⟩
          | thaw => obtain ⟨rfl, rfl, rfl⟩ := ended rfl due; exact ⟨_, blindTurn_thaw phased, capped⟩
      rw [step] at move
      have staged : s.frost.record.countGap.stage = .blind := blind
      have record := frostDriven_level move (by show s.frost.record.countGap.stage ≠ _; rw [staged]; decide)
        (by show s.frost.record.countGap.stage ≠ _; rw [staged]; decide)
      have left : (frostDriven s).r = ratio := by rw [record]; exact capped
      have passed : (frostDriven s).blindPhase = some next := by rw [record]; rfl
      rw [frostStep_frost]
      refine ⟨?_, fun phases ratios => ?_, fun differ => ?_⟩
      · show frostDriven s = _
        rw [record, ← capped]
        rfl
      · exact kept (by rw [left, ratios]) (by rw [passed, here, phases])
      · refine changed ?_
        rw [left, passed, here]
        exact differ.symm.imp_right fun h k => h (Option.some.inj k)
  case leaves =>
    have move := frostMove_leavesBlind good blind
    have stage : (frostMove s).record.stage = .watch := by rw [move]; rfl
    have differ : s.frost.record.stage ≠ (frostMove s).record.stage := by rw [stage, blind]; exact Stage.noConfusion
    obtain ⟨resolved, runner⟩ := frostStep_moves loaded differ
    obtain ⟨logged, delivered, -⟩ :=
      (Told.applyFrostMove_clear (by rw [move]; rfl) differ (by rw [stage]; rfl)).frostStep
    have level := frostDriven_r_level (s := s) (by rw [stage]; exact Stage.noConfusion)
    rw [stage] at runner
    refine ⟨_, exec_frostStep loaded, ?_⟩
    rw [frostStep_frost]
    refine ⟨stage, by rw [frostDriven_eq, move]; rfl, ?_, by rw [frostDriven_eq, move]; rfl,
      by rw [frostDriven_eq, move]; rfl, ?_, delivered, resolved, ?_⟩
    · rw [level, move]; exact Nat.zero_min _
    · rw [blind, stage, move] at logged
      exact logged.wrote (by simp)
    · refine (frostStep_frame s).trans ?_
      rw [frostStep_frost, runner]
      rfl

end Sys2Proof
end

section
/-! PROOFS. The ends of a THAW, the release of LOCKOUT and the counts that cross their ends between frost steps (R78 to
R81, R83, R88). -/

namespace Sys2Proof.Machine

/-! ### A move between frost steps (R74) -/

section
variable {s : State} {m : FrostMove}

theorem takeFrostMove_links (s : State) (m : FrostMove) : (takeFrostMove s m).links = (applyFrostMove s m).links := by
  unfold takeFrostMove
  dsimp only
  split <;> rfl

theorem takeFrostMove_log (s : State) (m : FrostMove) : (takeFrostMove s m).log = (applyFrostMove s m).log := by
  unfold takeFrostMove
  dsimp only
  split <;> rfl

theorem takeFrostMove_runner (s : State) (m : FrostMove) : (takeFrostMove s m).runner = (applyFrostMove s m).runner := by
  unfold takeFrostMove
  dsimp only
  split <;> rfl

theorem takeFrostMove_frame (s : State) (m : FrostMove) :
    takeFrostMove s m =
      { s with
        frost := { s.frost with record := m.record }, op := (takeFrostMove s m).op, damper := (takeFrostMove s m).damper
        runner := (takeFrostMove s m).runner, links := (takeFrostMove s m).links, log := (takeFrostMove s m).log } := by
  apply State.eq_of_fields <;> simp [takeFrostMove_frost]

theorem Told.takeFrostMove {bs : List LogBody} {g : Link → EventKind → Bool}
    (h : Told s (Machine.applyFrostMove s m) bs g) : Told s (Machine.takeFrostMove s m) bs g :=
  h.congr rfl rfl rfl rfl (takeFrostMove_log s m) (takeFrostMove_links s m) (by simp) (by simp)

theorem takeFrostMove_moves (differ : s.frost.record.stage ≠ m.record.stage) :
    (s.isLoading = false → Resolved (takeFrostMove s m)) ∧
      (takeFrostMove s m).runner =
        if m.record.stage.bars then endedRunner s .abortedFrost ⟨none, none⟩ else s.runner := by
  refine ⟨fun loaded => ?_, ?_⟩
  · rw [takeFrostMove_notice s m differ]
    exact .notice _ ((isLoading_congr (by simp)).trans loaded)
  · rw [takeFrostMove_runner, applyFrostMove_runner s m differ]

/-- A move that keeps the stage and ends no THAW tells no one but the resolver. -/
theorem takeFrostMove_still (same : m.record.stage = s.frost.record.stage) (thawing : m.thawEnd = none) :
    (takeFrostMove s m).runner = s.runner ∧ (takeFrostMove s m).links = s.links ∧ (takeFrostMove s m).log = s.log := by
  rw [takeFrostMove_runner, takeFrostMove_links, takeFrostMove_log, applyFrostMove_still s m same.symm thawing]
  exact ⟨rfl, rfl, rfl⟩

end

/-! ### The end of a THAW (R78, R79) -/

/-- A move that ends a THAW with an outcome judged on the counts: what it leaves of the record `u`, at T_eha `v`. -/
structure FrostMove.EndsThaw (t : Settings) (u : FrostRecord) (v : Int) (o : ThawOutcome) (m : FrostMove) : Prop where
  thawEnd : m.thawEnd = some { outcome := o, seconds := (u.elapsed + 1) * 10 }
  judged : o ≠ .interrupted
  stage : m.record.stage = if o = .timeout ∧ 2 ≤ u.failures then .lockout else .unbalance
  f : m.record.f = if o = .success then t.thresholds.unbalanceExit else t.thresholds.unbalanceOn
  gap : m.record.gap = 0
  failures : m.record.failures = if o = .success then 0 else u.failures + 1
  r : m.record.r = u.r
  elapsed : m.record.elapsed = u.elapsed + 1
  success : m.record.success = if t.get .thawEnd ≤ v then u.success + 1 else 0

section
variable {s : State} {t : Settings} {u : FrostRecord} {v : Int} {o : ThawOutcome} {m : FrostMove}

theorem thawSucceeds_ends : FrostMove.EndsThaw t u v .success (thawSucceeds t (u.countThaw t v)) where
  thawEnd := rfl
  judged := ThawOutcome.noConfusion
  stage := rfl
  f := rfl
  gap := rfl
  failures := rfl
  r := rfl
  elapsed := rfl
  success := rfl

theorem thawTimesOut_ends : FrostMove.EndsThaw t u v .timeout (thawTimesOut t (u.countThaw t v)) where
  thawEnd := rfl
  judged := ThawOutcome.noConfusion
  stage := by
    show (if 3 ≤ u.failures + 1 then Stage.lockout else .unbalance) = _
    refine ite_congr (propext ?_) (fun _ => rfl) fun _ => rfl
    simp only [true_and]
    omega
  f := rfl
  gap := rfl
  failures := rfl
  r := by
    show (if (if 3 ≤ u.failures + 1 then Stage.lockout else .unbalance) = .normal ∨
      (if 3 ≤ u.failures + 1 then Stage.lockout else .unbalance) = .watch then 0 else u.r) = u.r
    rw [if_neg (by split <;> decide)]
  elapsed := rfl
  success := rfl

theorem FrostMove.EndsThaw.bars (ends : FrostMove.EndsThaw t u v o m) : m.record.stage.bars = true := by
  rw [ends.stage]
  split <;> rfl

theorem FrostMove.EndsThaw.differ (ends : FrostMove.EndsThaw t u v o m) (thaw : s.frost.record.stage = .thaw) :
    s.frost.record.stage ≠ m.record.stage := by
  rw [ends.stage, thaw]
  split <;> exact Stage.noConfusion

/-- THAW judged on its counts (R78): which outcome ends it, and what it goes on with. -/
theorem judgeThaw_ends {warm : Nat} {ends : Option ThawOutcome}
    (hwarm : warm = if t.get .thawEnd ≤ v then u.success + 1 else 0)
    (hends : ends = if 18 ≤ warm then some .success
      else if t.nat .thawMax * 6 ≤ u.elapsed + 1 then some .timeout else none) :
    (∀ o, ends = some o → FrostMove.EndsThaw t u v o (judgeThaw t u v)) ∧
      (ends = none → judgeThaw t u v = { u with elapsed := u.elapsed + 1, success := warm }.move) := by
  have counted : (u.countThaw t v).success = warm := hwarm.symm
  unfold judgeThaw
  dsimp only
  rw [counted]
  by_cases warmed : 18 ≤ warm
  · rw [if_pos warmed] at hends ⊢
    subst hends
    exact ⟨fun o h => Option.some.inj h ▸ thawSucceeds_ends, nofun⟩
  rw [if_neg warmed] at hends ⊢
  by_cases late : t.nat .thawMax * 6 ≤ u.elapsed + 1
  · rw [if_pos late] at hends
    have late : t.nat .thawMax * 6 ≤ (u.countThaw t v).elapsed := late
    rw [if_pos late]
    subst hends
    exact ⟨fun o h => Option.some.inj h ▸ thawTimesOut_ends, nofun⟩
  · rw [if_neg late] at hends
    have late : ¬t.nat .thawMax * 6 ≤ (u.countThaw t v).elapsed := late
    rw [if_neg late, hwarm]
    subst hends
    exact ⟨nofun, fun _ => rfl⟩

/-- The end of a THAW raises THAW_END and FROST_STAGE, and FROST_LOCKOUT on entry to LOCKOUT (R74, R79). -/
theorem FrostMove.EndsThaw.told (ends : FrostMove.EndsThaw t u v o m) (thaw : s.frost.record.stage = .thaw) :
    Told s (applyFrostMove s m)
      ([.thaw o ((u.elapsed + 1) * 10), .frostStage .thaw m.record.stage m.record.f]
        ++ endBodies s.runner.procedure .abortedFrost)
      (fun l k =>
        byMap s (if m.record.stage = .lockout then [.thawEnd, .frostStage, .frostLockout] else [.thawEnd, .frostStage]) l k
          || endGiven s .abortedFrost l k) := by
  have moved := Told.applyFrostMove s m (ends.differ thaw)
  rw [thaw] at moved
  refine moved.mono ?_ fun l k _ => ?_
  · rw [ends.thawEnd, ends.bars]
    rfl
  · rw [ends.thawEnd, ends.bars, Bool.true_and]
    dsimp only
    rw [if_neg ends.judged]
    split <;> rfl

end

end Sys2Proof.Machine

namespace Sys2Proof

open Machine

/-- Settles O35: the same two moves end a THAW between frost steps and at one, and a THAW that goes on is a step that keeps
the stage. -/
theorem thawEndsInSuccessOrTimeout : Obligations.ThawEndsInSuccessOrTimeout := by
  refine ⟨?success, ?timeout, ?step⟩
  case success =>
    rintro s g v rfl thaw good warm due
    have ends : FrostMove.EndsThaw s.settings s.frost.record v .success _ := thawSucceeds_ends
    have counted : (s.frost.record.countThaw s.settings v).success = s.frost.record.success + 1 := if_pos warm
    have row : exec .thawSuccess s =
        .next (takeFrostMove s (thawSucceeds s.settings (s.frost.record.countThaw s.settings v))) := by
      show execThawSuccess s = _
      rw [execThawSuccess, healthy_of_good good]
      exact congrArg Host.Outcome.next (if_pos ⟨thaw, by omega⟩)
    obtain ⟨resolved, runner⟩ := takeFrostMove_moves (ends.differ thaw)
    obtain ⟨logged, delivered, -⟩ := (ends.told thaw).takeFrostMove
    refine ⟨_, row, ?_, runner.trans (if_pos ends.bars), ?_, delivered, resolved, ?_⟩
    · rw [takeFrostMove_frost, ← counted]
      rfl
    · exact logged.wrote (length_endBodies_append _ _ _ (by simp))
    · refine (takeFrostMove_frame ..).trans ?_
      rw [takeFrostMove_frost]
  case timeout =>
    rintro s g v rfl thaw good short due
    have ends : FrostMove.EndsThaw s.settings s.frost.record v .timeout _ := thawTimesOut_ends
    have counted : ¬18 ≤ (s.frost.record.countThaw s.settings v).success := by
      show ¬18 ≤ if s.settings.get .thawEnd ≤ v then s.frost.record.success + 1 else 0
      split <;> omega
    have row : exec .thawTimeout s =
        .next (takeFrostMove s (thawTimesOut s.settings (s.frost.record.countThaw s.settings v))) := by
      show execThawTimeout s = _
      rw [execThawTimeout, healthy_of_good good]
      exact congrArg Host.Outcome.next (if_pos ⟨thaw, counted, due⟩)
    have stage := ends.stage
    simp only [true_and] at stage
    obtain ⟨resolved, runner⟩ := takeFrostMove_moves (ends.differ thaw)
    obtain ⟨logged, delivered, -⟩ := (ends.told thaw).takeFrostMove
    rw [ends.f] at logged
    refine ⟨_, row, ?_⟩
    rw [takeFrostMove_frost, ← stage]
    refine ⟨rfl, ends.f, ends.failures, ends.gap, ends.r, logged.wrote (length_endBodies_append _ _ _ (by simp)),
      delivered.mono fun l k _ => ?lockout, resolved, ?frame⟩
    case lockout =>
      have out : (thawTimesOut s.settings (s.frost.record.countThaw s.settings v)).record.stage = .lockout ↔
          2 ≤ s.frost.record.failures := by
        rw [stage]
        split <;> simp [*]
      simp only [out]
    case frame =>
      refine (takeFrostMove_frame ..).trans ?_
      rw [runner, if_pos ends.bars]
  case step =>
    rintro s g v warm ends stage rfl thaw loaded good hwarm hends hstage
    obtain ⟨-, -, -, -, judges⟩ := frostMove_judges good
    have move := judges thaw
    have index : (frostUpdated s).f = indexAfter s v :=
      frostUpdated_f good (by rw [thaw]; decide) (by rw [thaw]; decide)
    obtain ⟨ended, going⟩ := judgeThaw_ends (t := s.settings) (u := frostUpdated s) (v := v) hwarm hends
    rw [← move] at ended going
    have known : (frostMove s).record.stage = stage := by
      cases ends with
      | none => rw [going rfl, hstage]; exact thaw
      | some o =>
        rw [(ended o rfl).stage, hstage]
        have said := (ended o rfl).judged
        cases o with
        | success => rfl
        | timeout => exact ite_congr (propext ⟨And.right, fun h => ⟨rfl, h⟩⟩) (fun _ => rfl) fun _ => rfl
        | interrupted => exact absurd rfl said
    refine ⟨_, exec_frostStep loaded, ?_⟩
    rw [frostStep_frost]
    refine ⟨known, ?elapsed, ?warm, fun none => ?going, fun o some => ?ended, rfl, rfl, rfl,
      (frostStep_frame s).trans (by rw [frostStep_frost])⟩
    case elapsed =>
      show (frostMove s).record.elapsed = _
      cases ends with
      | none => rw [going rfl]; rfl
      | some o => exact (ended o rfl).elapsed
    case warm =>
      show (frostMove s).record.success = _
      cases ends with
      | none => rw [going rfl]; rfl
      | some o => exact (ended o rfl).success.trans hwarm.symm
    case going =>
      have move := going none
      have same : (frostMove s).record.stage = s.frost.record.stage := by rw [move]; rfl
      have thawing : (frostUpdated s).stage = .thaw := thaw
      have record := frostDriven_level move (by show (frostUpdated s).stage ≠ _; rw [thawing]; decide)
        (by show (frostUpdated s).stage ≠ _; rw [thawing]; decide)
      obtain ⟨runner, links, log, kept, -⟩ := frostStep_still loaded same (by rw [move]; rfl)
      refine ⟨?_, runner, links, log, fun ratio => kept ratio (by rw [record]; rfl)⟩
      show frostDriven s = _
      rw [record, ← index]
      rfl
    case ended =>
      have ended := ended o some
      have differ := ended.differ thaw
      obtain ⟨resolved, runner⟩ := frostStep_moves loaded differ
      obtain ⟨logged, delivered, -⟩ := (ended.told thaw).frostStep
      rw [known] at logged delivered
      refine ⟨ended.gap, ended.f, ended.failures, ?ratio, runner.trans (if_pos ended.bars),
        logged.wrote (length_endBodies_append _ _ _ (by simp)), delivered, resolved⟩
      case ratio =>
        show (frostDriven s).r = _
        rw [frostDriven_r, known, rampRatio, ended.r]
        rfl

end Sys2Proof
end

section
/-! PROOFS. The counts of the frost guard at their ends (R80, R81, R83, R88), and LOCKOUT at a frost step (R81). -/

namespace Sys2Proof.Machine

section
variable {s : State} {t : Settings} {u : FrostRecord}

/-- A step counts towards release from LOCKOUT where T_oda is healthy and warm enough (R81). -/
theorem lockoutWarm_iff (p : ProbeRecord) :
    lockoutWarm t p.healthy? = true ↔ ∃ v, p.status = .good v ∧ t.get .lockoutRelease ≤ v := by
  unfold lockoutWarm ProbeRecord.healthy?
  cases p.status with
  | good v => simp
  | noValue | faulted => simp

theorem frostMove_lockout (lockout : s.frost.record.stage = .lockout) :
    frostMove s = judgeLockout s.settings (frostUpdated s) (s.frost.probes.get .oda).healthy? := by
  have stage : (frostUpdated s).stage = .lockout := lockout
  unfold frostMove judgeStage
  rw [stage]

/-- LOCKOUT judged (R81): released at the 360th warm step, and else counted on or from 0 again. -/
theorem judgeLockout_release {oda : Option Int} (warm : lockoutWarm t oda = true) (last : 359 ≤ u.warmth) :
    judgeLockout t u oda = u.release.move := by
  unfold judgeLockout
  rw [if_pos warm, if_pos (Nat.succ_le_succ last)]

theorem judgeLockout_counts {oda : Option Int} (short : ¬(lockoutWarm t oda = true ∧ 359 ≤ u.warmth)) :
    judgeLockout t u oda = { u with warmth := if lockoutWarm t oda then u.warmth + 1 else 0 }.move := by
  unfold judgeLockout
  split
  next warm =>
    rw [if_neg fun last => short ⟨warm, Nat.le_of_succ_le_succ last⟩]
  next => rfl

/-! ### The rows at their moments -/

theorem exec_thawGapElapsed (short : s.frost.record.gap < s.settings.nat .thawGap * 6)
    (due : s.settings.nat .thawGap * 6 ≤ min (s.frost.record.gap + 1) 720) :
    exec .thawGapElapsed s = .next (setFrost s s.frost.record.countGap) :=
  congrArg Host.Outcome.next (if_pos ⟨decide_eq_false (Nat.not_le.mpr short), decide_eq_true due⟩)

theorem exec_lockoutRelease (lockout : s.frost.record.stage = .lockout) (last : 359 ≤ s.frost.record.warmth)
    (warm : lockoutWarm s.settings (s.frost.probes.get .oda).healthy? = true) :
    exec .lockoutRelease s = .next (takeFrostMove s s.frost.record.release.move) :=
  congrArg Host.Outcome.next (if_pos ⟨lockout, Nat.succ_le_succ last, warm⟩)

theorem exec_blindPhaseEnd (blind : s.frost.record.stage = .blind) (last : s.frost.record.blindCount = 1)
    (gone : (s.frost.probes.get .eha).healthy? = none) :
    exec .blindPhaseEnd s =
      .next (takeFrostMove s (blindTurn s.settings s.frost.record (s.frost.probes.get .oda).healthy?).move) :=
  congrArg Host.Outcome.next (if_pos ⟨blind, last, gone⟩)

theorem blindTurn_stage {oda : Option Int} : (blindTurn t u oda).stage = u.stage := by
  unfold blindTurn
  (repeat' split) <;> rfl

end

end Sys2Proof.Machine

namespace Sys2Proof

open Machine

/-- Settles O36: each count's row carries out the move that a frost step would, and LOCKOUT at a frost step counts or is
released. -/
theorem frostCountsReachTheirEnds : Obligations.FrostCountsReachTheirEnds := by
  rintro s g rfl
  refine ⟨fun low short due => ?gap, fun v lockout last good warm => ?release, fun blind last gone => ?blind,
    fun short => ?burst, fun warm f loaded lockout hwarm hgood hgone => ?step⟩
  case gap =>
    have counted : min (s.frost.record.gap + 1) 720 = s.frost.record.gap + 1 := Nat.min_eq_left low
    rw [exec_thawGapElapsed short (by rw [counted]; exact due), setFrost, FrostRecord.countGap, counted]
  case release =>
    have warm := (lockoutWarm_iff (t := s.settings) (s.frost.probes.get .oda)).mpr ⟨v, good, warm⟩
    have differ : s.frost.record.stage ≠ s.frost.record.release.move.record.stage := by
      rw [lockout]; exact Stage.noConfusion
    obtain ⟨resolved, runner⟩ := takeFrostMove_moves differ
    obtain ⟨logged, delivered, -⟩ := (Told.applyFrostMove_clear rfl differ rfl).takeFrostMove
    refine ⟨_, exec_lockoutRelease lockout last warm, takeFrostMove_frost .., ?_, delivered, resolved, ?_⟩
    · rw [lockout] at logged
      exact logged.wrote (by simp)
    · refine (takeFrostMove_frame ..).trans ?_
      rw [runner, takeFrostMove_frost]
      rfl
  case blind =>
    obtain ⟨runner, links, log⟩ := takeFrostMove_still (s := s)
      (m := (blindTurn s.settings s.frost.record (s.frost.probes.get .oda).healthy?).move) blindTurn_stage rfl
    refine ⟨_, exec_blindPhaseEnd blind last (healthy_of_notGood gone), fun cold isCold => ?_, ?_⟩
    · rw [← blindCold_iff] at isCold
      have turned : (takeFrostMove s (blindTurn s.settings s.frost.record
          (s.frost.probes.get .oda).healthy?).move).frost.record = blindTurn s.settings s.frost.record
          (s.frost.probes.get .oda).healthy? := congrArg FrostGuard.record (takeFrostMove_frost ..)
      refine ⟨fun phase cold => ?_, fun phase mild => ?_, fun phase cold => ?_, fun phase mild => ?_⟩
      · exact turned.trans (blindTurn_cold phase (isCold.mp cold))
      · exact turned.trans (blindTurn_mild phase (by rw [← Bool.not_eq_true, ← isCold]; exact mild))
      · rw [turned, blindTurn_thaw phase, blindRatio, if_pos (isCold.mp cold)]
      · rw [turned, blindTurn_thaw phase, blindRatio, if_neg fun cold => mild (isCold.mpr cold)]
    · refine (takeFrostMove_frame ..).trans ?_
      rw [runner, links, log, takeFrostMove_frost]
  case burst =>
    show execPreheaterBurstOff s = _
    rw [execPreheaterBurstOff, decide_eq_false (Nat.not_le.mpr short), Bool.and_false]
  case step =>
    have warms : lockoutWarm s.settings (s.frost.probes.get .oda).healthy? = warm := by
      rw [Bool.eq_iff_iff, lockoutWarm_iff, hwarm]
    have index : (frostUpdated s).f = f := by
      cases status : (s.frost.probes.get .eha).status with
      | good v =>
        rw [hgood v status]
        exact frostUpdated_f status (by rw [lockout]; decide) (by rw [lockout]; decide)
      | noValue | faulted =>
        have gone (v : Int) : (s.frost.probes.get .eha).status ≠ .good v := by rw [status]; exact ProbeStatus.noConfusion
        rw [frostUpdated_unhealthy (healthy_of_notGood gone), hgone gone]
        rfl
    have move := frostMove_lockout lockout
    by_cases released : warm = true ∧ 359 ≤ s.frost.record.warmth
    case pos =>
      obtain ⟨warmed, last⟩ := released
      have move := move.trans (judgeLockout_release (warms.trans warmed) last)
      have stage : (frostMove s).record.stage = .normal := by rw [move]; rfl
      have differ : s.frost.record.stage ≠ (frostMove s).record.stage := by rw [stage, lockout]; exact Stage.noConfusion
      have record := frostDriven_level move Stage.noConfusion Stage.noConfusion
      obtain ⟨resolved, runner⟩ := frostStep_moves loaded differ
      obtain ⟨logged, delivered, -⟩ :=
        (Told.applyFrostMove_clear (by rw [move]; rfl) differ (by rw [stage]; rfl)).frostStep
      rw [stage] at runner
      rw [stage, lockout, move] at logged
      refine ⟨_, exec_frostStep loaded, fun _ _ => ⟨?_, logged.wrote (by simp), delivered, resolved⟩,
        fun short => absurd ⟨warmed, last⟩ short, ?_⟩
      · rw [frostStep_frost]
        show frostDriven s = _
        have flat : min (frostUpdated s).release.move.record.r (s.settings.nat .maxUnbalance) = 0 := Nat.zero_min _
        rw [record, flat]
        rfl
      · refine (frostStep_frame s).trans ?_
        rw [runner]
        rfl
    case neg =>
      have move := move.trans (judgeLockout_counts (u := frostUpdated s) (by rw [warms]; exact released))
      rw [warms] at move
      have stage : (frostUpdated s).stage = .lockout := lockout
      have record := frostDriven_level move (by show (frostUpdated s).stage ≠ _; rw [stage]; decide)
        (by show (frostUpdated s).stage ≠ _; rw [stage]; decide)
      obtain ⟨runner, links, log, kept, -⟩ := frostStep_still loaded (by rw [move]; rfl) (by rw [move]; rfl)
      refine ⟨_, exec_frostStep loaded, fun warmed last => absurd ⟨warmed, last⟩ released,
        fun _ => ⟨?_, links, log, fun ratio => kept ?_ (by rw [record]; rfl)⟩, ?_⟩
      · rw [frostStep_frost]
        show frostDriven s = _
        rw [record, ← index]
        rfl
      · rw [frostStep_frost] at ratio
        exact ratio
      · refine (frostStep_frame s).trans ?_
        rw [runner]

end Sys2Proof
end

section
/-! PROOFS. How a command that spells a request comes to its owner's answer (R157 to R159), and the clearing of what is
latched (R59, R82, R86). -/

namespace Sys2Proof.Machine

section
variable {c : Instr} {s : State} {l : Link} {tag : Byte} {r : Request}

/-! ### A command that spells a request -/

theorem exec_request (spells : requestOf c = some (l, tag, r)) (ready : Ready s l)
    (may : r.serviceClass = true → l = .service) : exec c s = .next (reply l tag r.kind (answer s l r)) := by
  rw [exec_eq, after_request spells, takeRequest_ready ready tag r may]

/-- A request answered without effect. -/
theorem exec_request_plain {code : ResultCode} (spells : requestOf c = some (l, tag, r)) (ready : Ready s l)
    (may : r.serviceClass = true → l = .service) (answers : answer s l r = .plain s code) :
    exec c s = .next (onlyReply s l tag r.kind code []) := by
  rw [exec_request spells ready may, answers, reply_plain]

/-- A reading request. -/
theorem exec_request_reads {p : List Byte} (spells : requestOf c = some (l, tag, r)) (ready : Ready s l)
    (may : r.serviceClass = true → l = .service) (answers : answer s l r = .ok s p) :
    exec c s = .next (onlyReply s l tag r.kind .ok p) := by
  rw [exec_request spells ready may, answers, reply_ok]

theorem exec_request_ok {t : State} {p : List Byte} (spells : requestOf c = some (l, tag, r)) (ready : Ready s l)
    (may : r.serviceClass = true → l = .service) (answers : answer s l r = .ok t p) :
    exec c s = .next (reply l tag r.kind (.ok t p)) := by rw [exec_request spells ready may, answers]

/-! ### What the reply leaves of the owner's effect (R158) -/

variable {kind : Byte} {a : Answer}

theorem Resolved.reply (h : Resolved a.state) : Resolved (Machine.reply l tag kind a) :=
  h.congr rfl rfl rfl rfl rfl rfl rfl rfl

theorem reply_ok_frame {t u : State} {p : List Byte} (same : t = u) :
    reply l tag kind (.ok t p) = { u with links := (reply l tag kind (.ok t p)).links } := same ▸ rfl

/-- A reply changes of its link's record the state, the frame and the reply, and so no pending set. -/
theorem reply_pending (l m : Link) (tag kind : Byte) (a : Answer) :
    ((reply l tag kind a).links.get m).pending = (a.state.links.get m).pending := by
  rw [reply_links]
  split
  next h => rw [h]
  next => rfl

end

end Sys2Proof.Machine

namespace Sys2Proof

open Machine

/-- Settles O37: each CLEAR is answered by the state of what it names, and its reply leaves what the owner did. -/
theorem clearReleasesWhatIsLatched : Obligations.ClearReleasesWhatIsLatched := by
  intro s tag f ready
  have fanAnswer : answer s .service (.clearFan f) = answerClearFan s f := rfl
  refine ⟨fun failed => ?failed, fun here => ?notNow, fun here => ?ignored, fun lockout => ?lockout, fun other => ?noLockout,
    fun latched => ?latched, fun sound => ?sound⟩
  case failed =>
    have answers : answer s .service (.clearFan f) = .ok (handFan s f (s.fans.get f).clear) [] := by
      rw [fanAnswer, answerClearFan, failed]
    have differ : (s.fans.get f).state ≠ (s.fans.get f).clear.state := by rw [failed]; exact FanState.noConfusion
    obtain ⟨logged, delivered⟩ := handFan_moves (y := (s.fans.get f).clear) rfl rfl differ
    have same : (handFan s f (s.fans.get f).clear).runner = s.runner :=
      (handFan_runner ..).trans (if_neg fun h => Bool.false_ne_true h.2)
    rw [failed] at logged delivered
    refine ⟨_, exec_request_ok rfl ready (fun _ => rfl) answers, ?_⟩
    have fans : (reply .service tag 0x0C#8 (.ok (handFan s f (s.fans.get f).clear) [])).fans =
        s.fans.set f (s.fans.get f).clear := handFan_fans ..
    refine ⟨?_, ?_, ?_, fun g other => ?_, Logged.wrote (bs := [.fan f .stopped]) logged (by simp), reply_replies ..,
      fun l mapped => ?_, (handFan_resolved s f _ differ ready.1).reply, ?_⟩
    · rw [Request.kind, fans, PerSide.get_set, if_pos rfl]; rfl
    · rw [Request.kind, fans, PerSide.get_set, if_pos rfl]; rfl
    · rw [Request.kind, fans, PerSide.get_set, if_pos rfl]; rfl
    · rw [Request.kind, fans, PerSide.get_set, if_neg other]
    · rw [reply_pending]
      exact (delivered.given l _ EventKind.noConfusion).trans (by simp [byMap, mapped, fanRaises, FanRecord.clear])
    · exact reply_ok_frame ((handFan_frame ..).trans (by rw [same]))
  case notNow =>
    refine exec_request_plain (c := .clearFan .service tag f) rfl ready (fun _ => rfl) ?_
    rcases here with h | h <;> rw [fanAnswer, answerClearFan, h]
  case ignored =>
    refine exec_request_plain (c := .clearFan .service tag f) rfl ready (fun _ => rfl) ?_
    rcases here with h | h | h <;> rw [fanAnswer, answerClearFan, h]
  case lockout =>
    have answers : answer s .service .clearFrostLockout =
        .ok (takeFrostMove s (s.frost.record.clearLockout s.settings).move) [] := if_pos lockout
    have differ : s.frost.record.stage ≠ (s.frost.record.clearLockout s.settings).move.record.stage := by
      rw [lockout]; exact Stage.noConfusion
    obtain ⟨resolved, runner⟩ := takeFrostMove_moves differ
    obtain ⟨logged, -⟩ := (Told.applyFrostMove_clear rfl differ rfl).takeFrostMove
    rw [lockout] at logged
    have frame : takeFrostMove s (s.frost.record.clearLockout s.settings).move =
        { s with
          frost := (takeFrostMove s (s.frost.record.clearLockout s.settings).move).frost
          op := (takeFrostMove s (s.frost.record.clearLockout s.settings).move).op
          damper := (takeFrostMove s (s.frost.record.clearLockout s.settings).move).damper
          links := (takeFrostMove s (s.frost.record.clearLockout s.settings).move).links
          log := (takeFrostMove s (s.frost.record.clearLockout s.settings).move).log } := by
      have runner := runner.trans (if_neg Bool.false_ne_true)
      apply State.eq_of_fields <;> simp [runner]
    refine ⟨_, exec_request_ok rfl ready (fun _ => rfl) answers, takeFrostMove_frost .., logged.wrote (by simp),
      reply_replies .., (resolved ready.1).reply, reply_ok_frame frame⟩
  case noLockout =>
    exact exec_request_plain (c := .clearFrostLockout .service tag) rfl ready (fun _ => rfl) (if_neg other)
  case latched =>
    have answers : answer s .service .clearPreheater =
        .ok (raise (setFrost s { s.frost.record with fault := false }) .preheaterFault) [] := if_pos latched
    refine ⟨_, exec_request_ok rfl ready (fun _ => rfl) answers, rfl, reply_replies .., fun l mapped => ?_, rfl⟩
    rw [reply_pending]
    refine ((Delivered.raise (setFrost s { s.frost.record with fault := false }) .preheaterFault rfl).given l _
      EventKind.noConfusion).trans ?_
    have same : (setFrost s { s.frost.record with fault := false }).settings = s.settings := rfl
    simp [byMap, same, mapped]
  case sound =>
    exact exec_request_plain (c := .clearPreheater .service tag) rfl ready (fun _ => rfl)
      (if_neg (by rw [sound]; exact Bool.false_ne_true))

end Sys2Proof
end

section
/-! PROOFS. The damper: its travel second, and the outcome of a recompute that it follows (R37 to R41). -/

namespace Sys2Proof.Machine

section
variable {d : Damper} {wanted : Bool}

/-! ### Travel (R41) -/

theorem Damper.travel_opening (h : d.state = .opening) (short : d.position < 89) :
    d.travel wanted = { d with position := d.position + 1 } := by
  rw [travel, h]
  exact if_neg (by omega)

theorem Damper.travel_opens (h : d.state = .opening) (due : 89 ≤ d.position) :
    d.travel wanted = { d with state := .opened, position := 90 } := by
  rw [travel, h]
  exact if_pos (by omega)

theorem Damper.travel_closing (h : d.state = .closing) (short : 1 < d.position) :
    d.travel wanted = { d with position := d.position - 1 } := by
  rw [travel, h]
  exact if_neg (by omega)

theorem Damper.travel_closes (h : d.state = .closing) (due : d.position ≤ 1) :
    d.travel wanted =
      { state := if d.homing = true ∧ wanted = true then .opening else .closed, position := 0, homing := false } := by
  rw [travel, h]
  simp only [Bool.and_eq_true]
  exact if_pos due

theorem Damper.travel_stands (h : d.state = .closed ∨ d.state = .opened) : d.travel wanted = d := by
  rw [travel]
  rcases h with h | h <;> rw [h]

theorem exec_travelSecond {s : State} {e : Damper} (h : s.damper.travel s.op.bypassOpen = e) :
    exec .travelSecond s = .next { s with damper := e } := h ▸ rfl

/-- At its end the row of the travel's end is the travel second itself. -/
theorem exec_damperTravelEnd {s : State} (due : s.damper.atEnd = true) :
    exec .damperTravelEnd s = exec .travelSecond s := by
  show Host.Outcome.next { s with damper := if s.damper.atEnd then s.damper.travel s.op.bypassOpen else s.damper } = _
  rw [if_pos due]
  rfl

/-! ### The outcome, and the damper that follows it (R37 to R40) -/

theorem ProbeRecord.healthy?_eq_some {p : ProbeRecord} {v : Int} : p.healthy? = some v ↔ p.status = .good v := by
  unfold healthy?
  cases p.status with
  | good w => simp
  | noValue | faulted => simp

/-- Stage 8 (R37, R38). -/
theorem decideBypass_iff {t : Settings} {es : List Entry} {stage : Stage} {oda eta : Option Int} {wasOpen : Bool} :
    decideBypass t es stage oda eta wasOpen = true ↔
      (∃ e ∈ es, e.want = .bypass) ∧ stage = .normal ∧ ∃ o h, oda = some o ∧ eta = some h ∧
        (if wasOpen then t.get .bypassMinOutdoor - 10 ≤ o else t.get .bypassMinOutdoor ≤ o ∧ 20 ≤ h - o) := by
  unfold decideBypass
  cases oda with
  | none => simp
  | some o =>
    cases eta with
    | none => simp
    | some h => cases wasOpen <;> simp [and_assoc]

theorem Damper.command_keeps : (d.command wanted).position = d.position ∧ (d.command wanted).homing = d.homing := by
  unfold command
  (repeat' split) <;> exact ⟨rfl, rfl⟩

theorem Damper.command_state :
    (d.command wanted).state =
      if wanted then
        (if d.state = .closed ∨ (d.state = .closing ∧ d.homing = false) then .opening else d.state)
      else (if d.state = .opened ∨ d.state = .opening then .closing else d.state) := by
  unfold command
  split
  next =>
    cases h : d.state with
    | closed => rfl
    | closing => cases homing : d.homing <;> simp [h]
    | opening | opened => simp [h]
  next => cases h : d.state <;> simp [h]

end

end Sys2Proof.Machine

namespace Sys2Proof

open Machine

/-- Settles O38: the travel second by the damper's state, and a recompute by stage 8 and the damper's command. -/
theorem damperFollowsTheOutcome : Obligations.DamperFollowsTheOutcome := by
  refine ⟨?travel, ?follow⟩
  case travel =>
    rintro s d rfl -
    refine ⟨fun opening short => exec_travelSecond (Damper.travel_opening opening short), fun opening due => ?_,
      fun closing short => exec_travelSecond (Damper.travel_closing closing short), fun closing due => ?_,
      fun stands => exec_travelSecond (Damper.travel_stands stands)⟩
    · have ends : s.damper.atEnd = true := by rw [Damper.atEnd, opening]; exact decide_eq_true (by omega)
      have opens := exec_travelSecond (Damper.travel_opens (wanted := s.op.bypassOpen) opening due)
      exact ⟨opens, (exec_damperTravelEnd ends).trans opens⟩
    · have ends : s.damper.atEnd = true := by rw [Damper.atEnd, closing]; exact decide_eq_true due
      exact ⟨exec_travelSecond (Damper.travel_closes closing due), exec_damperTravelEnd ends⟩
  case follow =>
    intro s loaded
    have damper : (notice s).damper = s.damper.command (notice s).op.bypassOpen := by simp [notice, loaded]
    have op : (notice s).op = resolve s := notice_op loaded
    refine ⟨?_, damper ▸ Damper.command_keeps.1, damper ▸ Damper.command_keeps.2, damper ▸ Damper.command_state, rfl⟩
    rw [op]
    refine decideBypass_iff.trans ?_
    simp only [ProbeRecord.healthy?_eq_some]

end Sys2Proof
end

section
/-! PROOFS. The end of the hour: the HOURLY record and the handover of the filter fields (R138, R175). -/

namespace Sys2Proof.Machine

section
variable {s : State}

/-- The tick that fills the accumulators writes them and returns them to 0 (R175). -/
theorem logMinute_ends (loaded : s.isLoading = false) (last : s.log.hourly.ticks = 59) :
    logMinute s = writeLog (setHourly s Hourly.reset) (hourlyNext s).body := by
  have full : 60 ≤ (hourlyNext s).ticks := by
    show 60 ≤ s.log.hourly.ticks + 1
    omega
  rw [logMinute, if_neg (by simp [loaded])]
  exact if_pos full

/-- The range of T_oda with the tick's own value, where it is healthy (R175). -/
theorem hourlyNext_oda (s : State) :
    (hourlyNext s).oda =
      match (s.frost.probes.get .oda).status, s.log.hourly.oda with
      | .good v, none => some (v, v)
      | .good v, some (lo, hi) => some (min lo v, max hi v)
      | _, held => held := by
  unfold hourlyNext Hourly.add widen
  cases (s.frost.probes.get .oda).status with
  | noValue | faulted => rfl
  | good v => cases s.log.hourly.oda <;> rfl

theorem hourlyNext_notNormal (s : State) :
    (hourlyNext s).notNormal = s.log.hourly.notNormal + if s.frost.record.stage = .normal then 0 else 1 := by
  show s.log.hourly.notNormal + (if (s.frost.record.stage == .normal) = true then 0 else 1) = _
  simp only [beq_iff_eq]

end

end Sys2Proof.Machine

namespace Sys2Proof

open Machine

/-- Settles O41: both rows stand at their moment, and the record is that of the accumulators after the tick. -/
theorem hourEndsInARecordAndAHandover : Obligations.HourEndsInARecordAndAHandover := by
  intro s loaded
  refine ⟨fun range last hrange => ⟨writeLog (setHourly s Hourly.reset) (hourlyNext s).body, ?row, ?wrote, ?reset, ?given, ?frame⟩, fun last => ?handover⟩
  case row =>
    show Host.Outcome.next (if s.isLoading = false ∧ s.log.hourly.ticks = 59 then logMinute s else s) = _
    rw [if_pos ⟨loaded, last⟩, logMinute_ends loaded last]
  case wrote =>
    have body : (hourlyNext s).body =
        .hourly ((s.log.hourly.sumW + s.op.w) / 60) ((s.log.hourly.sumSupply + (s.fans.get .supply).flow) / 60)
          ((s.log.hourly.sumExtract + (s.fans.get .extract).flow) / 60) range
          (max s.log.hourly.maxF s.frost.record.f)
          (s.log.hourly.notNormal + (if s.frost.record.stage = .normal then 0 else 1)) := by
      have oda : (hourlyNext s).oda = range := (hourlyNext_oda s).trans hrange.symm
      rw [← oda, ← hourlyNext_notNormal]
      rfl
    rw [← body]
    exact Logged.wrote (s := s) ((Logged.writeLog (setHourly s Hourly.reset) (hourlyNext s).body).congr rfl rfl rfl) (by simp)
  case reset => exact writeLog_hourly ..
  case given => exact (Delivered.writeLog (setHourly s Hourly.reset) (hourlyNext s).body).mono fun _ _ _ => rfl
  case frame => rfl
  case handover =>
    exact congrArg Host.Outcome.next (if_pos (c := s.isLoading = false ∧ s.filters.hourTicks = 59) ⟨loaded, last⟩)

end Sys2Proof
end

section
/-! PROOFS. START with its checks in order, and ABORT (R146, R154). -/

namespace Sys2Proof.Machine

section
variable {s : State} {sel : Selection}

/-! ### The checks of a START (R146) -/

theorem selectionOf_code {code : Byte} (h : code.toNat = selectionCode sel) : selectionOf code = some sel := by
  unfold selectionOf
  rw [h]
  cases sel <;> rfl

theorem selectionOf_unknown {code : Byte} (h : 2 < code.toNat) : selectionOf code = none := by
  unfold selectionOf
  split
  next zero => omega
  next one => omega
  next two => omega
  next => rfl

theorem anyProbeFaulted_iff : anyProbeFaulted s sel = true ↔ ∃ f, sel.has f = true ∧ sideProbeFaulted s f = true := by
  unfold anyProbeFaulted
  simp only [Bool.or_eq_true, Bool.and_eq_true]
  constructor
  · rintro (h | h)
    · exact ⟨.supply, h⟩
    · exact ⟨.extract, h⟩
  · rintro ⟨f, h⟩
    cases f with
    | supply => exact .inl h
    | extract => exact .inr h

theorem anyFanFaulted_iff : ((s.fans.get .supply).state.faulted || (s.fans.get .extract).state.faulted) = true ↔
    ∃ f, (s.fans.get f).state.faulted = true := by
  rw [Bool.or_eq_true]
  constructor
  · rintro (h | h)
    · exact ⟨.supply, h⟩
    · exact ⟨.extract, h⟩
  · rintro ⟨f, h⟩
    cases f with
    | supply => exact .inl h
    | extract => exact .inr h

theorem startCheck_busy (running : s.runner.procedure.isRunning = true) : startCheck s sel = .busy := if_pos running

/-- With no procedure running a START is refused NOTNOW by the stage, a faulted fan, or a faulted probe of a selected side
(R146). -/
theorem startCheck_refuses (idle : s.runner.procedure.isRunning = false)
    (h : s.frost.record.stage.bars = true ∨ (∃ f, (s.fans.get f).state.faulted = true) ∨
      ∃ f, sel.has f = true ∧ sideProbeFaulted s f = true) : startCheck s sel = .notNow := by
  rw [← anyFanFaulted_iff, ← anyProbeFaulted_iff] at h
  unfold startCheck
  rw [if_neg (by rw [idle]; exact Bool.false_ne_true)]
  split
  next => rfl
  next stage =>
    split
    next => rfl
    next fans => exact if_pos ((h.resolve_left stage).resolve_left fans)

theorem startCheck_passes (idle : s.runner.procedure.isRunning = false) (stage : s.frost.record.stage.bars = false)
    (fans : ∀ f, (s.fans.get f).state.faulted = false)
    (probes : ∀ f, sel.has f = true → sideProbeFaulted s f = false) : startCheck s sel = .ok := by
  have spinning : ((s.fans.get .supply).state.faulted || (s.fans.get .extract).state.faulted) = false := by
    rw [fans, fans]; rfl
  have sound : ¬anyProbeFaulted s sel = true := fun bad => by
    obtain ⟨f, has, faulted⟩ := anyProbeFaulted_iff.mp bad
    exact Bool.false_ne_true ((probes f has).symm.trans faulted)
  unfold startCheck
  rw [idle, stage, spinning, if_neg Bool.false_ne_true, if_neg Bool.false_ne_true, if_neg Bool.false_ne_true, if_neg sound]

theorem Stage.bars_iff (g : Stage) : g.bars = true ↔ g ≠ .normal ∧ g ≠ .watch ∧ g ≠ .preheat := by
  cases g <;> simp [Stage.bars]

theorem FanState.faulted_iff (x : FanState) : x.faulted = true ↔ x = .stalled ∨ x = .retrying ∨ x = .failed := by
  cases x <;> simp [FanState.faulted]

end

end Sys2Proof.Machine

namespace Sys2Proof

open Machine

/-- Settles O46: the checks are the model's own in their order, a START that passes is a notice on the new procedure, and an
ABORT of its owner is the end of one. -/
theorem procedureStartsAndIsAborted : Obligations.ProcedureStartsAndIsAborted := by
  intro s l tag ready
  refine ⟨fun code beyond => ?unknown, fun code sel bad hcode hbad => ⟨fun running => ?busy, fun idle refused => ?notNow,
    fun idle stage fans probes => ?starts⟩, fun idle => ?none, fun owner sel running => ⟨fun other => ?other, fun own => ?own⟩⟩
  case unknown =>
    refine exec_request_plain (c := .start l tag code) rfl ready nofun ?_
    show answerStart s l code = _
    rw [answerStart, selectionOf_unknown beyond]
  case busy =>
    refine exec_request_plain (c := .start l tag code) rfl ready nofun ?_
    show answerStart s l code = _
    rw [answerStart, selectionOf_code hcode]
    dsimp only
    rw [startCheck_busy running]
    rfl
  case notNow =>
    have faulted (f : Side) : bad f = sideProbeFaulted s f := by
      rw [hbad, sideProbeFaulted, FilterRecord.isFaulted, Bool.or_assoc]
    refine exec_request_plain (c := .start l tag code) rfl ready nofun ?_
    show answerStart s l code = _
    rw [answerStart, selectionOf_code hcode]
    dsimp only
    simp only [faulted, ← Stage.bars_iff, ← FanState.faulted_iff] at refused
    rw [startCheck_refuses idle refused]
    rfl
  case starts =>
    have stage : s.frost.record.stage.bars = false := by rcases stage with h | h | h <;> rw [h] <;> rfl
    have spinning (f : Side) : (s.fans.get f).state.faulted = false := by rcases fans f with h | h | h <;> rw [h] <;> rfl
    have sound (f : Side) (has : sel.has f = true) : sideProbeFaulted s f = false := by
      rw [← probes f has, hbad, sideProbeFaulted, FilterRecord.isFaulted, Bool.or_assoc]
    have passed := startCheck_passes idle stage spinning sound
    have answers : answer s l (.start code) = .ok (startProcedure s l sel) [] := by
      show answerStart s l code = _
      rw [answerStart, selectionOf_code hcode]
      exact if_pos passed
    obtain ⟨-, -, -, supply, extract⟩ := ProcedureClear.startProcedure (s := s) (l := l) ready.1 passed rfl
    exact ⟨_, exec_request_ok rfl ready nofun answers, rfl, supply, extract,
      (Resolved.notice (setProcedure s (.settling l sel 0)) ready.1).reply, reply_replies ..,
      reply_othersKept (othersKept_of_eq l rfl), reply_given (Given.of_links rfl), rfl⟩
  case none =>
    refine exec_request_plain (c := .abort l tag) rfl ready nofun ?_
    show answerAbort s l = _
    rw [answerAbort, idle]
    rfl
  case other =>
    refine exec_request_plain (c := .abort l tag) rfl ready nofun ?_
    show answerAbort s l = _
    rw [answerAbort, running]
    exact if_neg other
  case own =>
    have answers : answer s l .abort = .ok (abortProcedure s .abortedRequest) [] := by
      show answerAbort s l = _
      rw [answerAbort, running]
      exact if_pos own
    obtain ⟨runner, wrote, delivered⟩ := finishProcedure_ends running .abortedRequest ⟨none, none⟩
    have idle : (endedRunner s .abortedRequest ⟨none, none⟩).procedure = .idle := by rw [endedRunner, running]
    have frame : abortProcedure s .abortedRequest =
        { s with
          runner := (abortProcedure s .abortedRequest).runner, op := (abortProcedure s .abortedRequest).op
          damper := (abortProcedure s .abortedRequest).damper, links := (abortProcedure s .abortedRequest).links
          log := (abortProcedure s .abortedRequest).log } := by apply State.eq_of_fields <;> simp
    rw [own] at wrote
    exact ⟨_, exec_request_ok rfl ready nofun answers, runner, (congrArg Runner.procedure runner).trans idle, wrote,
      reply_replies .., reply_given delivered.given,
      (finishProcedure_resolved running .abortedRequest _ ready.1).reply, reply_ok_frame frame⟩

end Sys2Proof
end

section
/-! PROOFS. What each item on a link's lines does by the table of its states (R157, R158, R169). -/

namespace Sys2Proof.Machine

section
variable {s : State} {l : Link} {r : LinkRecord} (hr : s.links.get l = r)

/-! ### A byte received (R157) -/

section
include hr

theorem exec_linkByteReceived_disregards {b : Byte} (h : r.receive b = .disregard) :
    exec (.linkByteReceived l b) s = .next s := by
  show execLinkByteReceived l b s = _
  rw [execLinkByteReceived, hr, h]

theorem exec_linkByteReceived_discards {b : Byte} (h : r.receive b = .discard) :
    exec (.linkByteReceived l b) s = .next { s with links := s.links.set l r.discard } := by
  show execLinkByteReceived l b s = _
  rw [execLinkByteReceived, hr, h]
  rfl

theorem exec_linkByteReceived_keeps {b : Byte} {frame : List Byte} (h : r.receive b = .keep frame) :
    exec (.linkByteReceived l b) s =
      .next { s with links := s.links.set l { r with state := .receiving, frame := frame } } := by
  show execLinkByteReceived l b s = _
  rw [execLinkByteReceived, hr, h]
  rfl

/-- The row of a discard is the byte itself, where the byte discards the frame (R157). -/
theorem exec_frameDiscarded_byte {b : Byte} (here : r.state = .receiving) (h : r.receive b = .discard) :
    exec (.frameDiscarded l (.byte b)) s = exec (.linkByteReceived l b) s := by
  rw [exec_linkByteReceived_discards hr h]
  show execFrameDiscarded l (.byte b) s = _
  have discards : r.discards (.byte b) = true := by
    show (r.state == .receiving && r.receive b == .discard) = true
    rw [here, h]
    rfl
  rw [execFrameDiscarded, hr, if_pos discards]
  rfl

theorem exec_frameGapTimeout (here : r.state = .receiving) :
    exec (.frameGapTimeout l) s = .next { s with links := s.links.set l r.discard } := by
  show execFrameGapTimeout l s = _
  rw [execFrameGapTimeout, hr, if_pos here]
  rfl

theorem exec_frameDiscarded_framingError (here : r.state = .receiving) :
    exec (.frameDiscarded l .framingError) s = exec (.frameGapTimeout l) s := by
  rw [exec_frameGapTimeout hr here]
  show execFrameDiscarded l .framingError s = _
  have discards : r.discards .framingError = true := by
    show (r.state == .receiving) = true
    rw [here]
    rfl
  rw [execFrameDiscarded, hr, if_pos discards]
  rfl

theorem exec_replySent : exec (.replySent l) s = .next { s with links := s.links.set l r.sent } := by
  show execReplySent l s = _
  rw [execReplySent, hr]
  rfl

end

/-! ### What a byte does to the reception -/

theorem LinkRecord.receive_listening {b : Byte} (here : r.state = .listening) :
    r.receive b = if b = 0xA5#8 then .keep [b] else .disregard := by
  unfold receive
  rw [here]
  rfl

theorem LinkRecord.receive_receiving {b : Byte} (here : r.state = .receiving) : r.receive b = receiveByte r.frame b := by
  unfold receive
  rw [here]

theorem LinkRecord.receive_busy {b : Byte} (here : r.state = .serving ∨ r.state = .replying ∨ r.state = .inBreak) :
    r.receive b = .disregard := by
  unfold receive
  rcases here with h | h | h <;> rw [h]

/-- The length byte (R157). -/
theorem receiveByte_length {a b : Byte} : receiveByte [a] b = if 2 ≤ b.toNat ∧ b.toNat ≤ 50 then .keep [a, b] else .discard := by
  unfold receiveByte lengthFits
  simp only [Bool.and_eq_true, decide_eq_true_iff]

theorem receiveByte_body {a len b : Byte} {rest : List Byte} (short : rest.length < len.toNat) :
    receiveByte (a :: len :: rest) b = .keep (a :: len :: rest ++ [b]) := if_pos short

/-- The CRC byte, where it does not match (R157). -/
theorem receiveByte_badCrc {a len b : Byte} {rest : List Byte} (whole : rest.length = len.toNat) (long : 2 ≤ rest.length)
    (bad : crc8 (len :: rest) ≠ b) : receiveByte (a :: len :: rest) b = .discard := by
  have closes : receiveByte (a :: len :: rest) b = closeFrame (len :: rest) b := if_neg (by omega)
  rw [closes]
  match rest, long with
  | tag :: kind :: payload, _ => exact if_neg bad

end

end Sys2Proof.Machine

namespace Sys2Proof

open Machine

/-- Settles O51: the table of a link's states, row by row. -/
theorem linksReceiveByTheirTable : Obligations.LinksReceiveByTheirTable := by
  intro s l r hr
  refine ⟨fun listening => ?listening, fun a b receiving frame => ?length, fun a len rest b receiving frame => ?body,
    fun receiving => ⟨exec_frameGapTimeout hr receiving, exec_frameDiscarded_framingError hr receiving⟩,
    fun busy b => exec_linkByteReceived_disregards hr (LinkRecord.receive_busy busy), fun replying => ?sent,
    fun broken => ⟨?sentInBreak, ?leaves⟩⟩
  case listening =>
    refine ⟨exec_linkByteReceived_keeps hr ((LinkRecord.receive_listening listening).trans (if_pos rfl)), fun b other => ?_⟩
    exact exec_linkByteReceived_disregards hr ((LinkRecord.receive_listening listening).trans (if_neg other))
  case length =>
    have byte : r.receive b = if 2 ≤ b.toNat ∧ b.toNat ≤ 50 then .keep [a, b] else .discard := by
      rw [LinkRecord.receive_receiving receiving, frame, receiveByte_length]
    refine ⟨fun fits => ?_, fun unfit => ?_⟩
    · rw [exec_linkByteReceived_keeps hr (byte.trans (if_pos fits)), ← receiving]
    · have discards : r.receive b = .discard := byte.trans (if_neg (by omega))
      exact ⟨exec_linkByteReceived_discards hr discards, exec_frameDiscarded_byte hr receiving discards⟩
  case body =>
    have byte : r.receive b = receiveByte (a :: len :: rest) b := by
      rw [LinkRecord.receive_receiving receiving, frame]
    refine ⟨fun short => ?_, fun whole long bad => ?_⟩
    · rw [exec_linkByteReceived_keeps hr (byte.trans (receiveByte_body short)), ← receiving]
    · have discards : r.receive b = .discard := byte.trans (receiveByte_badCrc whole long bad)
      exact ⟨exec_linkByteReceived_discards hr discards, exec_frameDiscarded_byte hr receiving discards⟩
  case sent => rw [exec_replySent hr, LinkRecord.sent, if_pos replying]
  case sentInBreak =>
    rw [exec_replySent hr, LinkRecord.sent, if_neg (by rw [broken]; exact LinkState.noConfusion)]
  case leaves =>
    show execBreakEnd l s = _
    rw [execBreakEnd, hr, if_pos broken]
    rfl

end Sys2Proof
end

section
/-! PROOFS. The checks of a request before its owner's (R157 to R160). -/

namespace Sys2Proof.Machine

section
variable {c : Instr} {s : State} {l : Link} {tag kind : Byte} {r : Request} {frame : List Byte}

/-! ### Whether a frame is taken (R157, R158) -/

/-- A link takes a whole frame where it waits for one, or has received the beginning of that one. -/
theorem LinkRecord.canReceive_iff {x : LinkRecord} :
    x.canReceive frame = true ↔ x.state = .listening ∨ (x.state = .receiving ∧ ∃ rest, x.frame ++ rest = frame) := by
  unfold canReceive
  cases x.state with
  | listening => simp
  | receiving => simp [List.isPrefixOf_iff_prefix, List.IsPrefix]
  | serving | replying | inBreak => simp

theorem exec_request_taken (spells : requestOf c = some (l, tag, r))
    (taken : (s.links.get l).canReceive (frameBytes tag r.kind r.payload) = true) :
    exec c s = .next (reply l tag r.kind (serve s l r)) := by
  rw [exec_eq, after_request spells, takeRequest, if_pos taken]

theorem exec_request_disregarded (spells : requestOf c = some (l, tag, r))
    (disregarded : ¬(s.links.get l).canReceive (frameBytes tag r.kind r.payload) = true) : exec c s = .next s := by
  rw [exec_eq, after_request spells, takeRequest, if_neg disregarded]

/-! ### The load and the class (R159, R160) -/

theorem serve_loading (loading : s.isLoading = true) : serve s l r = .plain s .wait := if_pos loading

theorem serve_denied (loaded : s.isLoading = false) (service : r.serviceClass = true) (other : l ≠ .service) :
    serve s l r = .plain s .denied := by
  unfold serve
  rw [if_neg (by rw [loaded]; exact Bool.false_ne_true), if_pos ⟨service, other⟩]

theorem serve_answers (loaded : s.isLoading = false) (service : l = .service) : serve s l r = answer s l r := by
  unfold serve
  rw [if_neg (by rw [loaded]; exact Bool.false_ne_true), if_neg fun h => h.2 service]

/-- The kinds of service class (R160). -/
theorem Request.serviceClass_of_kind (h : r.kind = 0x08#8 ∨ r.kind = 0x0C#8 ∨ r.kind = 0x0E#8 ∨ r.kind = 0x0F#8 ∨
    r.kind = 0x10#8 ∨ r.kind = 0x11#8 ∨ r.kind = 0x12#8) : r.serviceClass = true := by
  cases r with
  | setThresholds | setEventMap | setUnknown | clearFan | clearPreheater | clearFrostLockout | clearUnknown | probe | fetch
  | logRead | logRelease | logRewind => rfl
  | status | events | post | withdraw | list | get | set | start | abort | procedure | time | recent =>
    simp [Request.kind] at h

/-- A request of service class that its owner answers BAD, whatever comes before the owner. -/
theorem serve_unknown (service : r.serviceClass = true) (bad : answer s l r = .plain s .bad) :
    serve s l r = .plain s (if s.isLoading then .wait else if l = .service then .bad else .denied) := by
  by_cases loading : s.isLoading = true
  · rw [serve_loading loading, if_pos loading]
  · rw [if_neg loading]
    have loaded : s.isLoading = false := Bool.not_eq_true _ ▸ loading
    by_cases own : l = .service
    · rw [serve_answers loaded own, if_pos own, bad]
    · rw [serve_denied loaded service own, if_neg own]

/-! ### Frames of no request (R159) -/

theorem parseRequest_unknown {payload : List Byte} (h : kind = 0x00#8 ∨ 0x13 < kind.toNat) :
    parseRequest kind payload = .unknownKind := by
  have outside : kind.toNat = 0 ∨ 19 < kind.toNat := h.imp_left (congrArg BitVec.toNat)
  unfold parseRequest
  split
  case h_20 => rfl
  all_goals omega

/-- The frame so far does not outlast the reply. -/
theorem onlyReply_receiving {code : ResultCode} {p : List Byte} :
    onlyReply (receiving s l frame) l tag kind code p = onlyReply s l tag kind code p := by
  simp [onlyReply, receiving, setLink]

/-- The frame of a request that its owner answers BAD, of service class (R159, R160). -/
theorem receiveAll_unknown (canonical : r.canonical) (service : r.serviceClass = true)
    (bad : ∀ u, answer u l r = .plain u .bad) (listens : (s.links.get l).state = .listening) :
    receiveAll l (frameBytes tag r.kind r.payload) s =
      .next (onlyReply s l tag r.kind (if s.isLoading then .wait else if l = .service then .bad else .denied) []) := by
  rw [receiveAll_frame s l (payload_length_le r) listens, takeFrame, serveFrame, parse_payload canonical]
  dsimp only
  rw [serve_unknown service (bad _), reply_plain, onlyReply_receiving]
  rfl

end

end Sys2Proof.Machine

namespace Sys2Proof

open Machine

/-- Settles O59: a request that its link takes comes to `serve`, which puts the load and the class before the owner, and
the frames of no row come to it by their bytes. -/
theorem requestsAreCheckedBeforeTheirOwner : Obligations.RequestsAreCheckedBeforeTheirOwner := by
  refine ⟨fun c s l tag r spells => ⟨fun takes => ?taken, fun busy => ?disregarded⟩,
    fun s l tag kind payload fits unknown listens => ?kind, ?bytes⟩
  case taken =>
    have taken := exec_request_taken spells (LinkRecord.canReceive_iff.mpr takes)
    refine ⟨fun loading => ?_, fun loaded other kinds => ?_⟩
    · rw [taken, serve_loading loading, reply_plain]
    · rw [taken, serve_denied loaded (Request.serviceClass_of_kind kinds) other, reply_plain]
  case disregarded =>
    refine exec_request_disregarded spells fun taken => ?_
    rcases LinkRecord.canReceive_iff.mp taken with state | ⟨state, rest, whole⟩ <;> rw [state] at busy
    · simp at busy
    · simp only [reduceCtorEq, false_or, true_and] at busy
      exact busy rest whole
  case kind =>
    have taken : (s.links.get l).canReceive (frameBytes tag kind payload) = true := LinkRecord.canReceive_iff.mpr (.inl listens)
    show execUnknownRequestKind l tag kind payload s = _
    rw [execUnknownRequestKind, if_pos ⟨fits, taken⟩, takeFrame, serveFrame, parseRequest_unknown unknown]
    rfl
  case bytes =>
    rintro s l tag listens code rfl
    refine ⟨fun target beyond => ?_, fun group values other other' length => ?_⟩
    · exact receiveAll_unknown (r := .clearUnknown target) beyond rfl (fun _ => rfl) listens
    · exact receiveAll_unknown (r := .setUnknown group ⟨values.toArray, length⟩) ⟨other, other'⟩ rfl (fun _ => rfl) listens

end Sys2Proof
end

section
/-! PROOFS. POST and WITHDRAW on the demand table (R1 to R4, R8 to R11). -/

namespace Sys2Proof.Machine

section
variable {t : DemandTable} {slot : Fin 16}

/-! ### The slot a POST takes (R1, R10) -/

theorem mem_sharedSlots : slot ∈ sharedSlots ↔ slot.val ≤ 10 := by
  revert slot
  decide

/-- The shared slots below one of them stand before it. -/
theorem sharedSlots_split (shared : slot.val ≤ 10) :
    sharedSlots = sharedSlots.take slot.val ++ slot :: sharedSlots.drop (slot.val + 1) ∧
      ∀ lower ∈ sharedSlots.take slot.val, lower < slot := by
  revert slot
  decide

theorem DemandTable.freeShared?_none (full : ∀ slot : Fin 16, slot.val ≤ 10 → t.isLive slot = true) :
    t.freeShared? = none := by
  refine List.find?_eq_none.mpr fun slot shared => ?_
  rw [full slot (mem_sharedSlots.mp shared)]
  exact Bool.false_ne_true

/-- The lowest free shared slot (R10). -/
theorem DemandTable.freeShared?_lowest (shared : slot.val ≤ 10) (free : t.isLive slot = false)
    (lowest : ∀ lower : Fin 16, lower < slot → t.isLive lower = true) : t.freeShared? = some slot := by
  obtain ⟨split, below⟩ := sharedSlots_split shared
  refine List.find?_eq_some_iff_append.mpr ⟨by rw [free]; rfl, _, _, split, fun lower before => ?_⟩
  rw [lowest lower (below lower before)]
  rfl

/-! ### The entry a handle names (R2, R11) -/

/-- In a well-formed table a slot's live entry is the one that holds the slot. -/
theorem DemandTable.Ok.live? (ok : t.Ok) {e : Entry} (held : e ∈ t.entries) : t.live? e.slot = some e := by
  cases found : t.live? e.slot with
  | none =>
    have none := List.find?_eq_none.mp found e held
    simp at none
  | some x =>
    have same : x.slot = e.slot := by simpa using List.find?_some found
    exact congrArg some (eq_of_nodup_map ok.distinct (List.mem_of_find?_eq_some found) held same)

theorem DemandTable.live?_some {e : Entry} (h : t.live? slot = some e) : e ∈ t.entries ∧ e.slot = slot :=
  ⟨List.mem_of_find?_eq_some h, by simpa using List.find?_some h⟩

end

/-! ### What a POST asks for, and its reply (R4, R9, R189) -/

section
variable {kind : Byte} {level duration : Half}

theorem postWant_known (known : kind.toNat ≤ 2) : ∃ want, postWant kind level = some want := by
  have cases : kind.toNat = 0 ∨ kind.toNat = 1 ∨ kind.toNat = 2 := by omega
  unfold postWant
  rcases cases with h | h | h <;> rw [h] <;> exact ⟨_, rfl⟩

theorem postWant_unknown (beyond : 2 < kind.toNat) : postWant kind level = none := by
  unfold postWant
  split
  next zero => omega
  next one => omega
  next two => omega
  next => rfl

theorem storedRemaining_getD (n : Nat) : (storedRemaining n).getD 0 = min n 1440 := by
  unfold storedRemaining
  split
  next zero => rw [zero]; rfl
  next => rfl

theorem storedRemaining_clamped (n : Nat) : ((storedRemaining n).any fun m => m != n) = decide (1440 < n) := by
  unfold storedRemaining
  split
  next zero => rw [zero]; rfl
  next =>
    rw [Option.any_some, Bool.eq_iff_iff, bne_iff_ne, decide_eq_true_iff]
    omega

/-- A flag's byte is 1 where it is set (assumption 21). -/
theorem flag_of_decide (p : Prop) [Decidable p] : flag (decide p) = [if p then 1#8 else 0#8] := by
  unfold flag byte1
  by_cases h : p
  · rw [decide_eq_true h, if_pos h]; rfl
  · rw [decide_eq_false h, if_neg h]; rfl

/-- What a POST of a known kind asks for, with its level clamped (R4, R9). -/
theorem postWant_eq {w : Want}
    (h : (kind = 0x00#8 ∧ w = .raise (min level.toNat 1200)) ∨ (kind = 0x01#8 ∧ w = .setback (min level.toNat 1200)) ∨
      (kind = 0x02#8 ∧ w = .bypass)) : postWant kind level = some w := by
  rcases h with ⟨rfl, rfl⟩ | ⟨rfl, rfl⟩ | ⟨rfl, rfl⟩ <;> rfl

/-- The reply of a POST (R9, R10). -/
theorem postPayload_eq {w : Want} (handle : Nat)
    (h : w = .raise (min level.toNat 1200) ∨ w = .setback (min level.toNat 1200) ∨ w = .bypass) :
    postPayload handle w level duration =
      BitVec.ofNat 8 handle ::
        (be16 (if w = .bypass then 0xFFFF else min level.toNat 1200) ++ be16 (min duration.toNat 1440) ++
          [if (w ≠ .bypass ∧ 1200 < level.toNat) ∨ 1440 < duration.toNat then 1#8 else 0#8]) := by
  have stored : be16? w.level? = be16 (if w = .bypass then 0xFFFF else min level.toNat 1200) := by
    rcases h with rfl | rfl | rfl <;> rfl
  have clamped : postClamped w level duration =
      decide ((w ≠ .bypass ∧ 1200 < level.toNat) ∨ 1440 < duration.toNat) := by
    have level : (w.level?.any fun v => v != level.toNat) = decide (w ≠ .bypass ∧ 1200 < level.toNat) := by
      rcases h with rfl | rfl | rfl
      · rw [Want.level?, Option.any_some, Bool.eq_iff_iff, bne_iff_ne, decide_eq_true_iff]
        simp only [ne_eq, reduceCtorEq, not_false_eq_true, true_and]
        omega
      · rw [Want.level?, Option.any_some, Bool.eq_iff_iff, bne_iff_ne, decide_eq_true_iff]
        simp only [ne_eq, reduceCtorEq, not_false_eq_true, true_and]
        omega
      · rfl
    rw [postClamped, level, storedRemaining_clamped, Bool.decide_or]
  rw [postPayload, stored, storedRemaining_getD, clamped, flag_of_decide]
  rfl

end

end Sys2Proof.Machine

namespace Sys2Proof

open Machine

/-- Settles O54: POST's checks are the model's own in their order and an accepted one places its entry; WITHDRAW goes by
the entry that the handle's slot holds. -/
theorem postAndWithdrawKeepTheTable : Obligations.PostAndWithdrawKeepTheTable := by
  intro s l tag ready
  have post (kind : Byte) (level duration : Half) : answer s l (.post kind level duration) = answerPost s l kind level duration := rfl
  have withdraw (handle : Byte) : answer s l (.withdraw handle) = answerWithdraw s l handle := rfl
  refine ⟨fun kind level duration beyond => ?bad, fun kind level duration known held => ?quota,
    fun kind level duration known few full => ?full,
    fun kind level duration slot w remaining e few shared free lowest asked hremaining he => ?placed,
    fun handle none => ?noEntry, fun handle e ok held names => ⟨fun other => ?notOwner, fun own => ?withdrawn⟩⟩
  case bad =>
    refine exec_request_plain (c := .post l tag kind level duration) rfl ready nofun ?_
    rw [post, answerPost, postWant_unknown beyond]
  case quota =>
    obtain ⟨want, wanted⟩ := postWant_known (level := level) known
    refine exec_request_plain (c := .post l tag kind level duration) rfl ready nofun ?_
    rw [post, answerPost, wanted]
    exact if_pos held
  case full =>
    obtain ⟨want, wanted⟩ := postWant_known (level := level) known
    refine exec_request_plain (c := .post l tag kind level duration) rfl ready nofun ?_
    rw [post, answerPost, wanted]
    dsimp only
    rw [if_neg (by omega), DemandTable.freeShared?_none full]
  case placed =>
    have answers : answer s l (.post kind level duration) = .ok (placePost s l slot w duration)
        (postPayload (slot.val * 16 + (s.table.nextGen slot).val) w level duration) := by
      rw [post, answerPost, postWant_eq asked]
      dsimp only
      rw [if_neg (by omega), DemandTable.freeShared?_lowest shared free lowest]
    have resolved : Resolved (placePost s l slot w duration) := Resolved.notice _ ready.1
    have wants := asked.imp And.right (Or.imp And.right And.right)
    subst he hremaining
    refine ⟨_, exec_request_ok rfl ready nofun answers, ?_, ?_, reply_othersKept (othersKept_of_eq l rfl),
      reply_given (Given.of_links rfl), resolved.reply, rfl⟩
    · show s.table.place slot (.link l) w (storedRemaining duration.toNat) s.time.stamp = _
      rw [DemandTable.place, DemandTable.vacate_of_free free]
      rfl
    · exact postPayload_eq _ wants ▸ reply_replies ..
  case noEntry =>
    refine exec_request_plain (c := .withdraw l tag handle) rfl ready nofun ?_
    rw [withdraw, answerWithdraw]
    cases found : s.table.live? ⟨handle.toNat / 16, by omega⟩ with
    | none => rfl
    | some e =>
      obtain ⟨held, slot⟩ := DemandTable.live?_some found
      have differ := none e held
      rw [slot] at differ
      exact if_pos (by dsimp only at differ; omega)
  all_goals
    have bound := e.gen.isLt
    have place : (⟨handle.toNat / 16, by omega⟩ : Fin 16) = e.slot := Fin.ext (by dsimp only; omega)
    have gen : ¬e.gen.val ≠ handle.toNat % 16 := by omega
    have found : answerWithdraw s l handle =
        if e.source = .link l then .ok (notice { s with table := s.table.vacate e.slot }) [] else .plain s .notOwner := by
      rw [answerWithdraw, place, ok.live? held]
      exact if_neg gen
  case notOwner =>
    exact exec_request_plain (c := .withdraw l tag handle) rfl ready nofun (found.trans (if_neg other))
  case withdrawn =>
    exact ⟨_, exec_request_ok (c := .withdraw l tag handle) rfl ready nofun (found.trans (if_pos own)), rfl,
      reply_replies .., reply_othersKept (othersKept_of_eq l rfl), reply_given (Given.of_links rfl),
      (Resolved.notice { s with table := s.table.vacate e.slot } ready.1).reply, rfl⟩

end Sys2Proof
end

section
/-! PROOFS. TIME (R167). -/

namespace Sys2Proof.Machine

section
variable {s : State} {l : Link} {count : Word}

/-- A time that stands already and is synced writes nothing (R167). -/
theorem setTime_same (same : count = s.time.minutes) (synced : s.time.synced = true) :
    setTime s l count = { s with time := s.time.setBy l count } := if_pos ⟨same, synced⟩

theorem setTime_writes (h : count ≠ s.time.minutes ∨ s.time.synced = false) :
    setTime s l count = writeLog { s with time := s.time.setBy l count } (.time s.time.stamp count) := by
  refine if_neg fun ⟨same, synced⟩ => ?_
  rcases h with differ | unsynced
  · exact differ same
  · exact Bool.false_ne_true (unsynced.symm.trans synced)

theorem setTime_given (s : State) (l : Link) (count : Word) : Given s (setTime s l count) fun _ _ => false := by
  unfold setTime
  dsimp only
  split
  next => exact Given.of_links rfl
  next => exact ((Delivered.writeLog _ _).congr rfl rfl).given

/-- A record written stands last in the ring (R174). -/
theorem writeLog_last (s : State) (b : LogBody) :
    (writeLog s b).log.write = s.log.write + 1 ∧
      (writeLog s b).log.ring.getLast? = some { stamp := s.time.stamp, body := b } := by
  obtain ⟨write, ring⟩ := Logged.writeLog s b
  refine ⟨write, ?_⟩
  rw [ring]
  exact List.getLast?_concat

end

end Sys2Proof.Machine

namespace Sys2Proof

open Machine

/-- Settles O58: the source's TIME sets the base and writes by whether the count moves, and another link's is turned away. -/
theorem timeIsSetByItsSource : Obligations.TimeIsSetByItsSource := by
  intro s l tag count ready
  refine ⟨fun source => ?sets, fun m held other => ?ignored⟩
  case sets =>
    have answers : answer s l (.time count) = .ok (setTime s l count) (stampPayload (s.time.setBy l count)) := if_pos source
    have time : (setTime s l count).time = s.time.setBy l count := congrArg State.time (setTime_frame s l count)
    have frame : setTime s l count =
        { s with
          time := (setTime s l count).time, log := (setTime s l count).log, links := (setTime s l count).links } := by
      rw [time]
      exact setTime_frame s l count
    refine ⟨_, exec_request_ok rfl ready nofun answers, time, reply_replies .., fun same synced => ?_, fun moves => ?_,
      reply_given (setTime_given s l count), reply_ok_frame frame⟩
    · have log : (setTime s l count).log = s.log := by rw [setTime_same same synced]
      have links : (setTime s l count).links = s.links := by rw [setTime_same same synced]
      exact ⟨log, reply_othersKept (othersKept_of_eq l links)⟩
    · show (setTime s l count).log.write = _ ∧ (setTime s l count).log.ring.getLast? = _
      rw [setTime_writes moves]
      exact writeLog_last ..
  case ignored =>
    have answers : answer s l (.time count) = { state := s, result := .ignored, payload := stampPayload s.time } := by
      refine if_neg ?_
      rw [held]
      rintro (none | own)
      · cases none
      · exact other (Option.some.inj own)
    have mark : markByte s.time.stamp = [if s.time.synced then 0x00#8 else 0x01#8] := by
      unfold markByte TimeBase.stamp
      cases s.time.synced <;> rfl
    rw [exec_request (c := .time l tag count) rfl ready nofun, answers, stampPayload, mark]
    rfl

end Sys2Proof
end

section
/-! PROOFS. SET_GROUP: what is refused, and what a stored group leaves (R72, R165, R182). -/

namespace Sys2Proof.Machine

/-! ### The group stored (R182, R184) -/

section
variable (u : State) (code : Byte) (l : Link)

/-- The SETTING record of a group, whose value the manual leaves open (assumption 3). -/
theorem Logged.groupStored :
    Logged u (Machine.groupStored u code l) [.setting code (groupRecordValue u.freeCount) (some l)] :=
  (Logged.writeLog { u with freeCount := u.freeCount + 1 } _).congr rfl rfl rfl

theorem Delivered.groupStored : Delivered u (Machine.groupStored u code l) fun _ _ => false :=
  (Delivered.writeLog { u with freeCount := u.freeCount + 1 } _).congr rfl rfl

theorem Resolved.groupStored (loaded : u.isLoading = false) : Resolved (Machine.groupStored u code l) :=
  Resolved.notice (writeLog { u with freeCount := u.freeCount + 1 } _) loaded

end

/-! ### The event map (R165) -/

section
variable {v : Vector Byte 14}

theorem eventMapOf_get (v : Vector Byte 14) (l : Link) : (eventMapOf v).get l = mapColumn v l := by cases l <;> rfl

/-- A set holds no kind that goes by address alone. -/
theorem and_addressedOnly (m : KindSet) :
    (m &&& addressedOnly) = 0#14 ↔ hasKind m .demandExpired = false ∧ hasKind m .probeReady = false := by
  constructor
  · intro none
    have held (k : EventKind) : (hasKind m k && hasKind addressedOnly k) = false := by
      rw [← hasKind_and, none, hasKind_empty]
    exact ⟨by simpa using held .demandExpired, by simpa using held .probeReady⟩
  · rintro ⟨expired, ready⟩
    refine hasKind_ext fun k => ?_
    cases k <;> simp [expired, ready]

theorem mapAllowed_iff (m : PerLink KindSet) :
    mapAllowed m = true ↔ ∀ l, hasKind (m.get l) .demandExpired = false ∧ hasKind (m.get l) .probeReady = false := by
  unfold mapAllowed
  simp only [Bool.and_eq_true, beq_iff_eq, and_addressedOnly]
  constructor
  · rintro ⟨⟨panel, heating⟩, service⟩ l
    cases l with
    | panel => exact panel
    | heating => exact heating
    | service => exact service
  · intro each
    exact ⟨⟨each .panel, each .heating⟩, each .service⟩

/-- The three low bits of a map byte name the links (R189). -/
theorem low_bits_clear (b : Byte) : b.toNat % 8 = 0 ↔ ∀ l, b.getLsbD (linkCode l) = false := by
  have bit (i : Nat) : b.getLsbD i = false ↔ b.toNat / 2 ^ i % 2 = 0 := by
    rw [BitVec.getLsbD, Nat.testBit_eq_decide_div_mod_eq, decide_eq_false_iff_not]
    omega
  simp only [bit]
  constructor
  · intro low l
    cases l <;> simp only [linkCode] <;> omega
  · intro each
    have panel := each .panel
    have heating := each .heating
    have service := each .service
    simp only [linkCode] at panel heating service
    omega

/-- The map is refused by the bytes of DEMAND_EXPIRED and PROBE_READY alone (R165; assumption 16). -/
theorem mapAllowed_eventMapOf (v : Vector Byte 14) :
    mapAllowed (eventMapOf v) = (decide (v[12].toNat % 8 = 0) && decide (v[13].toNat % 8 = 0)) := by
  have expired : v.toList.getD (kindIndex .demandExpired) 0#8 = v[12] := by simp [kindIndex]
  have ready : v.toList.getD (kindIndex .probeReady) 0#8 = v[13] := by simp [kindIndex]
  rw [Bool.eq_iff_iff, mapAllowed_iff, Bool.and_eq_true, decide_eq_true_iff, decide_eq_true_iff, low_bits_clear,
    low_bits_clear, ← forall_and]
  simp only [eventMapOf_get, hasKind_mapColumn, expired, ready]

end

end Sys2Proof.Machine

namespace Sys2Proof

open Machine

/-- Settles O57: a group that passes its check is stored by one operation, which writes its record and notifies. -/
theorem setGroupStoresOrRefuses : Obligations.SetGroupStoresOrRefuses := by
  intro s tag ready
  refine ⟨fun v rising hrising => ⟨fun refused => ?badThresholds, fun rises => ?thresholds⟩,
    fun v byAddress hby => ⟨fun refused => ?badMap, fun allowed => ?map⟩⟩
  case badThresholds =>
    refine exec_request_plain (c := .setGroupFrostThresholds .service tag v) rfl ready (fun _ => rfl) (if_neg ?_)
    have ordered : (thresholdsOf v).ordered = rising := hrising.symm
    rw [ordered, refused]
    exact Bool.false_ne_true
  case thresholds =>
    have ordered : (thresholdsOf v).ordered = rising := hrising.symm
    have answers : answer s .service (.setThresholds v) =
        .ok (groupStored (storeTable s { s.settings with thresholds := thresholdsOf v }) thresholdGroup .service) [] :=
      if_pos (ordered.trans rises)
    exact ⟨_, _, exec_request_ok rfl ready (fun _ => rfl) answers, rfl,
      Logged.wrote (s := s) ((Logged.groupStored (storeTable s _) thresholdGroup .service).congr rfl rfl rfl) (by simp),
      reply_replies .., reply_given ((Delivered.groupStored (storeTable s _) _ _).congr rfl rfl).given,
      (Resolved.groupStored (storeTable s _) _ _ ready.1).reply, rfl⟩
  case badMap =>
    refine exec_request_plain (c := .setGroupEventMap .service tag v) rfl ready (fun _ => rfl) (if_neg ?_)
    rw [mapAllowed_eventMapOf, ← hby, refused]
    exact Bool.false_ne_true
  case map =>
    have answers : answer s .service (.setEventMap v) =
        .ok (groupStored (prunePending (storeTable s { s.settings with eventMap := eventMapOf v })) eventMapGroup .service)
          [] := if_pos ((mapAllowed_eventMapOf v).trans (hby.symm.trans allowed))
    generalize hu : prunePending (storeTable s { s.settings with eventMap := eventMapOf v }) = u at answers
    have pruned (l : Link) (k : EventKind) : hasKind (u.links.get l).pending k =
        (hasKind (s.links.get l).pending k &&
          ((v.toList.getD (kindIndex k) 0#8).getLsbD (linkCode l) || hasKind (s.links.get l).addressed k)) := by
      rw [← hasKind_mapColumn, ← eventMapOf_get, ← LinkRecord.hasKind_keep, ← hu]
      simp [prunePending, storeTable, State.settings]
    subst hu
    refine ⟨_, _, exec_request_ok rfl ready (fun _ => rfl) answers, fun l k => ?_, rfl, rfl, rfl, fun l k other => ?_,
      Logged.wrote (s := s) ((Logged.groupStored (prunePending (storeTable s _)) eventMapGroup .service).congr rfl rfl rfl)
        (by simp),
      reply_replies .., (Resolved.groupStored (prunePending (storeTable s _)) _ _ ready.1).reply, rfl⟩
    · rw [← hasKind_mapColumn, ← eventMapOf_get]
      rfl
    · rw [reply_pending, ← pruned]
      refine ((Delivered.groupStored _ _ _).given l k other).trans (Bool.or_false _)

end Sys2Proof
end

section
/-! PROOFS. The reading requests: their replies byte by byte (R13, R154, R161, R164, R178, R181, R189, R190). -/

namespace Sys2Proof.Machine

/-! ### Bytes -/

theorem flag_eq (b : Bool) : flag b = [if b then 0x01#8 else 0x00#8] := by cases b <;> rfl

/-- The byte of a field of one byte: 0xFF where it is absent. -/
def byteOr (o : Option Nat) : Byte := (o.map (BitVec.ofNat 8)).getD 0xFF#8

theorem byte1?_eq (o : Option Nat) : byte1? o = [byteOr o] := by cases o <;> rfl

theorem maskOf_pair (b c : Bool) : maskOf [b, c] = (if b then 1 else 0) + (if c then 2 else 0) := by
  cases b <;> cases c <;> rfl

theorem maskOf_triple (a b c : Bool) :
    maskOf [a, b, c] = (if a then 1 else 0) + (if b then 2 else 0) + (if c then 4 else 0) := by
  cases a <;> cases b <;> cases c <;> rfl

theorem flatMap_byte1 (xs : List Nat) : xs.flatMap byte1 = xs.map (BitVec.ofNat 8) :=
  List.map_eq_flatMap.symm

theorem take_length_take {α : Type} (xs : List α) (n : Nat) : xs.take (xs.take n).length = xs.take n := by
  conv =>
    lhs
    rw [← List.take_append_drop n xs]
  exact List.take_left' (by rw [List.take_append_drop])

/-- A field read at its offset. -/
theorem Stands.slice {bs field : List Byte} {i : Nat} (h : Stands bs i field) : (bs.drop i).take field.length = field := by
  obtain ⟨before, later, rfl, rfl⟩ := h.split
  rw [List.drop_left, List.take_left]

/-! ### The parts of a STATUS (R190) -/

section
variable {bits : Bool → Bool → Nat} (hbits : ∀ b c, bits b c = (if b then 1 else 0) + (if c then 2 else 0))
include hbits

theorem maskOf_bits (b c : Bool) : maskOf [b, c] = bits b c := (maskOf_pair b c).trans (hbits b c).symm

theorem fanBytes_eq (x : FanRecord) :
    fanBytes x = BitVec.ofNat 8 (fanStateCode x.state) :: be16 x.target ++ be16 x.duty ++ be16 x.flow ++ be16 x.speed ++
      [BitVec.ofNat 8 (bandCode x.band), BitVec.ofNat 8 (bits x.shortfall x.probeFault), BitVec.ofNat 8 x.attempts] := by
  simp only [fanBytes, maskOf_bits hbits, byte1, List.append_assoc, List.cons_append, List.nil_append]

end

theorem filterBytes_eq (x : FilterRecord) :
    filterBytes x = [BitVec.ofNat 8 (filterStateCode x.state), BitVec.ofNat 8 x.lifeUsed, BitVec.ofNat 8 x.loading,
      if x.probeFault then 0x01#8 else 0x00#8] := by
  rw [filterBytes, flag_eq]
  rfl

theorem zoneBytes_eq (z : ZoneRecord) :
    zoneBytes z = [BitVec.ofNat 8 (zoneTypeCode z.zoneType), BitVec.ofNat 8 (zoneStateCode z.state),
      if z.stale then 0x01#8 else 0x00#8] ++ be16? z.baseline ++ be16? (z.last.map Sample.rh) ++
        be16? (z.last.map Sample.ah) := by
  simp only [zoneBytes, flag_eq, byte1, List.append_assoc, List.cons_append, List.nil_append]

theorem length_opBytes (o : OperatingPoint) : (opBytes o).length = 12 := by
  simp only [opBytes, List.length_append, length_byte1, length_byte1?, length_be16]

theorem length_fanBytes (x : FanRecord) : (fanBytes x).length = 12 := by
  simp only [fanBytes, List.length_append, length_byte1, length_be16]

theorem length_frostBytes (t : Settings) (g : FrostRecord) : (frostBytes t g).length = 10 := by
  simp only [frostBytes, List.length_append, length_byte1, length_byte1?, length_be16]

theorem length_probeBytes (p : ProbeRecord) : (probeBytes p).length = 3 := by
  simp only [probeBytes, List.length_append, length_byte1, length_be16s?]

theorem length_filterBytes (x : FilterRecord) : (filterBytes x).length = 4 := by
  simp only [filterBytes, List.length_append, length_byte1, length_flag]

theorem length_zoneBytes (z : ZoneRecord) : (zoneBytes z).length = 9 := by
  simp only [zoneBytes, List.length_append, length_byte1, length_flag, length_be16?]

theorem length_extractBytes (x : ExtractRecord) : (extractBytes x).length = 5 := by
  simp only [extractBytes, List.length_append, length_flag, length_be16?]

theorem length_timeBytes (t : TimeBase) : (timeBytes t).length = 5 := by
  simp only [timeBytes, List.length_append, length_byte1, length_wordBytes]

theorem length_statusPayload (s : State) (l : Link) : (statusPayload s l).length = 118 := by
  unfold statusPayload
  simp only [List.length_append, length_opBytes, length_fanBytes, length_frostBytes, length_probeBytes, length_filterBytes,
    length_zoneBytes, length_extractBytes, length_timeBytes, length_byte1, length_flag, length_be16]

/-! ### GET (R181) -/

/-- The codes 64 to 70 name the thresholds in their order (R189). -/
theorem thresholdOfCode_some {th : Thresholds} {i v : Nat} (h : th.toList[i]? = some v) :
    thresholdOfCode th (64 + i) = some v := by
  match i, h with
  | 0, h | 1, h | 2, h | 3, h | 4, h | 5, h | 6, h => exact h

theorem thresholdOfCode_none {th : Thresholds} {c : Nat} (h : c < 64 ∨ 70 < c) : thresholdOfCode th c = none := by
  unfold thresholdOfCode
  split
  case h_8 => rfl
  all_goals omega

section
variable {t : Settings} {code : Byte}

theorem getPayload_threshold {v : Nat} (unkeyed : 63 < code.toNat) (h : thresholdOfCode t.thresholds code.toNat = some v) :
    getPayload t code = some (be32 v) := by
  simp only [getPayload, keyOfCode_eq_none (.inr unkeyed), h]

/-- A code that names no key and no single threshold names a group or nothing (R189). -/
theorem getPayload_group (unkeyed : code.toNat = 0 ∨ 70 < code.toNat) :
    getPayload t code =
      if code = thresholdGroup then some (thresholdBytes t.thresholds)
      else if code = eventMapGroup then some (mapBytes t.eventMap)
      else none := by
  have single : thresholdOfCode t.thresholds code.toNat = none := thresholdOfCode_none (by omega)
  simp only [getPayload, keyOfCode_eq_none (show code.toNat = 0 ∨ 63 < code.toNat by omega), single]

end

/-! ### LIST and PROCEDURE (R13, R154) -/

theorem Entry.length_bytes (e : Entry) : e.bytes.length = 12 := by
  simp only [Entry.bytes, List.length_append, length_byte1, length_be16?, length_flag, length_wordBytes]

theorem DemandTable.length_page (t : DemandTable) (start : Byte) :
    (t.page start).length = min 6 (t.entries.length - start.toNat) := by
  rw [page, List.length_take, List.length_drop]

theorem length_procedureBytes (p : Procedure) : (procedureBytes p).length = 5 := by cases p <;> rfl

theorem length_lastBytes (x : LastOutcome) : (lastBytes x).length = 12 := by
  unfold lastBytes
  simp only [List.length_append, length_byte1, length_byte1?, length_be16?]
  cases x.stamp <;> rfl

end Sys2Proof.Machine

namespace Sys2Proof

open Machine

/-- Settles O53: each reading request is answered with the bytes of the table, and EVENTS empties what it has carried. -/
theorem readingRequestsReply : Obligations.ReadingRequestsReply := by
  intro s l tag ready
  have gets {code : Byte} {p : List Byte} (h : getPayload s.settings code = some p) : answer s l (.get code) = .ok s p := by
    show answerGet s code = _
    rw [answerGet, h]
  refine ⟨fun fan probe filter zone bits hbits hfan hprobe hfilter hzone => ?status, ?events, fun start => ?list, ?procedure,
    fun k => ?key, fun code unknown => ?unknown, fun values hvalues => ⟨fun i v at' => ?threshold, ?thresholds⟩, ?map,
    fun n => ?recent⟩
  case status =>
    have replies := exec_request_reads (c := .status l tag) (tag := tag) (r := .status) (p := statusPayload s l) rfl ready nofun rfl
    refine ⟨statusPayload s l, replies, length_statusPayload s l, ?_⟩
    obtain rfl : probe = probeBytes := funext fun p => by
      rw [hprobe p, probeBytes, ProbeRecord.value?]
      cases p.status with
      | noValue | good => rfl
      | faulted held => cases held <;> rfl
    obtain rfl : fan = fanBytes := funext fun x => (hfan x).trans (fanBytes_eq hbits x).symm
    obtain rfl : filter = filterBytes := funext fun x => (hfilter x).trans (filterBytes_eq x).symm
    obtain rfl : zone = zoneBytes := funext fun z => (hzone z).trans (zoneBytes_eq z).symm
    unfold statusPayload
    simp only [opBytes, frostBytes, extractBytes, timeBytes, maskOf_bits hbits, byte1?_eq, flag_eq, byte1,
      wordBytes, gapElapsed, List.append_assoc, List.cons_append, List.nil_append, List.append_cancel_left_eq,
      List.cons.injEq, true_and, and_true]
    refine ⟨?_, ?_, ?_⟩
    · cases s.op.contributing <;> rfl
    · cases s.frost.record.blindPhase with
      | none => rfl
      | some phase => cases phase <;> rfl
    · cases s.time.source with
      | none => rfl
      | some m => cases m <;> rfl
  case events =>
    have emptied : (emptyPending s l).links.get l = (s.links.get l).emptied := by simp [emptyPending]
    have own : (reply l tag 0x02#8 (.ok (emptyPending s l) (eventsPayload (s.links.get l)))).links.get l =
        { (s.links.get l).emptied with
          state := .replying, frame := []
          reply := some { tag := tag, kind := 0x02#8, result := .ok, payload := eventsPayload (s.links.get l) } } := by
      rw [reply_links, if_pos rfl, Answer.ok_state, emptied]
      rfl
    have others : othersKept s (emptyPending s l) l := fun m other => by simp [emptyPending, other]
    refine ⟨_, exec_request_ok (c := .events l tag) (r := .events) rfl ready nofun rfl, ⟨_, reply_replies .., ?_⟩,
      congrArg LinkRecord.pending own, congrArg LinkRecord.addressed own, congrArg LinkRecord.expired own,
      congrArg LinkRecord.attention own, reply_othersKept others, rfl⟩
    rw [eventsPayload, flatMap_byte1]
    rfl
  case list =>
    have length : (s.table.page start).length = min 6 (s.table.entries.length - start.toNat) := DemandTable.length_page ..
    have bytes : ((s.table.page start).flatMap Entry.bytes).length = 12 * (s.table.page start).length := by
      rw [List.length_flatMap, List.map_congr_left fun e _ => Entry.length_bytes e]
      rw [List.map_const', List.sum_replicate_nat, Nat.mul_comm]
    refine ⟨_, exec_request_reads (c := .list l tag start) (r := .list start) rfl ready nofun rfl, ?_, ?_, fun i e few at' => ?_⟩
    · rw [← length]; rfl
    · rw [List.length_append, bytes, length]; rfl
    · have place : (s.table.page start)[i]? = some e := by
        rw [DemandTable.page, List.getElem?_take, if_pos few, List.getElem?_drop, at']
      have stands : Stands (byte1 s.table.entries.length ++ byte1 (s.table.page start).length ++
          (s.table.page start).flatMap Entry.bytes) 2 ((s.table.page start).flatMap Entry.bytes) :=
        ⟨_, [], (by rw [List.append_nil]), rfl⟩
      have field := (stands.each Entry.length_bytes place).slice
      rw [Entry.length_bytes] at field
      refine field.trans ?_
      rw [Entry.bytes, flag_eq]
      rfl
  case procedure =>
    have width := length_procedureBytes s.runner.procedure
    refine ⟨_, exec_request_reads (c := .procedure l tag) (r := .procedure) rfl ready nofun rfl, ?_, fun idle => ?_,
      fun o sel n here => ?_, fun o sel n taken here => ?_, fun x last => ?_⟩
    · rw [List.length_append, width, length_lastBytes]
    · rw [List.take_left' width, idle]; rfl
    · rw [List.take_left' width, here]; rfl
    · rw [List.take_left' width, here]; rfl
    · have codes : byte1 (outcomeCode x.outcome) ++ byte1? (x.selection.map selectionCode) ++ byte1? (x.owner.map linkCode) =
          [BitVec.ofNat 8 (outcomeCode x.outcome),
            match x.selection with | some sel => BitVec.ofNat 8 (selectionCode sel) | none => 0xFF#8,
            match x.owner with | some o => BitVec.ofNat 8 (linkCode o) | none => 0xFF#8] := by
        cases x.selection with
        | none => cases x.owner <;> rfl
        | some sel => cases x.owner <;> rfl
      rw [List.drop_left' width, last]
      refine congrArg (· ++ be16? x.references.supply ++ be16? x.references.extract) (congr (congrArg (· ++ ·) codes) ?_)
      cases x.stamp with
      | none => rfl
      | some st => exact congrArg (wordBytes st.minutes ++ ·) (flag_eq st.unsynced)
  case key =>
    refine ⟨_, exec_request_reads (r := .get (BitVec.ofNat 8 (keyCode k))) rfl ready nofun (gets ?_), rfl⟩
    simp only [getPayload, keyOfCode_byte]
    rfl
  case unknown =>
    refine exec_request_plain (c := .getKey l tag code) rfl ready nofun ?_
    have nothing : getPayload s.settings code = none := by
      rcases unknown with rfl | ⟨beyond, thresholds, eventMap⟩
      · rfl
      · exact (getPayload_group (.inr beyond)).trans ((if_neg thresholds).trans (if_neg eventMap))
    show answerGet s code = _
    rw [answerGet, nothing]
  case threshold =>
    subst hvalues
    have small : i < 7 := (List.getElem?_eq_some_iff.mp at').1
    have code : (BitVec.ofNat 8 (64 + i)).toNat = 64 + i := by rw [BitVec.toNat_ofNat]; omega
    refine exec_request_reads (r := .get (BitVec.ofNat 8 (64 + i))) rfl ready nofun (gets ?_)
    exact getPayload_threshold (by omega) (by rw [code]; exact thresholdOfCode_some at')
  case thresholds =>
    subst hvalues
    exact exec_request_reads (r := .get 0xF0#8) rfl ready nofun (gets rfl)
  case map =>
    refine ⟨_, exec_request_reads (r := .get 0xF1#8) rfl ready nofun (gets rfl), rfl, fun k => ?_⟩
    rw [mapBytes, List.getElem?_map, allKinds_get, ← maskOf_triple]
    rfl
  case recent =>
    have count : (s.log.recent (readCount n)).length =
        min (min (max n.toNat 1) 8) (s.log.ring.filter fun r => !r.isHourly).length := by
      rw [Log.recent, List.length_take, List.length_reverse, readCount, clampNat]
    refine ⟨_, _, exec_request_reads (r := .recent n) rfl ready nofun rfl, rfl, ?_⟩
    rw [← count]
    have taken : List.take (s.log.recent (readCount n)).length
        (s.log.ring.filter fun r => !r.isHourly).reverse = s.log.recent (readCount n) :=
      take_length_take ..
    rw [taken]
    rfl

end Sys2Proof
end
